-- ==== Sys2Proof/Word.lean ====
section
/-! DEFINITION. The widths and index ranges of the 2316, and `Table`, a fixed number of like cells
that is plain data and that Lean's kernel evaluates. -/

namespace Sys2Proof

/-- One byte of a frame. -/
abbrev Byte := BitVec 8

/-- A two-byte field (10 R169). -/
abbrev Half := BitVec 16

/-- A four-byte field: versions, check values, vehicle ids, seconds counts, counters. -/
abbrev Word := BitVec 32

/-- A match key: class in the upper 16 bits, revision in the lower 8 (00, Match keys). -/
abbrev MatchKey := BitVec 24

/-- A station address of the uplink. -/
abbrev Address := BitVec 48

/-- A version, compared as an unsigned number (00, Versions). -/
abbrev Version := Word

abbrev BayId := Fin 16
abbrev StreamId := Fin 16
abbrev EntryId := Fin 64
abbrev SlotId := Fin 128
abbrev DepartureId := Fin 64
abbrev ResumeId := Fin 32

/-- A job record place of a bay (03 R49). -/
abbrev Place := Fin 8

/-- An agent channel of a bay (03 R54). -/
abbrev ChannelId := Fin 4

/-- A unit address within a vehicle (01 R11). -/
abbrev UnitAddr := Fin 64

/-- Rate codes 0, 1, 2, 3 stand for 10, 25, 50, 100 Mb/s (06 R108). -/
abbrev RateCode := Fin 4

/-- A 32-bit counter that stops at its largest value (00, Counters). -/
def satInc (c : Word) : Word := if c = BitVec.allOnes 32 then c else c + 1

/-- `n` cells of one kind. The proof field keeps the number of cells, so that reading at a
`Fin n` is total. -/
structure Table (n : Nat) (α : Type) where
  cells : List α
  size : cells.length = n
deriving DecidableEq, Repr

/-- Every cell holding the same value. -/
def Table.fill (n : Nat) {α : Type} (a : α) : Table n α := ⟨List.replicate n a, by simp⟩

/-- The cell at an index. -/
def Table.get {n : Nat} {α : Type} (t : Table n α) (i : Fin n) : α :=
  t.cells.get ⟨i.val, by rw [t.size]; exact i.isLt⟩

/-- The table with one cell replaced. -/
def Table.set {n : Nat} {α : Type} (t : Table n α) (i : Fin n) (a : α) : Table n α :=
  ⟨t.cells.set i.val a, by simp [t.size]⟩

/-- Every cell changed in the same way. -/
def Table.map {n : Nat} {α β : Type} (f : α → β) (t : Table n α) : Table n β :=
  ⟨t.cells.map f, by simp [t.size]⟩

/-- One cell changed by a function. -/
def Table.modify {n : Nat} {α : Type} (t : Table n α) (i : Fin n) (f : α → α) : Table n α :=
  t.set i (f (t.get i))

/-- The lowest index whose cell meets a test. -/
def Table.find {n : Nat} {α : Type} (t : Table n α) (p : α → Bool) : Option (Fin n) :=
  (List.finRange n).find? fun i => p (t.get i)

@[simp] theorem Table.get_set_self {n : Nat} {α : Type} (t : Table n α) (i : Fin n) (a : α) :
    (t.set i a).get i = a := by
  simp [Table.get, Table.set]

@[simp] theorem Table.get_set_ne {n : Nat} {α : Type} (t : Table n α) {i j : Fin n} (a : α)
    (h : i ≠ j) : (t.set i a).get j = t.get j := by
  have h' : i.val ≠ j.val := fun e => h (Fin.ext e)
  simp [Table.get, Table.set, h']

theorem Table.get_set {n : Nat} {α : Type} (t : Table n α) (i j : Fin n) (a : α) :
    (t.set i a).get j = if i = j then a else t.get j := by
  by_cases h : i = j
  · subst h; simp
  · simp [h]

@[simp] theorem Table.get_fill {n : Nat} {α : Type} (a : α) (i : Fin n) :
    (Table.fill n a).get i = a := by
  simp [Table.get, Table.fill]

@[simp] theorem Table.get_map {n : Nat} {α β : Type} (f : α → β) (t : Table n α) (i : Fin n) :
    (t.map f).get i = f (t.get i) := by
  simp [Table.get, Table.map]

@[simp] theorem Table.get_modify_self {n : Nat} {α : Type} (t : Table n α) (i : Fin n)
    (f : α → α) : (t.modify i f).get i = f (t.get i) := by
  simp [Table.modify]

@[simp] theorem Table.get_modify_ne {n : Nat} {α : Type} (t : Table n α) {i j : Fin n}
    (f : α → α) (h : i ≠ j) : (t.modify i f).get j = t.get j := by
  simp [Table.modify, h]

/-- Two tables that read alike at every index are the same table. -/
theorem Table.ext_get {n : Nat} {α : Type} {t u : Table n α} (h : ∀ i, t.get i = u.get i) :
    t = u := by
  obtain ⟨a, ha⟩ := t
  obtain ⟨b, hb⟩ := u
  have : a = b := by
    apply List.ext_getElem (by rw [ha, hb])
    intro i h1 h2
    have := h ⟨i, by omega⟩
    simpa [Table.get] using this
  subst this
  rfl

@[simp] theorem Table.set_get_self {n : Nat} {α : Type} (t : Table n α) (i : Fin n) :
    t.set i (t.get i) = t := by
  apply Table.ext_get
  intro j
  by_cases h : i = j
  · subst h; simp
  · simp [h]

@[simp] theorem Table.set_set {n : Nat} {α : Type} (t : Table n α) (i : Fin n) (a b : α) :
    (t.set i a).set i b = t.set i b := by
  apply Table.ext_get
  intro j
  by_cases h : i = j
  · subst h; simp
  · simp [h]

/-- All sixteen bays, in ascending order. -/
def allBays : List BayId := List.finRange 16

/-- All sixteen streams, in ascending order. -/
def allStreams : List StreamId := List.finRange 16

/-- The eight record places of a bay, in ascending order. -/
def allPlaces : List Place := List.finRange 8

/-- The four channels, in ascending order. -/
def allChannels : List ChannelId := List.finRange 4

/-- The sixty-four manifest entries, in ascending order. -/
def allEntries : List EntryId := List.finRange 64

/-- The hundred and twenty-eight pool slots, in ascending order. -/
def allSlots : List SlotId := List.finRange 128

/-- The sixty-four departure slots, in ascending order. -/
def allDepartures : List DepartureId := List.finRange 64

/-- The thirty-two resume record places, in ascending order. -/
def allResumePlaces : List ResumeId := List.finRange 32

/-- An index read from a number that a frame or request carries, or none when it names nothing. -/
def idx (n : Nat) (k : Nat) : Option (Fin n) := if h : k < n then some ⟨k, h⟩ else none

@[simp] theorem idx_val {n : Nat} (i : Fin n) : idx n i.val = some i := by
  simp [idx]

end Sys2Proof
end

