-- ==== Sys2Proof/Machine/Bytes.lean ====
section
/-! DEFINITION. Byte order (10 R169: most significant byte first) and the 32-bit check of BLOCK
payloads and bay frames (00, Block CRC and Bay frame check). -/

namespace Sys2Proof.Machine

/-- One byte of a number. -/
def u8 (k : Nat) : List Byte := [BitVec.ofNat 8 k]

/-- Two bytes, most significant first. -/
def u16 (k : Nat) : List Byte := [BitVec.ofNat 8 (k / 256), BitVec.ofNat 8 k]

/-- Four bytes, most significant first. -/
def u32 (k : Nat) : List Byte :=
  [BitVec.ofNat 8 (k / 16777216), BitVec.ofNat 8 (k / 65536), BitVec.ofNat 8 (k / 256),
    BitVec.ofNat 8 k]

/-- Six bytes of a station address, most significant first. -/
def u48 (a : Address) : List Byte := u16 (a.toNat / 4294967296) ++ u32 (a.toNat % 4294967296)

/-- An indication: 0 for no or false, 1 for yes or true (10 R170). -/
def flagByte (b : Bool) : List Byte := u8 b.toNat

/-- Reading a number, most significant byte first. -/
def readBytes (bytes : List Byte) : Nat := bytes.foldl (fun n b => n * 256 + b.toNat) 0

/-- The number in `len` bytes from offset `at_`. -/
def field (bytes : List Byte) (at_ len : Nat) : Nat := readBytes ((bytes.drop at_).take len)

/-- The byte at an offset, 0 past the end. -/
def byteAt (bytes : List Byte) (at_ : Nat) : Byte := bytes.getD at_ 0

/-- Bit 0 of a flag byte (10 R169). -/
def bit0 (b : Byte) : Bool := b.getLsbD 0

/-- Bit 1 of a flag byte. -/
def bit1 (b : Byte) : Bool := b.getLsbD 1

/-- One bit of the check: the generator 0x04C11DB7 taken least significant bit first. -/
def crcBit (r : Word) : Word :=
  if r.getLsbD 0 then (r >>> 1) ^^^ 0xEDB88320#32 else r >>> 1

/-- One byte of the check. -/
def crcByte (r : Word) (b : Byte) : Word :=
  Nat.repeat crcBit 8 (r ^^^ b.setWidth 32)

/-- The check: the register starts at all ones, and the final value is inverted
(00, Block CRC; 10 R169). -/
def crc32 (bytes : List Byte) : Word := ~~~ (bytes.foldl crcByte (BitVec.allOnes 32))

end Sys2Proof.Machine
end

