-- ==== Sys2Proof/Config.lean ====
section
/-! DEFINITION. What every 2316 fixes: sizes, limits that no request changes, and the values of the
configuration table after power-on and bridge reset (08, configuration values). The configuration
values themselves are state, since WRITE CONFIG changes them. The one free value is what the strap
pins show at a reset by request, which no command carries (log 5). -/

namespace Sys2Proof

/-- The uplink's locally administered base address 02-56-47-00-00, above the bridge number byte
(00, Pins and station address). -/
def Config.stationBase : Address := 0x025647000000#48

/-- The levels of the four strap pins as a reset by request reads them (08 R145), for each such reset
since power was first applied: a free value, of which nothing is known (log 5). -/
opaque Config.strapPins : Nat → BitVec 4

/-- The all-ones broadcast address (08 R146). -/
def Config.broadcast : Address := BitVec.allOnes 48

/-- Blocks carry 1024 payload bytes, the last one of an image excepted (00, Blocks). -/
def Config.blockBytes : Nat := 1024

/-- Entries of a bay's transmit queue of blocks (03 R64). -/
def Config.txEntries : Nat := 32

/-- Gap ranges of a job (03 R59). -/
def Config.gapRanges : Nat := 8

/-- Members of a job (01 R10). -/
def Config.jobMembers : Nat := 32

/-- Records of a bay's inventory (01 R11). -/
def Config.inventoryRecords : Nat := 32

/-- Slots of the block pool (02 R36). -/
def Config.poolSlots : Nat := 128

/-- Frames of a bay's PASS-DOWN queue (06 R108). -/
def Config.passDownFrames : Nat := 8

/-- Block frames between two PASS-DOWN frames (06 R125). -/
def Config.blockRun : Nat := 8

/-- Responses of the response queue (08 R145). -/
def Config.responses : Nat := 8

/-- Requests of the request queue (08 R148). -/
def Config.requests : Nat := 4

/-- Notices of the notice queue (08 R156). -/
def Config.noticeSlots : Nat := 32

/-- Frames of the PASS-UP queue (08 R145). -/
def Config.passUpFrames : Nat := 16

/-- The heartbeat period from power-on, bridge reset and teardown until the next HELLO, in ms
(06 R119). -/
def Config.idlePeriod : Nat := 500

/-- The switch timer, and the wait for signal that follows a switch failure, in ms (06 R112). -/
def Config.switchTime : Nat := 200

/-- The time a port is held in FORCED, in ms (06 R110). -/
def Config.forcedTime : Nat := 100

/-- The intake time, in ms (07 R128). -/
def Config.intakeTime : Nat := 10000

/-- How a frame error acts on the qualifier (06 R109, R118). -/
inductive Config.ErrorMode where
  | discard
  | relatch
deriving DecidableEq, Repr

/-- The bridge-wide configuration values (08, configuration values). Times are in the unit of their
range: ms, s, s of day or min. -/
structure Config.Settings where
  protocolType : Half
  holdLimit : Nat
  streamWindow : Nat
  openTimeout : Nat
  receiptTimeout : Nat
  closeTimeout : Nat
  guardTime : Nat
  th1 : Nat
  th2 : Nat
  ageQuantum : Nat
  activationTimeout : Nat
  windowStart : Nat
  windowEnd : Nat
  threshold : Nat
  errorMode : Config.ErrorMode
  holdingTime : Nat
  resumeHold : Nat
deriving DecidableEq, Repr

/-- The values after power-on and bridge reset (08, configuration values). -/
def Config.settings : Config.Settings where
  protocolType := 0xB7A2#16
  holdLimit := 40
  streamWindow := 16
  openTimeout := 1000
  receiptTimeout := 500
  closeTimeout := 180
  guardTime := 300
  th1 := 3600
  th2 := 900
  ageQuantum := 250
  activationTimeout := 180
  windowStart := 0
  windowEnd := 0
  threshold := 4
  errorMode := .discard
  holdingTime := 15
  resumeHold := 30

/-- The maximum rate of each bay after power-on and bridge reset (06 R109). -/
def Config.maxRate : RateCode := 3

/-- The service-time estimate after power-on and bridge reset, in µs (04 R80). -/
def Config.serviceTime : Nat := 900

/-- A number brought into a range: below it, its lowest value, above it, its highest (08 R151). -/
def clampTo (lo hi v : Nat) : Nat := if v < lo then lo else if hi < v then hi else v

end Sys2Proof
end

