-- ==== Sys2Proof/Syntax.lean ====
section
/-! DEFINITION. The commands of the 2316: one constructor for each row of spec/opcode_table.json.
Frames that the spec calls valid are given by their named fields (00, Layouts); frames that a test
may reject are given as received. Decode.lean turns the bytes of a received frame into the command
it is. -/

namespace Sys2Proof

/-- An Ethernet frame as the uplink port receives it (08 R146). Whether its check sequence is right
is the line's own report (log 25); `body` is everything after the type field. -/
structure EthFrame where
  checkGood : Bool
  dest : Address
  src : Address
  type : Half
  body : List Byte
deriving DecidableEq, Repr

/-- A BLOCK frame that has passed R146 (10, BLOCK and STREAM STATUS). Its payload length field is
the number of payload bytes (10 R172). -/
structure BlockFrame where
  stream : Byte
  sequence : Half
  crc : Word
  payload : List Byte
deriving DecidableEq, Repr

/-- A REQUEST frame that has passed tests 1 to 4 of R146: its source address, its YFP length field,
and the bytes carried after the YFP header (08 R148, 10 R172). -/
structure RequestFrame where
  src : Address
  length : Half
  bytes : List Byte
deriving DecidableEq, Repr

/-- A PASS-DOWN frame that has passed R146 (10, PASS-DOWN and PASS-UP). -/
structure PassDownFrame where
  bay : Byte
  body : List Byte
deriving DecidableEq, Repr

/-- HELLO (10, the central agent frames). -/
structure HelloFrame where
  vehicle : Word
  period : Half
  channels : Byte
  credits : Byte
  vehicleState : Byte
deriving DecidableEq, Repr

/-- One entry of an INVENTORY frame; `standby` is meaningful when `standbyPresent` (01 R12). -/
structure InventoryItem where
  unit : Byte
  standbyPresent : Bool
  cls : Half
  revision : Byte
  running : Version
  standby : Version
deriving DecidableEq, Repr

/-- OPEN ACK (03 R56). -/
structure OpenAckFrame where
  channel : Byte
  tag : Byte
  refused : Bool
deriving DecidableEq, Repr

/-- RECEIPT, with its 1 to 8 sequences (03 R66). -/
structure ReceiptFrame where
  channel : Byte
  tag : Byte
  sequences : List Half
deriving DecidableEq, Repr

/-- One entry of a CLOSE RESULT: a unit address, and whether it is marked "failed" (03 R67). -/
structure CloseItem where
  unit : Byte
  failed : Bool
deriving DecidableEq, Repr

/-- CLOSE RESULT (03 R67). -/
structure CloseResultFrame where
  channel : Byte
  tag : Byte
  check : Word
  items : List CloseItem
deriving DecidableEq, Repr

/-- UNIT REPORT; `standby` is meaningful when `standbyPresent` (05 R94). -/
structure UnitReportFrame where
  unit : Byte
  standbyPresent : Bool
  running : Version
  standby : Version
deriving DecidableEq, Repr

/-- The commands, in the order of spec/opcode_table.json. A request kind carries no operand: the
management unit takes its arguments from the request at the head of its queue (08 R149, log 6). -/
inductive Instr where
  /-- Power-on completes, with the levels of the strap pins (R164). -/
  | powerOnComplete (straps : BitVec 4)
  | resetPinAsserted
  /-- The reset pin goes high, with the levels of the strap pins (R164). -/
  | resetPinReleased (straps : BitVec 4)
  | uplinkLinkUp
  | uplinkLinkDown
  | uplinkFrameRejected (frame : EthFrame)
  | block (frame : BlockFrame)
  | requestArrival (frame : RequestFrame)
  | passDown (frame : PassDownFrame)
  | setClock
  | readStatus
  | writeConfig
  | readConfig
  | openStream
  | closeStream
  | setLevel
  | writeEntry
  | readEntry
  | withdrawEntry
  | releaseEntry
  | loadDeparture
  | readBay
  | readJob
  | readInventory
  | clearBlock
  | readResume
  | readCounters
  | setNoticeMask
  | resetBay
  | resetBridge
  | sendResponse
  | sendNotice
  | sendStreamStatus
  | sendPassUp
  | secondEvent
  | holdLimitExpiry (slot : SlotId)
  | openTimerExpiry (bay : BayId) (channel : ChannelId)
  | receiptTimeout (bay : BayId) (channel : ChannelId)
  | closeTimerExpiry (bay : BayId) (channel : ChannelId)
  | activationFirstExpiry (bay : BayId)
  | activationSecondExpiry (bay : BayId)
  | switchTimerExpiry (bay : BayId)
  | switchFallbackExpiry (bay : BayId)
  | forcedPeriodEnd (bay : BayId)
  | capsResend (bay : BayId)
  | watchdogTwoPeriods (bay : BayId)
  | watchdogEightPeriods (bay : BayId)
  | intakeTimerExpiry (bay : BayId)
  | holdingTimerExpiry (bay : BayId)
  | signalDetect (bay : BayId)
  | signalAtNewRate (bay : BayId)
  | signalAtFallbackRate (bay : BayId)
  | signalLost (bay : BayId)
  /-- A bay frame as received, whole but failing a test of R115. -/
  | bayFrameError (bay : BayId) (bytes : List Byte)
  | frameCutShort (bay : BayId)
  /-- The agent's CAPS, with its maximum rate byte (R111). -/
  | agentCaps (bay : BayId) (maxRate : Byte)
  | hello (bay : BayId) (frame : HelloFrame)
  /-- HEARTBEAT, with its vehicle state byte (R135). -/
  | heartbeat (bay : BayId) (vehicleState : Byte)
  | inventory (bay : BayId) (items : List InventoryItem)
  | openAck (bay : BayId) (frame : OpenAckFrame)
  | receipt (bay : BayId) (frame : ReceiptFrame)
  | closeResult (bay : BayId) (frame : CloseResultFrame)
  | unitReport (bay : BayId) (frame : UnitReportFrame)
  | passUp (bay : BayId) (body : List Byte)
  | sendCaps (bay : BayId)
  | sendRetrain (bay : BayId)
  | sendChannelOpen (bay : BayId)
  | sendChannelClose (bay : BayId)
  | sendActivate (bay : BayId)
  | sendRevert (bay : BayId)
  | sendInventoryRequest (bay : BayId)
  | sendBlock (bay : BayId)
  | sendPassDown (bay : BayId)
deriving DecidableEq, Repr

end Sys2Proof
end

