-- ==== Sys2Proof/Machine/State.lean ====
section
/-! DEFINITION. Everything the spec gives the bridge, as plain data, and the machine right after
power-on. -/

namespace Sys2Proof.Machine

/-! ## Time -/

/-- A running millisecond timer: the tick it was started at and its limit in ticks (04 R76). The
limit is fixed at the start, since a changed timeout applies to timers started after the change
(R55, R66, R89, R128). -/
structure Timer where
  start : Nat
  limit : Nat
deriving DecidableEq, Repr

/-- The yard clock and the microsecond count (04 R74, R76). `ticks` counts the millisecond ticks
that have passed, which SET CLOCK does not change, and `phase` the microseconds since the last of
them (log 20). -/
structure Clock where
  seconds : Word
  sub : Nat
  valid : Bool
  usec : Word
  ticks : Nat
  phase : Nat
deriving DecidableEq, Repr

/-! ## Manifest (01 R1) -/

/-- Activation policy of an entry (01 R1). -/
inductive Policy where
  | immediate
  | released
deriving DecidableEq, Repr

/-- The writable fields of a manifest entry (01 R1). -/
structure EntryFields where
  base : MatchKey
  mask : MatchKey
  target : Version
  downgrade : Bool
  stream : StreamId
  check : Word
  policy : Policy
deriving DecidableEq, Repr

/-- A manifest entry; EMPTY when not `active` (01 R1). -/
structure Entry where
  active : Bool
  fields : EntryFields
  released : Bool
  replacement : Option EntryFields
deriving DecidableEq, Repr

/-! ## Streams and pool (02) -/

/-- The per-stream counters, in the order of 02 R48. -/
inductive StreamCounter where
  | accepted
  | droppedCrc
  | droppedUncredited
  | droppedClosed
  | passedUnused
deriving DecidableEq, Repr

/-- A stream table entry; CLOSED when not `isOpen` (02 R25). -/
structure Stream where
  isOpen : Bool
  length : Nat
  lastLength : Nat
  level : Nat
  position : Nat
  accepted : Half
  limit : Half
  age : Nat
  satisfied : Bool
  resume : Nat
  counters : Table 5 Word
deriving DecidableEq, Repr

/-- An occupied pool slot (02 R36). Its payload length is the length of its payload. -/
structure Slot where
  stream : StreamId
  sequence : Nat
  payload : List Byte
  delivery : List BayId
  arrival : Nat
deriving DecidableEq, Repr

/-! ## Jobs and channels (03) -/

/-- Unit states of a job's members (01 R10). -/
inductive UnitState where
  | pending
  | staged
  | activating
  | reverting
  | done
  | reverted
  | fault
  | stageFailed
  | cancelled
deriving DecidableEq, Repr

/-- Job states (03 R50). -/
inductive JobState where
  | queued
  | opening
  | receiving
  | closing
  | staged
  | complete
  | partialDone
  | failed
  | cancelled
deriving DecidableEq, Repr

/-- The identity of an image (00, Image identity). -/
structure Identity where
  length : Nat
  check : Word
  target : Version
deriving DecidableEq, Repr

/-- A member of a job's unit list (01 R10). -/
structure Member where
  unit : UnitAddr
  state : UnitState
  link : Option EntryId
deriving DecidableEq, Repr

/-- An inclusive range of offsets (03 R59). -/
structure Gap where
  first : Nat
  last : Nat
deriving DecidableEq, Repr

/-- A job record (03 R49). The governing entry is computed from the members' links (01 R3). -/
structure Job where
  stream : StreamId
  identity : Identity
  members : List Member
  state : JobState
  channel : Option ChannelId
  tag : Byte
  start : Nat
  cursor : Nat
  gaps : List Gap
  attempts : Nat
  deferred : Bool
  checkFailed : Bool
  endTime : Option Word
deriving DecidableEq, Repr

/-- An entry of a bay's transmit queue of blocks (03 R63). -/
structure TxEntry where
  slot : SlotId
  place : Place
  channel : ChannelId
  offset : Nat
deriving DecidableEq, Repr

/-- An in-flight entry: sequence, and send time on the microsecond count (03 R64). `tick` is the
millisecond tick at which it was sent, from which its receipt timeout counts (04 R76, log 16). -/
structure Flight where
  sequence : Nat
  sent : Word
  tick : Nat
deriving DecidableEq, Repr

/-- An agent channel of a bay (03 R54), with the open and close timers of the job holding it
(03 R57, R66). `openExpired` says that the open timer has expired once. -/
structure Channel where
  job : Option Place
  credit : Nat
  inFlight : List Flight
  tag : Byte
  openTimer : Option Timer
  openExpired : Bool
  closeTimer : Option Timer
deriving DecidableEq, Repr

/-! ## Inventory (01 R11) -/

/-- The builder's judgement of a unit (01 R17). -/
inductive Disposition where
  | blocked
  | unmanaged
  | current
  | held
  | stageReady
  | needsImage
deriving DecidableEq, Repr

/-- A unit record (01 R11). -/
structure UnitRecord where
  unit : UnitAddr
  cls : Half
  revision : Byte
  running : Version
  standby : Option Version
  disposition : Disposition
  blocked : Bool
  job : Option Place
deriving DecidableEq, Repr

/-! ## Activation (05 R89) -/

/-- What an activation record holds from selection on (05 R89, R92). -/
structure ActTarget where
  unit : UnitAddr
  place : Place
  target : Version
deriving DecidableEq, Repr

/-- The activation controller's phase with its record (05 R89). Expiries are 0 in SELECTED and
ACTIVATING and 1 in REVERTING; the timer of REVERTING is absent until the REVERT is sent (R96).
`gone` says that the member that was selected has become terminal, so that R93 discards its ACTIVATE
even when the unit has joined the job anew (R103, R104, log 29). -/
inductive Activation where
  | idle
  | selected (t : ActTarget) (gone : Bool)
  | activating (t : ActTarget) (previous : Version) (timer : Timer)
  | reverting (t : ActTarget) (previous : Version) (timer : Option Timer)
deriving DecidableEq, Repr

/-! ## Bay port (06 R108) -/

/-- Where the port stands in bringing the link up (06 R108). -/
inductive LinkPhase where
  | down
  | forced
  | probing
  | switching
  | trained
deriving DecidableEq, Repr

/-- A link frame: class 1 of the bay transmitter (06 R108). -/
inductive LinkFrame where
  | caps
  | retrain (rate : RateCode)
deriving DecidableEq, Repr

/-- A job control frame: class 2 of the bay transmitter, its content fixed when it is placed
(06 R124). An INVENTORY REQUEST remembers whether the activation controller placed it (05 R101,
R104). -/
inductive ControlFrame where
  | channelOpen (channel : ChannelId) (tag : Byte) (identity : Identity) (lastLength : Nat)
      (start : Nat)
  | channelClose (channel : ChannelId) (tag : Byte) (check : Word) (units : List UnitAddr)
  | activate (unit : UnitAddr) (target : Version)
  | revert (unit : UnitAddr) (previous : Version)
  | inventoryRequest (byActivation : Bool)
deriving DecidableEq, Repr

/-- A frame on a bay line from the bridge (10, the bridge's frames). -/
inductive BayFrame where
  | caps (bridge : BitVec 4) (bay : BayId) (maxRate : RateCode)
  | retrain (rate : RateCode)
  | control (frame : ControlFrame)
  | block (channel : ChannelId) (sequence : Nat) (payload : List Byte)
  | passDown (body : List Byte)
deriving DecidableEq, Repr

/-- The bay port (06 R108). `signal` is the level of signal detect (log 12), `capsAge` the time
since the last CAPS was sent without an answer (R111), `fallbackTimer` the wait for signal that
follows a switch failure (R112), `line` the frame being sent (R122, log 7). -/
structure Port where
  phase : LinkPhase
  lineRate : RateCode
  trainedRate : Option RateCode
  agentMax : Option RateCode
  switchAttempts : Nat
  qualified : Bool
  qualCount : Nat
  watchdog : Nat
  linkFrame : Option LinkFrame
  control : List ControlFrame
  blockRun : Nat
  passDown : List (List Byte)
  signal : Bool
  capsAge : Option Nat
  switchTimer : Option Timer
  fallbackTimer : Option Timer
  forcedTimer : Option Timer
  line : Option BayFrame
deriving DecidableEq, Repr

/-! ## Bay controller (07 R128) -/

/-- Bay states (07 R128). -/
inductive BayState where
  | vacant
  | training
  | qualifying
  | intake
  | serving
  | holding
  | departing
deriving DecidableEq, Repr

/-- Vehicle states (07 R135). -/
inductive VehicleState where
  | parked
  | departing
  | service
deriving DecidableEq, Repr

/-- The bay controller (07 R128). -/
structure Controller where
  state : BayState
  vehicle : Option Word
  announced : Option Half
  period : Nat
  channelCount : Option Nat
  credits : Option Nat
  vehicleState : Option VehicleState
  pendingHello : Option HelloFrame
  intakeTimer : Option Timer
  holdingTimer : Option Timer
deriving DecidableEq, Repr

/-! ## Deadline unit (04 R80) -/

/-- The probe of a bay (04 R81). -/
structure Probe where
  channel : ChannelId
  sequence : Nat
  sent : Word
  n : Nat
deriving DecidableEq, Repr

/-- The deadline state of a bay (04 R80). -/
structure Deadline where
  serviceTime : Nat
  probe : Option Probe
  urgency : Nat
  remaining : Nat
  estimate : Nat
  slack : Option Int
deriving DecidableEq, Repr

/-! ## Counters -/

/-- The 66 per-bay counters, in the order of 10 R169. -/
inductive BayCounter where
  -- 01 R24 and 02 R48
  | inventoryEntriesDiscarded | inventoryFramesDiscarded | blocksDetached
  -- 03 R73
  | blocksSent | receiptsApplied | duplicateReceipts | receiptsForNoJob | receiptTimeouts
  | opensRefused | openFailures | checkMismatches | closeTimeouts | staleControlAnswers
  | gapJoins | declinedSplits
  -- 04 R88
  | probeSamples | probeTimeouts | probesAbandoned | lateEntries
  -- 05 R107
  | activationsStarted | activationsWithdrawn | activationTimeouts | revertsSent
  | outcomesDone | outcomesReverted | outcomesFault | activationsAbandoned
  | reportsOutside | unitReportsDiscarded
  -- 06 R127
  | validFrames | framesDiscardedInTraining | frameCheckErrors | unknownKindErrors | lengthErrors
  | framesCutShort | trainings10 | trainings25 | trainings50 | trainings100 | switchFailures
  | capsOutsideTraining | qualificationsGained | qualificationsLost | relatches
  | watchdogLosses | watchdogDrops | dropsSignalLost | dropsForced | controlFramesSent
  | passDownSent | passDownDropped | passDownFlushed
  -- 07 R144
  | intakesCompleted | intakeTimeouts | hellosProcessed | hellosRepeated | hellosDiscarded
  | heartbeatsDiscarded | departuresAnnounced | holdingEntries | holdingExpiries
  | duplicateTeardowns | teardowns | resumeRecordsWritten
  -- 08 R165
  | passUpForwarded | passUpDropped
deriving DecidableEq, Repr

/-- The 22 bridge-wide counters, in the order of 10 R169. -/
inductive BridgeCounter where
  | blocksForNoStream
  | resumeReplaced | resumeEvicted | resumeExpired | resumeRestored
  | validUplinkFrames | uplinkFrameCheckErrors | uplinkNotAddressed | uplinkOtherType
  | yfpUnknownKinds | yfpLengthErrors | requestsReceived | answeredBusy | answeredMalformed
  | responsesSent | responsesDiscarded | noticesSent | noticesLost | statusFramesSent
  | passDownNoBay | framesCutAtLoss | linkLosses
deriving DecidableEq, Repr

/-! ## A bay -/

/-- Everything of one bay. `endOrder` lists the places of its terminal jobs in the order in which
they became terminal (01 R21). -/
structure Bay where
  port : Port
  ctl : Controller
  deadline : Deadline
  activation : Activation
  inventory : List UnitRecord
  truncated : Bool
  jobs : Table 8 (Option Job)
  endOrder : List Place
  channels : List Channel
  openCounter : Byte
  txQueue : List TxEntry
  maxRate : RateCode
  counters : Table 66 Word
deriving DecidableEq, Repr

/-! ## Departures and resume records (04 R77, 07 R140) -/

/-- An occupied departure slot (04 R77). -/
structure Departure where
  vehicle : Word
  pullOut : Word
deriving DecidableEq, Repr

/-- A resume record (07 R140). -/
structure ResumeRecord where
  vehicle : Word
  identity : Identity
  start : Nat
  cursor : Nat
  gaps : List Gap
  created : Word
deriving DecidableEq, Repr

/-- The resume table: places, and the write order from earliest to latest (07 R140). -/
structure ResumeTable where
  places : Table 32 (Option ResumeRecord)
  order : List ResumeId
deriving DecidableEq, Repr

/-! ## Requests, responses, notices (08) -/

/-- Response codes, in the order of 10. -/
inductive Code where
  | done
  | busy
  | malformed
  | noSuch
  | wrongState
  | conflict
deriving DecidableEq, Repr

/-- A request with its arguments as the frame carries them (10, request kinds). -/
inductive Request where
  | setClock (seconds : Word) (sub : Half)
  | readStatus
  | writeConfig (parameter bay : Byte) (value : Word)
  | readConfig (parameter bay : Byte)
  | openStream (stream level : Byte) (lengthLess1 lastLength : Half)
  | closeStream (stream : Byte)
  | setLevel (stream level : Byte)
  | writeEntry (index stream flags : Byte) (base mask target check : Word)
  | readEntry (index : Byte)
  | withdrawEntry (index : Byte)
  | releaseEntry (index : Byte)
  | loadDeparture (slot : Byte) (vehicle pullOut : Word)
  | readBay (bay : Byte)
  | readJob (bay place : Byte)
  | readInventory (bay : Byte)
  | clearBlock (bay unit : Byte)
  | readResume (place : Byte)
  | readCounters (group number clear : Byte)
  | setNoticeMask (mask : Byte)
  | resetBay (bay : Byte)
  | resetBridge
deriving DecidableEq, Repr

/-- A queued request: where its response goes, its tag, and its arguments (08 R147, R148). -/
structure QueuedRequest where
  src : Address
  tag : Half
  request : Request
deriving DecidableEq, Repr

/-- A response waiting for the uplink (08 R149). `protocolType` is the type in force when the
response was placed: a change of type takes effect from the response of the request that made it
(R151, log 14). -/
structure Response where
  dest : Address
  protocolType : Half
  kind : Byte
  tag : Half
  code : Code
  body : List Byte
deriving DecidableEq, Repr

/-- Why the bridge was last reset (08 R150). -/
inductive ResetCause where
  | powerOn
  | pin
  | request
deriving DecidableEq, Repr

/-- What made a bay's link drop; a forced drop names the request that caused it (06 R122,
07 R139). -/
inductive DropCause where
  | signalLost
  | watchdog
  | resetBay
  | intakeTimeout
  | duplicate
  | holdingExpired
deriving DecidableEq, Repr

/-- The cause of a BAY STATE notice (07 R139). -/
inductive BayCause where
  | trainingBegun
  | trainingDone (rate : RateCode)
  | qualified
  | qualificationLost
  | intakeComplete
  | vehicleReported (state : VehicleState)
  | holdingExpired
  | linkDown (drop : DropCause)
deriving DecidableEq, Repr

/-- The cause of a UNIT RESULT (05 R100). -/
inductive ResultCause where
  | reportActivating
  | reportReverting
  | secondExpiry
deriving DecidableEq, Repr

/-- The notices, with the fields their owning rules give (08, notice kinds). -/
inductive Notice where
  | bridgeStart (cause : ResetCause) (bridge : BitVec 4) (recovery : Bool) (resumePlaces : Nat)
  | bayState (bay : BayId) (left entered : BayState) (cause : BayCause) (vehicle : Option Word)
      (jobsDiscarded recordsWritten : Nat) (abandoned : Bool)
  | inventoryTaken (bay : BayId) (vehicle : Option Word) (refresh : Bool) (records : Nat)
      (truncated : Bool) (blocked unmanaged current held stageReady needsImage : Nat)
  | jobEnd (bay : BayId) (vehicle : Option Word) (place : Place) (stream : StreamId)
      (outcome : JobState) (attempts : Nat) (done reverted fault stageFailed cancelled : Nat)
  | unitResult (bay : BayId) (vehicle : Option Word) (unit : UnitAddr) (outcome : UnitState)
      (cause : ResultCause) (target previous : Version) (running standby : Option Version)
      (link : Option EntryId)
  | late (bay : BayId) (vehicle : Option Word) (pullOut now : Word) (remaining estimate : Nat)
      (slack : Int)
  | streamSatisfied (stream : StreamId) (accepted : Half) (position : Nat)
deriving DecidableEq, Repr

/-- A notice as it is held from its posting on (08 R157). -/
structure PostedNotice where
  seconds : Word
  valid : Bool
  notice : Notice
deriving DecidableEq, Repr

/-- The notice queue with the mask, the lost flag and the next notice number (08 R155 to R157).
The mask holds BRIDGE START in bit 0 and the other kinds in the order of 10 above it. -/
structure NoticeQueue where
  mask : BitVec 7
  queue : List PostedNotice
  lost : Bool
  number : Half
deriving DecidableEq, Repr

/-- A wrapped PASS-UP frame (08 R161). -/
structure PassUp where
  bay : BayId
  vehicle : Option Word
  body : List Byte
deriving DecidableEq, Repr

/-- What a frame from the uplink port carries (10, Yard Frame Protocol). -/
inductive UplinkContent where
  | response (kind : Byte) (tag : Half) (code : Code) (body : List Byte)
  | notice (posted : PostedNotice) (number : Half) (lost : Bool)
  | streamStatus (stream : StreamId) (limit accepted : Half) (resume : Nat) (satisfied : Bool)
  | passUp (frame : PassUp)
deriving DecidableEq, Repr

/-- A frame on the uplink line (08 R147). -/
structure UplinkFrame where
  dest : Address
  src : Address
  protocolType : Half
  content : UplinkContent
deriving DecidableEq, Repr

/-- The uplink port (08 R145). `physical` is the level of the physical link, which the link state
takes at the completion of a reset, and `beenUp` says that the link has been up since the last
reset (R162, log 13). -/
structure Uplink where
  up : Bool
  physical : Bool
  beenUp : Bool
  bridgeNumber : BitVec 4
  server : Option Address
  responses : List Response
  passUps : List PassUp
  line : Option UplinkFrame
deriving DecidableEq, Repr

/-- The management unit (08 R148, R149, R163). -/
structure Mgmt where
  queue : List QueuedRequest
  halted : Bool
deriving DecidableEq, Repr

/-! ## The machine -/

/-- The state of the bridge, and the queue of commands waiting for it, first in, first out. `straps`
holds the levels of the strap pins as they were last read, and `strapReads` numbers the free values
that a reset by request reads there (log 5). -/
structure State where
  pending : List Instr
  clock : Clock
  resetHeld : Bool
  resetCause : ResetCause
  straps : BitVec 4
  strapReads : Nat
  config : Config.Settings
  manifest : Table 64 Entry
  streams : Table 16 Stream
  due : List StreamId
  pool : Table 128 (Option Slot)
  departures : Table 64 (Option Departure)
  resume : ResumeTable
  uplink : Uplink
  mgmt : Mgmt
  notices : NoticeQueue
  counters : Table 22 Word
  bays : Table 16 Bay
deriving DecidableEq, Repr

/-- Why a command stops the machine. -/
inductive Fault where
  /-- BLOCK, in a state in which the frame's stream holds credit, a job takes the block and the
  pool has no free slot. 02 R34 and R40 say that no such state is reached ("A block can therefore
  never be refused for want of a slot"). Safe (log 19). -/
  | poolExhausted
deriving DecidableEq, Repr

/-- Why a command is refused. -/
inductive Refusal where
  /-- A command without a meaning yet; raised in exec's arms alone. Safe. -/
  | notModelled (mnemonic : String)
deriving DecidableEq, Repr

/-! ## Power-on values -/

/-- An EMPTY entry that has never been written (01 R1). -/
def Entry.empty : Entry :=
  { active := false,
    fields := { base := 0, mask := 0, target := 0, downgrade := false, stream := 0, check := 0,
                policy := .immediate },
    released := false, replacement := none }

/-- A CLOSED stream after power-on (02 R25). -/
def Stream.closed : Stream :=
  { isOpen := false, length := 0, lastLength := 0, level := 0, position := 0, accepted := 0,
    limit := 0, age := 0, satisfied := false, resume := 0, counters := Table.fill 5 0 }

/-- A bay port after power-on (06 R108). The switch attempts and the watchdog age, to which R108 gives
no value there, are 0 (log 30). -/
def Port.initial : Port :=
  { phase := .down, lineRate := 0, trainedRate := none, agentMax := none, switchAttempts := 0,
    qualified := false, qualCount := 0, watchdog := 0, linkFrame := none, control := [],
    blockRun := 0, passDown := [], signal := false, capsAge := none, switchTimer := none,
    fallbackTimer := none, forcedTimer := none, line := none }

/-- A bay controller after power-on (07 R128). -/
def Controller.initial : Controller :=
  { state := .vacant, vehicle := none, announced := none, period := Config.idlePeriod,
    channelCount := none, credits := none, vehicleState := none, pendingHello := none,
    intakeTimer := none, holdingTimer := none }

/-- The deadline state of a bay after power-on (04 R80). -/
def Deadline.initial : Deadline :=
  { serviceTime := Config.serviceTime, probe := none, urgency := 0, remaining := 0, estimate := 0,
    slack := none }

/-- A bay after power-on. -/
def Bay.initial : Bay :=
  { port := Port.initial, ctl := Controller.initial, deadline := Deadline.initial,
    activation := .idle, inventory := [], truncated := false, jobs := Table.fill 8 none,
    endOrder := [], channels := [], openCounter := 0, txQueue := [], maxRate := Config.maxRate,
    counters := Table.fill 66 0 }

/-- The bridge at power-on (00, R164): every table at its power-on value, the clock invalid, the
uplink down. POWER_ON_COMPLETE has not yet posted BRIDGE START (log 4). -/
def State.reset : State :=
  { pending := [],
    clock := { seconds := 0, sub := 0, valid := false, usec := 0, ticks := 0, phase := 0 },
    resetHeld := false, resetCause := .powerOn, straps := 0, strapReads := 0,
    config := Config.settings,
    manifest := Table.fill 64 Entry.empty, streams := Table.fill 16 Stream.closed, due := [],
    pool := Table.fill 128 none, departures := Table.fill 64 none,
    resume := { places := Table.fill 32 none, order := [] },
    uplink := { up := false, physical := false, beenUp := false, bridgeNumber := 0, server := none,
                responses := [], passUps := [], line := none },
    mgmt := { queue := [], halted := false },
    notices := { mask := BitVec.allOnes 7, queue := [], lost := false, number := 0 },
    counters := Table.fill 22 0, bays := Table.fill 16 Bay.initial }

end Sys2Proof.Machine
end

