-- ==== Sys2Proof/Machine/Operands.lean ====
section
/-! DEFINITION. The operand forms of received frames: the tests of a bay frame (06 R115, 10 R173)
and of a YFP frame (08 R146, 10 R172), and the arguments of a request (10, request kinds). -/

namespace Sys2Proof.Machine

/-! ## Bay frames -/

/-- The kinds the agent sends (06 R115). -/
inductive AgentKind where
  | caps
  | hello
  | heartbeat
  | inventory
  | openAck
  | receipt
  | closeResult
  | unitReport
  | passUp
deriving DecidableEq, Repr

/-- The agent's kind of a kind code (10, Bay Frame Protocol). -/
def agentKind (code : Byte) : Option AgentKind :=
  match code.toNat with
  | 0x01 => some .caps
  | 0x10 => some .hello
  | 0x11 => some .heartbeat
  | 0x12 => some .inventory
  | 0x13 => some .openAck
  | 0x14 => some .receipt
  | 0x15 => some .closeResult
  | 0x16 => some .unitReport
  | 0x17 => some .passUp
  | _ => none

/-- A frame's length fits its kind, and its count field the entries that the length implies
(10 R173). -/
def AgentKind.fits (k : AgentKind) (bytes : List Byte) : Bool :=
  let n := bytes.length
  match k with
  | .caps => decide (n = 12)
  | .hello => decide (n = 20)
  | .heartbeat => decide (n = 12)
  | .inventory =>
    let count := (byteAt bytes 4).toNat
    decide (count ≤ 64 ∧ n = 10 + 16 * count)
  | .openAck => decide (n = 12)
  | .receipt =>
    let count := (byteAt bytes 6).toNat
    decide (1 ≤ count ∧ count ≤ 8 ∧ n = 12 + 2 * count)
  | .closeResult =>
    let count := (byteAt bytes 6).toNat
    decide (count ≤ 64 ∧ n = 16 + 2 * count)
  | .unitReport => decide (n = 20)
  | .passUp => decide (9 ≤ n ∧ n ≤ 1032)

/-- What the three tests of 06 R115 say of a frame. -/
inductive BayVerdict where
  | checkError
  | unknownKind
  | lengthError
  | valid (kind : AgentKind)
deriving DecidableEq, Repr

/-- The frame check a received frame carries is the one computed over the bytes before it (06 R115,
test 1). A frame of fewer than 4 bytes carries none, and that this is a frame check error is the
model's choice (10 R173, log 31). -/
def bayCheckGood (bytes : List Byte) : Bool :=
  decide (4 ≤ bytes.length) &&
    decide (crc32 (bytes.take (bytes.length - 4)) =
      BitVec.ofNat 32 (field bytes (bytes.length - 4) 4))

/-- A received bay frame judged in the order of 06 R115. -/
def judgeBayFrame (bytes : List Byte) : BayVerdict :=
  if !bayCheckGood bytes then .checkError
  else match agentKind (byteAt bytes 0) with
    | none => .unknownKind
    | some k =>
      if field bytes 2 2 = bytes.length ∧ 8 ≤ bytes.length ∧ k.fits bytes = true
      then .valid k else .lengthError

/-! ## YFP frames -/

/-- What the five tests of 08 R146 say of a frame. -/
inductive UplinkVerdict where
  | checkError
  | notAddressed
  | otherType
  | unknownKind
  | lengthError
  | valid
deriving DecidableEq, Repr

/-- The YFP length field of an uplink frame's body (10, Yard Frame Protocol). -/
def yfpLength (body : List Byte) : Nat := field body 2 2

/-- The length test of a BLOCK (10 R172). -/
def blockFits (body : List Byte) : Bool :=
  let n := yfpLength body
  let p := field body 8 2
  decide (12 ≤ n ∧ 1 ≤ p ∧ p ≤ 1024 ∧ n = 12 + p ∧ n + 4 ≤ body.length)

/-- The length test of a PASS-DOWN (10 R172). -/
def passDownFits (body : List Byte) : Bool :=
  let n := yfpLength body
  decide (3 ≤ n ∧ n ≤ 1026 ∧ n + 4 ≤ body.length)

/-- An uplink frame judged in the order of 08 R146, by a port with a station address and the
configured protocol type. A REQUEST is not judged by test 5. -/
def judgeUplinkFrame (station : Address) (protocolType : Half) (f : EthFrame) : UplinkVerdict :=
  if !f.checkGood then .checkError
  else if f.dest ≠ station ∧ f.dest ≠ Config.broadcast then .notAddressed
  else if f.type ≠ protocolType then .otherType
  else match (byteAt f.body 0).toNat with
    | 0x01 => if blockFits f.body then .valid else .lengthError
    | 0x02 => .valid
    | 0x03 => if passDownFits f.body then .valid else .lengthError
    | _ => .unknownKind

/-! ## Requests -/

/-- The kind code of a request (10, request kinds). -/
def Request.kind : Request → Byte
  | .setClock .. => 0x01
  | .readStatus => 0x02
  | .writeConfig .. => 0x03
  | .readConfig .. => 0x04
  | .openStream .. => 0x05
  | .closeStream .. => 0x06
  | .setLevel .. => 0x07
  | .writeEntry .. => 0x08
  | .readEntry .. => 0x09
  | .withdrawEntry .. => 0x0A
  | .releaseEntry .. => 0x0B
  | .loadDeparture .. => 0x0C
  | .readBay .. => 0x0D
  | .readJob .. => 0x0E
  | .readInventory .. => 0x0F
  | .clearBlock .. => 0x10
  | .readResume .. => 0x11
  | .readCounters .. => 0x12
  | .setNoticeMask .. => 0x13
  | .resetBay .. => 0x14
  | .resetBridge => 0x15

/-- The argument bytes of a request kind; none for a kind that is not listed (10, request
kinds). -/
def argumentBytes (kind : Byte) : Option Nat :=
  match kind.toNat with
  | 0x01 => some 6
  | 0x02 => some 0
  | 0x03 => some 6
  | 0x04 => some 2
  | 0x05 => some 6
  | 0x06 => some 2
  | 0x07 => some 2
  | 0x08 => some 20
  | 0x09 => some 2
  | 0x0A => some 2
  | 0x0B => some 2
  | 0x0C => some 10
  | 0x0D => some 2
  | 0x0E => some 2
  | 0x0F => some 2
  | 0x10 => some 2
  | 0x11 => some 2
  | 0x12 => some 4
  | 0x13 => some 2
  | 0x14 => some 2
  | 0x15 => some 0
  | _ => none

/-- A four-byte argument at an offset. -/
def wordAt (bytes : List Byte) (at_ : Nat) : Word := BitVec.ofNat 32 (field bytes at_ 4)

/-- A two-byte argument at an offset. -/
def halfAt (bytes : List Byte) (at_ : Nat) : Half := BitVec.ofNat 16 (field bytes at_ 2)

/-- A request of a kind read from its argument bytes (10, request kinds). -/
def readRequest (kind : Byte) (a : List Byte) : Option Request :=
  match kind.toNat with
  | 0x01 => some (.setClock (wordAt a 0) (halfAt a 4))
  | 0x02 => some .readStatus
  | 0x03 => some (.writeConfig (byteAt a 0) (byteAt a 1) (wordAt a 2))
  | 0x04 => some (.readConfig (byteAt a 0) (byteAt a 1))
  | 0x05 => some (.openStream (byteAt a 0) (byteAt a 1) (halfAt a 2) (halfAt a 4))
  | 0x06 => some (.closeStream (byteAt a 0))
  | 0x07 => some (.setLevel (byteAt a 0) (byteAt a 1))
  | 0x08 => some (.writeEntry (byteAt a 0) (byteAt a 1) (byteAt a 2) (wordAt a 4) (wordAt a 8)
      (wordAt a 12) (wordAt a 16))
  | 0x09 => some (.readEntry (byteAt a 0))
  | 0x0A => some (.withdrawEntry (byteAt a 0))
  | 0x0B => some (.releaseEntry (byteAt a 0))
  | 0x0C => some (.loadDeparture (byteAt a 0) (wordAt a 2) (wordAt a 6))
  | 0x0D => some (.readBay (byteAt a 0))
  | 0x0E => some (.readJob (byteAt a 0) (byteAt a 1))
  | 0x0F => some (.readInventory (byteAt a 0))
  | 0x10 => some (.clearBlock (byteAt a 0) (byteAt a 1))
  | 0x11 => some (.readResume (byteAt a 0))
  | 0x12 => some (.readCounters (byteAt a 0) (byteAt a 1) (byteAt a 2))
  | 0x13 => some (.setNoticeMask (byteAt a 0))
  | 0x14 => some (.resetBay (byteAt a 0))
  | 0x15 => some .resetBridge
  | _ => none

end Sys2Proof.Machine
end

