-- ==== Sys2Proof/Decode.lean ====
section
/-! DEFINITION. From words and bytes to commands. No row of spec/opcode_table.json has bits (log 26),
so no word spells a command; a command that is a frame is read from the frame's bytes here, by the
tests of 08 R146 and 06 R115 and the layouts of 10. -/

namespace Sys2Proof

/-- The command that a word spells by the table's bits: none, since the table gives no row a bit
(log 26). -/
def decodeTableWord (_nbits _w : Nat) : Option Instr := none

open Machine in
/-- A BLOCK read from its YFP body (10, BLOCK and STREAM STATUS). -/
def readBlock (body : List Byte) : BlockFrame :=
  { stream := byteAt body 4, sequence := halfAt body 6, crc := wordAt body 12,
    payload := (body.drop 16).take (field body 8 2) }

open Machine in
/-- A REQUEST read from its source and YFP body (10, Requests and responses). -/
def readRequestFrame (src : Address) (body : List Byte) : RequestFrame :=
  { src := src, length := halfAt body 2, bytes := body.drop 4 }

open Machine in
/-- A PASS-DOWN read from its YFP body (10, PASS-DOWN and PASS-UP). -/
def readPassDown (body : List Byte) : PassDownFrame :=
  { bay := byteAt body 4, body := (body.drop 6).take (yfpLength body - 2) }

open Machine in
/-- The command that a received uplink frame is, for a station address and a protocol type
(08 R146). -/
def readUplinkFrame (station : Address) (protocolType : Half) (f : EthFrame) : Instr :=
  match judgeUplinkFrame station protocolType f with
  | .valid => match (byteAt f.body 0).toNat with
    | 0x01 => .block (readBlock f.body)
    | 0x02 => .requestArrival (readRequestFrame f.src f.body)
    | 0x03 => .passDown (readPassDown f.body)
    | _ => .uplinkFrameRejected f
  | .checkError => .uplinkFrameRejected f
  | .notAddressed => .uplinkFrameRejected f
  | .otherType => .uplinkFrameRejected f
  | .unknownKind => .uplinkFrameRejected f
  | .lengthError => .uplinkFrameRejected f

open Machine in
/-- HELLO (10, the central agent frames). -/
def readHello (bytes : List Byte) : HelloFrame :=
  { vehicle := wordAt bytes 4, period := halfAt bytes 8, channels := byteAt bytes 10,
    credits := byteAt bytes 11, vehicleState := byteAt bytes 12 }

open Machine in
/-- One entry of an INVENTORY, at an offset (10, the central agent frames). -/
def readInventoryItem (bytes : List Byte) (at_ : Nat) : InventoryItem :=
  { unit := byteAt bytes at_, standbyPresent := bit0 (byteAt bytes (at_ + 1)),
    cls := halfAt bytes (at_ + 2), revision := byteAt bytes (at_ + 4),
    running := wordAt bytes (at_ + 8), standby := wordAt bytes (at_ + 12) }

open Machine in
/-- The entries of an INVENTORY. -/
def readInventory (bytes : List Byte) : List InventoryItem :=
  (List.range (byteAt bytes 4).toNat).map fun k => readInventoryItem bytes (6 + 16 * k)

open Machine in
/-- OPEN ACK (10, the central agent frames). -/
def readOpenAck (bytes : List Byte) : OpenAckFrame :=
  { channel := byteAt bytes 4, tag := byteAt bytes 5, refused := bit0 (byteAt bytes 6) }

open Machine in
/-- RECEIPT (10, the central agent frames). -/
def readReceipt (bytes : List Byte) : ReceiptFrame :=
  { channel := byteAt bytes 4, tag := byteAt bytes 5,
    sequences := (List.range (byteAt bytes 6).toNat).map fun k => halfAt bytes (8 + 2 * k) }

open Machine in
/-- CLOSE RESULT (10, the central agent frames). -/
def readCloseResult (bytes : List Byte) : CloseResultFrame :=
  { channel := byteAt bytes 4, tag := byteAt bytes 5, check := wordAt bytes 8,
    items := (List.range (byteAt bytes 6).toNat).map fun k =>
      { unit := byteAt bytes (12 + 2 * k), failed := bit0 (byteAt bytes (13 + 2 * k)) } }

open Machine in
/-- UNIT REPORT (10, the central agent frames). -/
def readUnitReport (bytes : List Byte) : UnitReportFrame :=
  { unit := byteAt bytes 4, standbyPresent := bit0 (byteAt bytes 5), running := wordAt bytes 8,
    standby := wordAt bytes 12 }

open Machine in
/-- The command that a frame of a kind is, once it has passed the tests (06 R116). -/
def readAgentFrame (b : BayId) (k : AgentKind) (bytes : List Byte) : Instr :=
  match k with
  | .caps => .agentCaps b (byteAt bytes 6)
  | .hello => .hello b (readHello bytes)
  | .heartbeat => .heartbeat b (byteAt bytes 4)
  | .inventory => .inventory b (readInventory bytes)
  | .openAck => .openAck b (readOpenAck bytes)
  | .receipt => .receipt b (readReceipt bytes)
  | .closeResult => .closeResult b (readCloseResult bytes)
  | .unitReport => .unitReport b (readUnitReport bytes)
  | .passUp => .passUp b ((bytes.drop 4).take (bytes.length - 8))

open Machine in
/-- The command that a whole frame received on a bay link is (06 R115, R116). -/
def readBayFrame (b : BayId) (bytes : List Byte) : Instr :=
  match judgeBayFrame bytes with
  | .valid k => readAgentFrame b k bytes
  | .checkError => .bayFrameError b bytes
  | .unknownKind => .bayFrameError b bytes
  | .lengthError => .bayFrameError b bytes

end Sys2Proof
end

