-- ==== Sys2Proof/Machine/Gaps.lean ====
section
/-! DEFINITION. The ring arithmetic of a job: offsets, gap ranges and the five counts
(03 R59 to R62). -/

namespace Sys2Proof.Machine

/-- The ring distance from a to b: (b − a) mod L (00, Blocks and sequences). -/
def ringDist (length a b : Nat) : Nat := (b + (length - a % length)) % length

/-- The offset of a sequence: (b − s) mod L (03 R59). -/
def Job.offsetOf (j : Job) (sequence : Nat) : Nat := ringDist j.identity.length j.start sequence

/-- The sequence of an offset: (s + d) mod L (03 R59). -/
def Job.sequenceOf (j : Job) (offset : Nat) : Nat := (j.start + offset) % j.identity.length

/-- An offset lies in a range. -/
def Gap.has (g : Gap) (d : Nat) : Bool := decide (g.first ≤ d ∧ d ≤ g.last)

/-- The number of offsets of a range. -/
def Gap.size (g : Gap) : Nat := g.last + 1 - g.first

/-- Two ranges overlap or are adjacent (03 R60). -/
def Gap.touches (g h : Gap) : Bool := decide (g.first ≤ h.last + 1 ∧ h.first ≤ g.last + 1)

/-- The range from the lowest to the highest offset of two ranges. -/
def Gap.join (g h : Gap) : Gap := ⟨min g.first h.first, max g.last h.last⟩

/-- A range put into a list in ascending order. -/
def insertGap (g : Gap) : List Gap → List Gap
  | [] => [g]
  | h :: t => if g.first < h.first then g :: h :: t else h :: insertGap g t

/-- The range of a list that has the smallest distance to a new range, where the distance is the
number of offsets strictly between the two and a tie goes to the range below (03 R60). The list is
ascending, so an equally distant range below comes first. -/
def nearestGap (g : Gap) : List Gap → Option Gap
  | [] => none
  | h :: t =>
    match nearestGap g t with
    | none => some h
    | some n => if dist h ≤ dist n then some h else some n
where
  /-- Offsets strictly between a range and the new one, which do not touch. -/
  dist (h : Gap) : Nat := if h.last < g.first then g.first - h.last - 1 else h.first - g.last - 1

/-- A range added to a gap list (03 R60); the second answer says whether step 3, the joining of a
full list, was taken. -/
def addRange (gaps : List Gap) (g : Gap) : List Gap × Bool :=
  let touching := gaps.filter (·.touches g)
  if touching.isEmpty then
    if gaps.length < Config.gapRanges then (insertGap g gaps, false)
    else
      match nearestGap g gaps with
      | none => (insertGap g gaps, false)
      | some n => (insertGap (n.join g) (gaps.filter (· ≠ n)), true)
  else
    (insertGap (touching.foldl Gap.join g) (gaps.filter fun h => !h.touches g), false)

/-- An offset lies in some range of a list. -/
def inGaps (gaps : List Gap) (d : Nat) : Bool := gaps.any (·.has d)

/-- An offset removed from the range that contains it (03 R61); the second answer says whether the
split was declined. A list without such a range stays as it is. -/
def removeOffset (gaps : List Gap) (d : Nat) : List Gap × Bool :=
  match gaps.find? (·.has d) with
  | none => (gaps, false)
  | some g =>
    if g.first = g.last then (gaps.filter (· ≠ g), false)
    else if d = g.first then (gaps.map fun h => if h = g then ⟨d + 1, g.last⟩ else h, false)
    else if d = g.last then (gaps.map fun h => if h = g then ⟨g.first, d - 1⟩ else h, false)
    else if gaps.length < Config.gapRanges then
      (insertGap ⟨d + 1, g.last⟩ (gaps.map fun h => if h = g then ⟨g.first, d - 1⟩ else h), false)
    else (gaps, true)

/-- The offsets of a list's ranges together. -/
def gapTotal (gaps : List Gap) : Nat := (gaps.map Gap.size).sum

/-- A gap list as R59 says it stands: at most eight ranges, each inclusive and below the cursor,
ascending, disjoint and not adjacent. -/
def gapsOk (cursor : Nat) (gaps : List Gap) : Bool :=
  decide (gaps.length ≤ Config.gapRanges) &&
    gaps.all (fun g => decide (g.first ≤ g.last ∧ g.last < cursor)) &&
    decide (gaps.Pairwise fun g h => g.last + 1 < h.first)

/-- The sequences of the queued entries of a place, as offsets (03 R59). -/
def Bay.queuedOffsets (x : Bay) (p : Place) : List Nat :=
  (x.txQueue.filter (·.place = p)).map (·.offset)

/-- The in-flight entries of the channel a job holds. -/
def Bay.flights (x : Bay) (j : Job) : List Flight :=
  match j.channel with
  | none => []
  | some c => match x.channels[c.val]? with
    | none => []
    | some ch => ch.inFlight

/-- The offsets of a job that are queued or in flight. -/
def Bay.heldOffsets (x : Bay) (p : Place) (j : Job) : List Nat :=
  x.queuedOffsets p ++ (x.flights j).map fun f => j.offsetOf f.sequence

/-- The five counts of a job (03 R59). -/
structure Counts where
  uncovered : Nat
  needed : Nat
  queued : Nat
  inFlight : Nat
  confirmed : Nat
deriving DecidableEq, Repr

/-- The five counts of the job in a place (03 R59): an offset that is queued or in flight counts as
such even inside a range. -/
def Bay.countsOf (x : Bay) (p : Place) (j : Job) : Counts :=
  let held := x.heldOffsets p j
  { uncovered := j.identity.length - j.cursor,
    needed := gapTotal j.gaps - (held.filter (inGaps j.gaps)).length,
    queued := (x.queuedOffsets p).length,
    inFlight := (x.flights j).length,
    confirmed := j.cursor - gapTotal j.gaps - (held.filter fun d => !inGaps j.gaps d).length }

/-- The wanted ranges of a job in RECEIVING on a SERVING bay, as offset ranges (03 R71). -/
def Job.wantedOffsets (j : Job) : List Gap :=
  (if j.cursor < j.identity.length then [⟨j.cursor, j.identity.length - 1⟩] else []) ++ j.gaps

/-- The distance ahead of c of the nearest point of a wanted range: 0 when c lies inside it, and
otherwise the ring distance to its first sequence (03 R71). -/
def Job.distanceAhead (j : Job) (c : Nat) (g : Gap) : Nat :=
  if g.has (j.offsetOf c) then 0 else ringDist j.identity.length c (j.sequenceOf g.first)

end Sys2Proof.Machine
end

