-- ==== Sys2Proof/Machine/Ops.lean ====
section
/-! DEFINITION. The named operations that read and write one part of the state: bays, ports,
controllers, jobs, channels, streams, entries, counters, timers, and the posting of notices. -/

namespace Sys2Proof.Machine

/-- What a command answers. -/
abbrev Result := Host.Outcome State Fault Refusal

/-! ## Bays -/

/-- A bay of the row. -/
def State.bay (s : State) (b : BayId) : Bay := s.bays.get b

/-- One bay set. -/
def State.setBay (s : State) (b : BayId) (x : Bay) : State := { s with bays := s.bays.set b x }

/-- One bay changed. -/
def State.modBay (s : State) (b : BayId) (f : Bay → Bay) : State := s.setBay b (f (s.bay b))

/-- One bay's port changed. -/
def State.modPort (s : State) (b : BayId) (f : Port → Port) : State :=
  s.modBay b fun x => { x with port := f x.port }

/-- One bay's controller changed. -/
def State.modCtl (s : State) (b : BayId) (f : Controller → Controller) : State :=
  s.modBay b fun x => { x with ctl := f x.ctl }

/-- One bay's deadline state changed. -/
def State.modDeadline (s : State) (b : BayId) (f : Deadline → Deadline) : State :=
  s.modBay b fun x => { x with deadline := f x.deadline }

/-- One bay's activation controller set. -/
def State.setActivation (s : State) (b : BayId) (a : Activation) : State :=
  s.modBay b fun x => { x with activation := a }

/-- One bay's inventory changed. -/
def State.modInventory (s : State) (b : BayId) (f : List UnitRecord → List UnitRecord) : State :=
  s.modBay b fun x => { x with inventory := f x.inventory }

/-- Doing something for every bay, in ascending order. -/
def State.forBays (s : State) (f : BayId → State → State) : State :=
  allBays.foldl (fun t b => f b t) s

/-! ## Jobs and channels -/

/-- The job record in a place of a bay. -/
def State.job (s : State) (b : BayId) (p : Place) : Option Job := (s.bay b).jobs.get p

/-- The job record in a place of a bay set or removed. -/
def State.setJob (s : State) (b : BayId) (p : Place) (j : Option Job) : State :=
  s.modBay b fun x => { x with jobs := x.jobs.set p j }

/-- The job record in a place of a bay changed, when there is one. -/
def State.modJob (s : State) (b : BayId) (p : Place) (f : Job → Job) : State :=
  s.modBay b fun x => { x with jobs := x.jobs.modify p (Option.map f) }

/-- A channel of a bay; none past the bay's channel count. -/
def State.channel (s : State) (b : BayId) (c : ChannelId) : Option Channel :=
  (s.bay b).channels[c.val]?

/-- A channel of a bay changed, when the bay has it. -/
def State.modChannel (s : State) (b : BayId) (c : ChannelId) (f : Channel → Channel) : State :=
  s.modBay b fun x => { x with channels := x.channels.modify c.val f }

/-- The credits each channel of the bay grants (03 R54). -/
def Bay.creditsPer (x : Bay) : Nat := x.ctl.credits.getD 0

/-- The job of a bay that is not terminal in a place, with the place. -/
def Job.live (j : Job) : Bool :=
  match j.state with
  | .queued | .opening | .receiving | .closing | .staged => true
  | .complete | .partialDone | .failed | .cancelled => false

/-- Terminal unit states (01 R10). -/
def UnitState.terminal : UnitState → Bool
  | .done | .reverted | .fault | .stageFailed | .cancelled => true
  | .pending | .staged | .activating | .reverting => false

/-- The occupied record places of a bay, in ascending order. -/
def Bay.jobList (x : Bay) : List (Place × Job) :=
  allPlaces.filterMap fun p => (x.jobs.get p).map fun j => (p, j)

/-- The unit record at an address (01 R11). -/
def Bay.unit? (x : Bay) (u : UnitAddr) : Option UnitRecord := x.inventory.find? (·.unit = u)

/-- The unit record at an address changed. -/
def State.modUnit (s : State) (b : BayId) (u : UnitAddr) (f : UnitRecord → UnitRecord) : State :=
  s.modInventory b fun l => l.map fun r => if r.unit = u then f r else r

/-- The members of a job in a given unit state. -/
def Job.countIn (j : Job) (st : UnitState) : Nat := (j.members.filter (·.state = st)).length

/-- Every member of a job is terminal (03 R51). -/
def Job.allTerminal (j : Job) : Bool := j.members.all (·.state.terminal)

/-- A job holds a member in PENDING (03 R53). -/
def Job.hasPending (j : Job) : Bool := j.members.any (·.state = .pending)

/-- The non-terminal member of a job for a unit. A unit that has already ended in the job and has
been placed in it again stands in the list twice (log 23). -/
def Job.member? (j : Job) (u : UnitAddr) : Option Member :=
  j.members.find? fun m => m.unit = u && !m.state.terminal

/-- The non-terminal member of a job for a unit changed. -/
def Job.modMember (j : Job) (u : UnitAddr) (f : Member → Member) : Job :=
  { j with members := j.members.map fun m => if m.unit = u && !m.state.terminal then f m else m }

/-- The governing entry of a job: the lowest of its members' entry links (01 R3). -/
def Job.governing (j : Job) : Option EntryId :=
  j.members.foldl
    (fun acc m => match acc, m.link with
      | none, l => l
      | some a, none => some a
      | some a, some l => some (min a l)) none

/-! ## Streams, entries -/

/-- A stream entry. -/
def State.stream (s : State) (st : StreamId) : Stream := s.streams.get st

/-- A stream entry changed. -/
def State.modStream (s : State) (st : StreamId) (f : Stream → Stream) : State :=
  { s with streams := s.streams.modify st f }

/-- A manifest entry. -/
def State.entry (s : State) (i : EntryId) : Entry := s.manifest.get i

/-- A manifest entry changed. -/
def State.modEntry (s : State) (i : EntryId) (f : Entry → Entry) : State :=
  { s with manifest := s.manifest.modify i f }

/-- A STREAM STATUS made due; one already due keeps its place (02 R46, R47). -/
def State.makeDue (s : State) (st : StreamId) : State :=
  if st ∈ s.due then s else { s with due := s.due ++ [st] }

/-! ## Counters -/

/-- A per-bay counter's place in 10 R169. -/
def BayCounter.index (c : BayCounter) : Fin 66 := ⟨c.ctorIdx, by cases c <;> decide⟩

/-- A bridge-wide counter's place in 10 R169. -/
def BridgeCounter.index (c : BridgeCounter) : Fin 22 := ⟨c.ctorIdx, by cases c <;> decide⟩

/-- A per-stream counter's place in 10 R169. -/
def StreamCounter.index (c : StreamCounter) : Fin 5 := ⟨c.ctorIdx, by cases c <;> decide⟩

/-- A per-bay counter incremented. -/
def State.bump (s : State) (b : BayId) (c : BayCounter) : State :=
  s.modBay b fun x => { x with counters := x.counters.modify c.index satInc }

/-- A per-bay counter incremented a number of times. -/
def State.bumpBy (s : State) (b : BayId) (c : BayCounter) (n : Nat) : State :=
  Nat.repeat (fun t => t.bump b c) n s

/-- A per-bay counter incremented when something holds. -/
def State.bumpIf (s : State) (p : Bool) (b : BayId) (c : BayCounter) : State :=
  if p then s.bump b c else s

/-- A bridge-wide counter incremented. -/
def State.count (s : State) (c : BridgeCounter) : State :=
  { s with counters := s.counters.modify c.index satInc }

/-- A per-stream counter incremented. -/
def State.countStream (s : State) (st : StreamId) (c : StreamCounter) : State :=
  s.modStream st fun x => { x with counters := x.counters.modify c.index satInc }

/-- What a per-bay counter reads. -/
def State.bayCounter (s : State) (b : BayId) (c : BayCounter) : Word := (s.bay b).counters.get c.index

/-- What a bridge-wide counter reads. -/
def State.bridgeCounter (s : State) (c : BridgeCounter) : Word := s.counters.get c.index

/-- What a per-stream counter reads. -/
def State.streamCounter (s : State) (st : StreamId) (c : StreamCounter) : Word :=
  (s.stream st).counters.get c.index

/-! ## Time -/

/-- A timer of `ms` started now (04 R76). -/
def State.startTimer (s : State) (ms : Nat) : Timer := { start := s.clock.ticks, limit := ms }

/-- The ticks since a timer's start. -/
def State.elapsed (s : State) (t : Timer) : Nat := s.clock.ticks - t.start

/-- A timer that has run for its limit: a limit of t ms expires at the t-th following tick
(04 R76). -/
def State.expired (s : State) (t : Option Timer) : Bool :=
  match t with
  | none => false
  | some x => decide (x.limit ≤ s.elapsed x)

/-- The seconds of day (04 R74). -/
def State.secondsOfDay (s : State) : Nat := s.clock.seconds.toNat % 86400

/-! ## Notices (08 R155 to R157) -/

/-- A notice kind's bit of the mask (10, SET NOTICE MASK). -/
def Notice.kind : Notice → Fin 7
  | .bridgeStart .. => 0
  | .bayState .. => 1
  | .inventoryTaken .. => 2
  | .jobEnd .. => 3
  | .unitResult .. => 4
  | .late .. => 5
  | .streamSatisfied .. => 6

/-- The notice mask enables a kind (08 R155). -/
def NoticeQueue.enabled (q : NoticeQueue) (n : Notice) : Bool := q.mask.getLsbD n.kind.val

/-- A notice posted: not queued while its kind is disabled, lost when 32 are held, and otherwise
placed at the tail with the clock's reading (08 R155, R156, R157). -/
def State.post (s : State) (n : Notice) : State :=
  if s.notices.enabled n then
    if s.notices.queue.length < Config.noticeSlots then
      { s with notices := { s.notices with
          queue := s.notices.queue ++ [⟨s.clock.seconds, s.clock.valid, n⟩] } }
    else
      ({ s with notices := { s.notices with lost := true } }).count .noticesLost
  else s

/-! ## The station address (08 R145) -/

/-- The station address: the fixed base followed by the bridge number. -/
def State.station (s : State) : Address := Config.stationBase ||| s.uplink.bridgeNumber.setWidth 48

/-- The uplink port receives: its link is up and the reset pin is not held low (08 R145, R162). -/
def State.receiving (s : State) : Bool := s.uplink.up && !s.resetHeld

end Sys2Proof.Machine
end

