-- ==== Sys2Proof/Machine/Flags.lean ====
section
/-! DEFINITION. What the rules read off the state without its being stored: credits held, spare
capacity, wanting, effective priority, live job counts, the activation window, eligibility, remaining
work, slack and urgency, and which frame a transmitter may take next. -/

namespace Sys2Proof.Machine

/-! ## Credit and capacity (02) -/

/-- The credits a stream holds: the credit limit minus the accepted count, mod 65536 (02 R26). -/
def Stream.held (x : Stream) : Nat := (x.limit - x.accepted).toNat

/-- The occupied slots of the pool (02 R36). -/
def State.occupied (s : State) : Nat := (s.pool.cells.filter Option.isSome).length

/-- The free slots of the pool. -/
def State.freeSlots (s : State) : Nat := Config.poolSlots - s.occupied

/-- The credits held by all streams (02 R39). -/
def State.totalHeld (s : State) : Nat := (s.streams.cells.map Stream.held).sum

/-- The spare capacity: free slots less the credits held by all streams (02 R39). -/
def State.spare (s : State) : Nat := s.freeSlots - s.totalHeld

/-- A stream is wanting: OPEN, not satisfied, and holding fewer credits than the window
(02 R39). -/
def Stream.wanting (window : Nat) (x : Stream) : Bool :=
  x.isOpen && !x.satisfied && decide (x.held < window)

/-- The bays that hold a job of a stream in RECEIVING, whatever their state (04 R87). -/
def State.receivingBays (s : State) (st : StreamId) : List BayId :=
  allBays.filter fun b =>
    (s.bay b).jobList.any fun pj => pj.2.stream = st && pj.2.state = .receiving

/-- U of a stream: the highest stored urgency among those bays, or 0 (04 R87). -/
def State.streamUrgency (s : State) (st : StreamId) : Nat :=
  (s.receivingBays st).foldl (fun u b => max u (s.bay b).deadline.urgency) 0

/-- The effective priority E of a stream: level − U − age steps, clamped into 0 to 7 (04 R87). -/
def State.priority (s : State) (st : StreamId) : Nat :=
  let x := s.stream st
  let e : Int := (x.level : Int) - s.streamUrgency st - (x.age / s.config.ageQuantum : Nat)
  (max 0 (min 7 e)).toNat

/-- The wanting stream with the lowest E, and among equals the lowest number (02 R40). -/
def State.arbiterPick (s : State) : Option StreamId :=
  (allStreams.filter fun st => (s.stream st).wanting s.config.streamWindow).foldl
    (fun acc st => match acc with
      | none => some st
      | some a => if s.priority st < s.priority a then some st else some a) none

/-- A job wants blocks of its stream: it is RECEIVING on a SERVING bay with its cursor below L or a
gap (02 R41). -/
def Bay.jobWants (x : Bay) (j : Job) : Bool :=
  decide (x.ctl.state = .serving) && decide (j.state = .receiving) &&
    (decide (j.cursor < j.identity.length) || !j.gaps.isEmpty)

/-- The jobs of a stream that want blocks. -/
def State.wantingJobs (s : State) (st : StreamId) : List Job :=
  allBays.flatMap fun b =>
    ((s.bay b).jobList.filter fun pj => pj.2.stream = st && (s.bay b).jobWants pj.2).map (·.2)

/-- The resume point of a stream: the nearest sequence ahead of the carousel position that some job
wants, or the carousel position when none does (02 R45, 03 R71). -/
def State.resumePoint (s : State) (st : StreamId) : Nat :=
  let c := (s.stream st).position
  let ahead := (s.wantingJobs st).flatMap fun j => j.wantedOffsets.map (j.distanceAhead c)
  match ahead with
  | [] => c
  | d :: ds => (c + ds.foldl min d) % (s.stream st).length

/-! ## Manifest (01) -/

/-- A unit's match key (01 R11). -/
def UnitRecord.key (r : UnitRecord) : MatchKey := r.cls.setWidth 24 <<< 8 ||| r.revision.setWidth 24

/-- An entry matches a key (01 R2). -/
def Entry.matchesKey (e : Entry) (key : MatchKey) : Bool :=
  e.active && decide (key &&& e.fields.mask = e.fields.base &&& e.fields.mask)

/-- The governing entry of a key: the lowest ACTIVE entry that matches (01 R2). -/
def State.governing (s : State) (key : MatchKey) : Option EntryId :=
  s.manifest.find (·.matchesKey key)

/-- A job holds a unit linked to an entry (01 R3). -/
def Job.linkedTo (j : Job) (i : EntryId) : Bool := j.members.any (·.link = some i)

/-- The live job count of an entry (01 R3). -/
def State.liveCount (s : State) (i : EntryId) : Nat :=
  (allBays.map fun b =>
    ((s.bay b).jobList.filter fun pj => pj.2.live && pj.2.linkedTo i).length).sum

/-- The image identity that an entry gives: its stream's L, its check value, its target
(01 R19). -/
def State.identityOf (s : State) (f : EntryFields) : Identity :=
  { length := (s.stream f.stream).length, check := f.check, target := f.target }

/-! ## Activation (05) -/

/-- The activation window is open (05 R91). -/
def State.windowOpen (s : State) : Bool :=
  let a := s.config.windowStart
  let e := s.config.windowEnd
  let t := s.secondsOfDay
  if a = e then true
  else if !s.clock.valid then false
  else if a < e then decide (a ≤ t ∧ t < e)
  else decide (a ≤ t ∨ t < e)

/-- The entry named by a link lets its units be activated (05 R90, condition 3). -/
def State.linkAllows (s : State) (link : Option EntryId) : Bool :=
  match link with
  | none => false
  | some i =>
    let e := s.entry i
    e.active && (decide (e.fields.policy = .immediate) || e.released)

/-- A member of a job is eligible for activation (05 R90). -/
def State.eligible (s : State) (b : BayId) (j : Job) (m : Member) : Bool :=
  let x := s.bay b
  j.live && decide (m.state = .staged) &&
    (match x.unit? m.unit with
      | none => false
      | some r => decide (r.standby = some j.identity.target)) &&
    s.linkAllows m.link && decide (x.ctl.state = .serving) &&
    decide (x.ctl.vehicleState = some .parked) && s.windowOpen

/-- The eligible member with the lowest unit address, with its job's place (05 R92). -/
def State.firstEligible (s : State) (b : BayId) : Option (Place × Job × Member) :=
  ((s.bay b).jobList.flatMap fun pj =>
      (pj.2.members.filter (s.eligible b pj.2)).map fun m => (pj.1, pj.2, m)).foldl
    (fun acc c => match acc with
      | none => some c
      | some a => if c.2.2.unit < a.2.2.unit then some c else some a) none

/-! ## Deadlines (04) -/

/-- The remaining work of a bay: L less the confirmed count, over its jobs in QUEUED, OPENING and
RECEIVING (04 R84). -/
def Bay.remainingWork (x : Bay) : Nat :=
  (x.jobList.map fun pj =>
    match pj.2.state with
    | .queued | .opening | .receiving =>
      pj.2.identity.length - (x.countsOf pj.1 pj.2).confirmed
    | .closing | .staged | .complete | .partialDone | .failed | .cancelled => 0).sum

/-- The estimated remaining service time in seconds, rounded up and saturating (04 R84). -/
def serviceSeconds (remaining serviceTime : Nat) : Nat :=
  min ((remaining * serviceTime + 999999) / 1000000) 4294967295

/-- The pull-out time of a vehicle, when the departure table holds it (04 R79). -/
def State.pullOut (s : State) (vehicle : Option Word) : Option Word :=
  match vehicle with
  | none => none
  | some v =>
    (s.departures.cells.findSome? fun d => d.bind fun e =>
      if e.vehicle = v then some e.pullOut else none)

/-- The slack of a bay with pull-out time P: the time left, less the estimate and the guard
(04 R85). -/
def slackOf (pullOut now estimate guardTime : Nat) : Int :=
  ((pullOut - now : Nat) : Int) - estimate - guardTime

/-- The urgency of a slack (04 R85). -/
def urgencyOf (slack : Int) (th1 th2 : Nat) : Nat :=
  if slack ≤ 0 then 3 else if slack < th2 then 2 else if slack < th1 then 1 else 0

/-! ## Transmitters -/

/-- A block entry of a bay may be sent: its channel has credit (03 R64). -/
def Bay.sendable (x : Bay) (e : TxEntry) : Bool :=
  match x.channels[e.channel.val]? with
  | none => false
  | some c => decide (0 < c.credit)

/-- The oldest block entry whose channel has credit (03 R64). -/
def Bay.nextBlock (x : Bay) : Option TxEntry := x.txQueue.find? x.sendable

/-- The bay transmitter's choice (06 R123). -/
inductive TxChoice where
  | link (f : LinkFrame)
  | control (f : ControlFrame)
  | block (e : TxEntry)
  | passDown (body : List Byte)
deriving DecidableEq, Repr

/-- The next frame of a bay's transmitter (06 R123). -/
def Bay.txChoice (x : Bay) : Option TxChoice :=
  match x.port.phase with
  | .probing | .switching => x.port.linkFrame.map .link
  | .down | .forced => none
  | .trained =>
    if x.port.qualified then
      match x.port.control, x.port.passDown, x.nextBlock with
      | f :: _, _, _ => some (.control f)
      | [], body :: _, none => some (.passDown body)
      | [], body :: _, some e =>
        if x.port.blockRun = Config.blockRun then some (.passDown body) else some (.block e)
      | [], [], some e => some (.block e)
      | [], [], none => none
    else none

/-- The uplink port's choice (08 R159). -/
inductive UplinkChoice where
  | response (r : Response) (rest : List Response)
  | notice (server : Address) (n : PostedNotice) (rest : List PostedNotice)
  | status (server : Address) (st : StreamId) (rest : List StreamId)
  | passUp (server : Address) (f : PassUp) (rest : List PassUp)
deriving DecidableEq, Repr

/-- The next frame of the uplink port when its link is up (08 R159). While the reset pin is held
low it sends nothing (R145). -/
def State.uplinkChoice (s : State) : Option UplinkChoice :=
  if s.receiving then
    match s.uplink.responses, s.uplink.server with
    | r :: rest, _ => some (.response r rest)
    | [], none => none
    | [], some a =>
      match s.notices.queue, s.due, s.uplink.passUps with
      | n :: rest, _, _ => some (.notice a n rest)
      | [], st :: rest, _ => some (.status a st rest)
      | [], [], f :: rest => some (.passUp a f rest)
      | [], [], [] => none
  else none

end Sys2Proof.Machine
end

