-- ==== Sys2Proof/Machine/Streams.lean ====
section
/-! DEFINITION. The stream table, the block pool and the grant arbiter: grants, satisfaction,
revocation and resume points (02 R39 to R47), and the leaving and freeing of slots (02 R36, R37). -/

namespace Sys2Proof.Machine

/-- One grant of the arbiter: the picked stream gets the smaller of the spare capacity and its
window less its credits, its age becomes 0, and a STREAM STATUS becomes due (02 R40). -/
def State.grantTo (s : State) (st : StreamId) : State :=
  let x := s.stream st
  let n := min s.spare (s.config.streamWindow - x.held)
  (s.modStream st fun x => { x with limit := x.limit + BitVec.ofNat 16 n, age := 0 }).makeDue st

/-- The arbiter's loop with fuel: it stops when the spare capacity is 0 or no stream is wanting. -/
def State.grants : Nat → State → State
  | 0, s => s
  | n + 1, s =>
    if s.spare = 0 then s
    else match s.arbiterPick with
      | none => s
      | some st => State.grants n (s.grantTo st)

/-- The grant arbiter evaluates (02 R40). Each grant leaves either no spare capacity or one wanting
stream fewer, so sixteen grants are always enough. -/
def State.arbitrate (s : State) : State := State.grants 16 s

/-- A stream's resume point recomputed (02 R45). -/
def State.recomputeResume (s : State) (st : StreamId) : State :=
  s.modStream st fun x => { x with resume := s.resumePoint st }

/-- A stream's credit revoked: the limit becomes the accepted count (02 R26, R42). -/
def Stream.revoke (x : Stream) : Stream := { x with limit := x.accepted }

/-- A stream becomes satisfied (02 R42). -/
def State.satisfy (s : State) (st : StreamId) : State :=
  let s1 := s.modStream st fun x =>
    { x.revoke with resume := x.position, age := 0, satisfied := true }
  let x := s1.stream st
  ((s1.makeDue st).post (.streamSatisfied st x.accepted x.position)).arbitrate

/-- A stream becomes unsatisfied: it is wanting with age 0 (02 R43). -/
def State.unsatisfy (s : State) (st : StreamId) : State :=
  let s1 := (s.modStream st fun x => { x with satisfied := false, age := 0 }).recomputeResume st
  (s1.makeDue st).arbitrate

/-- A stream judged at an event that can change whether it is wanted, or where (02 R41, R45). -/
def State.judge (s : State) (st : StreamId) : State :=
  let x := s.stream st
  if x.isOpen then
    if (s.wantingJobs st).isEmpty then
      if x.satisfied then s.recomputeResume st else s.satisfy st
    else
      if x.satisfied then s.unsatisfy st else s.recomputeResume st
  else s

/-- What of a bay's jobs of a stream decides whether they want blocks, and where: for each of them, by
record place, whether it is RECEIVING, its cursor and its gap ranges (02 R41, 03 R71). -/
def Bay.demand (x : Bay) (st : StreamId) : List (Place × Bool × Nat × List Gap) :=
  (x.jobList.filter fun pj => pj.2.stream = st).map fun pj =>
    (pj.1, decide (pj.2.state = .receiving), pj.2.cursor, pj.2.gaps)

/-- A stream judged at the end of work on some bays that began in `before`: only when a job of the
stream there has entered or left RECEIVING, moved its cursor or changed a gap range. At any other
event 02 R41 asks for no judgement, and the resume point stays as it was (02 R45). -/
def State.judgeMoved (s before : State) (bays : List BayId) (st : StreamId) : State :=
  if bays.all fun b => (s.bay b).demand st = (before.bay b).demand st then s else s.judge st

/-- Several streams judged, in the order given. -/
def State.judgeAll (s : State) (l : List StreamId) : State := l.foldl State.judge s

/-- The streams of a bay's RECEIVING jobs, ascending: the order in which they are judged as the bay
enters or leaves SERVING, which the spec leaves open (02 R41, log 8). -/
def Bay.receivingStreams (x : Bay) : List StreamId :=
  allStreams.filter fun st => x.jobList.any fun pj => pj.2.stream = st && pj.2.state = .receiving

/-- A bay leaves a slot's delivery set; the last one to leave frees the slot, and the arbiter
evaluates (02 R36, R37). -/
def State.leaveSlot (s : State) (b : BayId) (sl : SlotId) : State :=
  match s.pool.get sl with
  | none => s
  | some x =>
    let rest := x.delivery.filter (· ≠ b)
    if rest.isEmpty then
      ({ s with pool := s.pool.set sl none }).arbitrate
    else { s with pool := s.pool.set sl (some { x with delivery := rest }) }

/-- An offset made needed: the range [d, d] is added unless the offset already lies in one, and a
join of a full list is counted (03 R60, R62). -/
def State.makeNeeded (s : State) (b : BayId) (p : Place) (d : Nat) : State :=
  match s.job b p with
  | none => s
  | some j =>
    if inGaps j.gaps d then s
    else
      let r := addRange j.gaps ⟨d, d⟩
      (s.modJob b p fun j => { j with gaps := r.1 }).bumpIf r.2 b .gapJoins

/-- One queued entry taken out of a bay's transmit queue unsent, its offset made needed
(03 R62). -/
def State.unqueue (s : State) (b : BayId) (e : TxEntry) : State :=
  (s.modBay b fun x => { x with txQueue := x.txQueue.filter (· ≠ e) }).makeNeeded b e.place e.offset

/-- One queued entry removed unsent: its offset becomes needed, and the bay leaves its slot
(02 R37, 03 R62). -/
def State.dropEntry (s : State) (b : BayId) (e : TxEntry) : State :=
  (s.unqueue b e).leaveSlot b e.slot

/-- Every queued entry of a bay that meets a test removed unsent, the oldest first. -/
def State.dropEntries (s : State) (b : BayId) (p : TxEntry → Bool) : State :=
  ((s.bay b).txQueue.filter p).foldl (fun t e => t.dropEntry b e) s

/-- A bay detached from a slot: its entry for the slot leaves the queue and the block becomes needed
again (02 R38). -/
def State.detachBay (s : State) (sl : SlotId) (b : BayId) : State :=
  ((s.bay b).txQueue.filter (·.slot = sl)).foldl (fun t e => t.unqueue b e) s

/-- A slot's remaining bays detached, with or without the hold-limit counter: the blocks become
needed again, the stream is judged when a gap range has changed, and the slot is freed
(02 R38, R28, R41). That the stream is judged before the slot is free, and the arbiter evaluates for
the freed slot last, is the model's order, which the rules leave open (log 33). -/
def State.detachSlot (s : State) (sl : SlotId) (counted : Bool) : State :=
  match s.pool.get sl with
  | none => s
  | some x =>
    let s1 := x.delivery.foldl (fun t b => (t.bumpIf counted b .blocksDetached).detachBay sl b) s
    let s2 := s1.judgeMoved s x.delivery x.stream
    ({ s2 with pool := s2.pool.set sl none }).arbitrate

/-- The hold limit taken on every slot that is older than it (02 R38, 08 R151). Several slots go in
ascending slot number: the rule gives them no order, and this one is the model's (log 33). -/
def State.expireSlots (s : State) : State :=
  allSlots.foldl
    (fun t sl => match t.pool.get sl with
      | none => t
      | some x => if t.config.holdLimit ≤ t.clock.ticks - x.arrival then t.detachSlot sl true else t)
    s

/-- The ages of the streams that are not wanting become 0 (02 R39). -/
def State.zeroAges (s : State) : State :=
  { s with streams := s.streams.map fun x =>
      if x.wanting s.config.streamWindow then x else { x with age := 0 } }

/-- A millisecond passes for the stream ages: a wanting stream's age rises, up to 65535
(02 R39). -/
def State.ageStreams (s : State) : State :=
  { s with streams := s.streams.map fun x =>
      if x.wanting s.config.streamWindow then { x with age := min 65535 (x.age + 1) } else x }

end Sys2Proof.Machine
end

