-- ==== Sys2Proof/Machine/Jobs.lean ====
section
/-! DEFINITION. Channels and the course of a job: assignment, opening, closing, the freeing of a
channel, leaving the transfer and ending (03 R51 to R58, R66). -/

namespace Sys2Proof.Machine

/-- A job control frame placed at the tail of the queue (06 R124). -/
def State.placeControl (s : State) (b : BayId) (f : ControlFrame) : State :=
  s.modPort b fun x => { x with control := x.control ++ [f] }

/-- The job control frames that meet a test removed unsent (06 R124). -/
def State.removeControl (s : State) (b : BayId) (p : ControlFrame → Bool) : State :=
  s.modPort b fun x => { x with control := x.control.filter fun f => !p f }

/-- A CHANNEL OPEN or CHANNEL CLOSE of a channel (03 R58). -/
def ControlFrame.ofChannel (c : ChannelId) : ControlFrame → Bool
  | .channelOpen d .. => decide (d = c)
  | .channelClose d .. => decide (d = c)
  | .activate .. => false
  | .revert .. => false
  | .inventoryRequest .. => false

/-- A CHANNEL OPEN of a channel. -/
def ControlFrame.opens (c : ChannelId) : ControlFrame → Bool
  | .channelOpen d .. => decide (d = c)
  | .channelClose .. => false
  | .activate .. => false
  | .revert .. => false
  | .inventoryRequest .. => false

/-- An INVENTORY REQUEST. -/
def ControlFrame.asksInventory : ControlFrame → Bool
  | .inventoryRequest _ => true
  | .channelOpen .. => false
  | .channelClose .. => false
  | .activate .. => false
  | .revert .. => false

/-- An INVENTORY REQUEST placed, unless one waits already (05 R101, 06 R124, 07 R130, R131). -/
def State.requestInventory (s : State) (b : BayId) (byActivation : Bool) : State :=
  if (s.bay b).port.control.any ControlFrame.asksInventory then s
  else s.placeControl b (.inventoryRequest byActivation)

/-- All of a bay's deferred flags cleared (03 R57). -/
def State.clearDeferred (s : State) (b : BayId) : State :=
  s.modBay b fun x => { x with jobs := x.jobs.map (Option.map fun j => { j with deferred := false }) }

/-- The probe removed without a sample when its channel is freed (04 R82). -/
def State.abandonProbe (s : State) (b : BayId) (c : ChannelId) : State :=
  match (s.bay b).deadline.probe with
  | none => s
  | some p =>
    if p.channel = c then
      (s.modDeadline b fun d => { d with probe := none }).bump b .probesAbandoned
    else s

/-- A channel freed: its in-flight offsets are made needed, it and its job lose each other, its
credit is full again, its waiting frames are removed, and the deferred flags are cleared
(03 R58, R57). The tag is kept. The offsets are made needed in the order in which they were sent
(03 R62, log 28). -/
def State.freeChannel (s : State) (b : BayId) (c : ChannelId) (p : Place) : State :=
  match s.channel b c, s.job b p with
  | some ch, some j =>
    let s1 := (s.modChannel b c fun x => { x with inFlight := [] }).abandonProbe b c
    let s2 := ch.inFlight.foldl (fun t f => t.makeNeeded b p (j.offsetOf f.sequence)) s1
    let per := (s.bay b).creditsPer
    let s3 := s2.modChannel b c fun x =>
      { x with job := none, credit := per, openTimer := none, openExpired := false,
               closeTimer := none }
    let s4 := s3.modJob b p fun x => { x with channel := none }
    (s4.removeControl b (ControlFrame.ofChannel c)).clearDeferred b
  | _, _ => s

/-- The channel of a job freed, when it holds one. -/
def State.freeJobChannel (s : State) (b : BayId) (p : Place) : State :=
  match s.job b p with
  | none => s
  | some j =>
    match j.channel with
    | none => s
    | some c => s.freeChannel b c p

/-- The lowest-numbered free channel of a bay (03 R54). -/
def Bay.freeChannel? (x : Bay) : Option ChannelId :=
  allChannels.find? fun c => match x.channels[c.val]? with
    | none => false
    | some ch => ch.job.isNone

/-- A job that a channel may be given to: QUEUED and not deferred (03 R54). -/
def Job.assignable (j : Job) : Bool := decide (j.state = .queued) && !j.deferred

/-- The rank of a job among those waiting for a channel: its governing entry index. -/
def Job.rank (j : Job) : Nat :=
  match j.governing with
  | none => 64
  | some i => i.val

/-- The job that gets the next free channel: the assignable one with the lowest governing entry
(03 R54). -/
def Bay.nextJob (x : Bay) : Option (Place × Job) :=
  (x.jobList.filter fun pj => pj.2.assignable).foldl
    (fun acc c => match acc with
      | none => some c
      | some a => if c.2.rank < a.2.rank then some c else some a) none

/-- A job enters OPENING on a channel (03 R55). A job without progress starts at the carousel
position of the moment. -/
def State.enterOpening (s : State) (b : BayId) (c : ChannelId) (p : Place) (j : Job) : State :=
  let x := s.stream j.stream
  let start := if j.cursor = 0 ∧ j.gaps = [] then x.position else j.start
  let tag := (s.bay b).openCounter + 1
  let per := (s.bay b).creditsPer
  let s1 := s.modBay b fun y => { y with openCounter := tag }
  let s2 := s1.modJob b p fun k =>
    { k with state := .opening, channel := some c, tag := tag, start := start }
  let s3 := s2.modChannel b c fun ch =>
    { ch with job := some p, tag := tag, credit := per, inFlight := [], openTimer := none,
              openExpired := false, closeTimer := none }
  s3.placeControl b (.channelOpen c tag j.identity x.lastLength start)

/-- Channel assignment with fuel. -/
def State.assigns : Nat → BayId → State → State
  | 0, _, s => s
  | n + 1, b, s =>
    if (s.bay b).ctl.state = .serving then
      match (s.bay b).freeChannel?, (s.bay b).nextJob with
      | some c, some (p, j) => State.assigns n b (s.enterOpening b c p j)
      | _, _ => s
    else s

/-- Channels assigned while the bay is SERVING, a channel is free and a QUEUED job is not deferred
(03 R54). A bay has at most four channels, so four assignments are always enough. -/
def State.assign (s : State) (b : BayId) : State := State.assigns 4 b s

/-- The unit addresses of a job's PENDING members, ascending (03 R66). -/
def Job.pendingUnits (j : Job) : List UnitAddr :=
  (List.finRange 64).filter fun u => j.members.any fun m => m.unit = u && m.state = .pending

/-- A job enters CLOSING, and its CHANNEL CLOSE is placed (03 R66). -/
def State.enterClosing (s : State) (b : BayId) (p : Place) (j : Job) (c : ChannelId) : State :=
  (s.modJob b p fun k => { k with state := .closing }).placeControl b
    (.channelClose c j.tag j.identity.check j.pendingUnits)

/-- A job's transfer is complete: cursor at L, no gaps, nothing queued or in flight (03 R66). -/
def Bay.transferDone (x : Bay) (p : Place) (j : Job) : Bool :=
  decide (j.state = .receiving) && decide (j.cursor = j.identity.length) && j.gaps.isEmpty &&
    (x.heldOffsets p j).isEmpty

/-- The job in a place judged for completion (03 R66). -/
def State.checkCompletion (s : State) (b : BayId) (p : Place) : State :=
  match s.job b p with
  | none => s
  | some j =>
    match j.channel with
    | none => s
    | some c => if (s.bay b).transferDone p j then s.enterClosing b p j c else s

/-- The outcome of a job whose members are all terminal (03 R51). -/
def Job.outcome (j : Job) : JobState :=
  if j.checkFailed then .failed
  else if j.members.all (·.state = .done) then .complete
  else if j.members.all (·.state = .cancelled) then .cancelled
  else .partialDone

/-- The job references to a place removed from a bay's records (01 R10). -/
def State.dropReferences (s : State) (b : BayId) (p : Place) : State :=
  s.modInventory b fun l => l.map fun r => if r.job = some p then { r with job := none } else r

/-- A job ends (03 R51): its queued entries and its channel go, the end time is set, the references
and entry links are removed (log 9), its stream is judged when it was RECEIVING or a gap range has
changed (02 R41), and JOB END is posted. That the blocks are given up before the stream is judged, and
that the stream is judged, and STREAM SATISFIED posted, before JOB END, is the model's order
(log 32). The replacements and builder runs that follow are the caller's (log 8). -/
def State.endJob (s : State) (b : BayId) (p : Place) : State :=
  match s.job b p with
  | none => s
  | some j =>
    let s1 := (s.dropEntries b (·.place = p)).freeJobChannel b p
    let s2 := s1.modJob b p fun k =>
      { k with state := k.outcome, endTime := some s.clock.seconds,
               members := k.members.map fun m => { m with link := none } }
    let s3 := (s2.dropReferences b p).modBay b fun x => { x with endOrder := x.endOrder ++ [p] }
    (s3.judgeMoved s [b] j.stream).post
      (.jobEnd b (s.bay b).ctl.vehicle p j.stream j.outcome j.attempts (j.countIn .done)
        (j.countIn .reverted) (j.countIn .fault) (j.countIn .stageFailed) (j.countIn .cancelled))

/-- A job leaves the transfer for STAGED (03 R53). Its blocks are given up before its stream is judged,
which is the model's order (log 32); a job that was not RECEIVING and whose gap ranges stay makes no
judgement (02 R41). -/
def State.leaveTransfer (s : State) (b : BayId) (p : Place) (j : Job) : State :=
  (((s.dropEntries b (·.place = p)).freeJobChannel b p).modJob b p fun k =>
    { k with state := .staged }).judgeMoved s [b] j.stream

/-- A job is in QUEUED, OPENING or RECEIVING. -/
def Job.transferring (j : Job) : Bool :=
  match j.state with
  | .queued | .opening | .receiving => true
  | .closing | .staged | .complete | .partialDone | .failed | .cancelled => false

/-- The job in a place judged after its members have changed: it ends when all are terminal (R51),
and leaves the transfer when none is PENDING (R53). -/
def State.closeOut (s : State) (b : BayId) (p : Place) : State :=
  match s.job b p with
  | none => s
  | some j =>
    if j.live then
      if j.allTerminal then s.endJob b p
      else if j.transferring && !j.hasPending then s.leaveTransfer b p j
      else s
    else s

/-- Every job of a bay so judged, in ascending record place. -/
def State.closeOutAll (s : State) (b : BayId) : State :=
  allPlaces.foldl (fun t p => t.closeOut b p) s

/-- The activation record of a controller that has selected a unit in the job of a place, once that
member has become terminal (05 R93, R103, R104). -/
def Activation.lose (a : Activation) (p : Place) (u : UnitAddr) : Activation :=
  match a with
  | .selected t gone => .selected t (gone || (decide (t.unit = u) && decide (t.place = p)))
  | .idle => .idle
  | .activating t previous timer => .activating t previous timer
  | .reverting t previous timer => .reverting t previous timer

/-- A unit's member in the job of a place becomes terminal or changes state. When the state is
terminal, the record's reference goes (01 R10), and a controller that has selected the member has
lost it (05 R93). -/
def State.setMember (s : State) (b : BayId) (p : Place) (u : UnitAddr) (st : UnitState) : State :=
  let s1 := s.modJob b p fun j => j.modMember u fun m => { m with state := st }
  if st.terminal then
    (s1.modUnit b u fun r => if r.job = some p then { r with job := none } else r).modBay b fun x =>
      { x with activation := x.activation.lose p u }
  else s1

/-- An IDLE activation controller looks for an eligible member: it selects the one with the lowest
unit address and places its ACTIVATE (05 R92). -/
def State.look (s : State) (b : BayId) : State :=
  match (s.bay b).activation with
  | .idle =>
    match s.firstEligible b with
    | none => s
    | some (p, j, m) =>
      (s.setActivation b (.selected ⟨m.unit, p, j.identity.target⟩ false)).placeControl b
        (.activate m.unit j.identity.target)
  | .selected .. => s
  | .activating .. => s
  | .reverting .. => s

/-- Every IDLE activation controller looks for an eligible member (05 R91, R92). -/
def State.lookAll (s : State) : State := s.forBays fun b t => t.look b

end Sys2Proof.Machine
end

