-- ==== Sys2Proof/Machine/Builder.lean ====
section
/-! DEFINITION. The work-list builder (01 R17 to R21), the creation of jobs and the restoring of
resume records (03 R49, R52, 07 R143), and the application of pending replacements (01 R6). -/

namespace Sys2Proof.Machine

/-- The disposition of a unit against its governing entry (01 R17). -/
def disposeAgainst (r : UnitRecord) (e : Option Entry) : Disposition :=
  if r.blocked then .blocked
  else match e with
    | none => .unmanaged
    | some g =>
      if r.running = g.fields.target then .current
      else if g.fields.target < r.running ∧ g.fields.downgrade = false then .held
      else if r.standby = some g.fields.target then .stageReady
      else .needsImage

/-- The disposition of a unit at this moment (01 R17). -/
def State.dispose (s : State) (r : UnitRecord) : Disposition :=
  disposeAgainst r ((s.governing r.key).map s.entry)

/-- Pass 1: every record without a job reference receives its disposition (01 R18). -/
def State.disposeAll (s : State) (b : BayId) : State :=
  s.modInventory b fun l => l.map fun r =>
    if r.job.isNone then { r with disposition := s.dispose r } else r

/-- The bay's non-terminal job for a stream, with its place (01 R19). -/
def Bay.liveJobFor (x : Bay) (st : StreamId) : Option (Place × Job) :=
  x.jobList.find? fun pj => pj.2.live && pj.2.stream = st

/-- The place a new job takes: the lowest vacant one, or the place of the terminal record that
became terminal first, or none (01 R21, 03 R49). -/
def Bay.newPlace (x : Bay) : Option Place :=
  match x.jobs.find Option.isNone with
  | some p => some p
  | none => x.endOrder.head?

/-- The place of the resume record for a vehicle and an image identity (07 R143). -/
def ResumeTable.lookup (t : ResumeTable) (vehicle : Word) (i : Identity) : Option ResumeId :=
  t.places.find fun r => match r with
    | none => false
    | some x => decide (x.vehicle = vehicle ∧ x.identity = i)

/-- A place vacated, leaving the write order (07 R142, R143). -/
def ResumeTable.remove (t : ResumeTable) (p : ResumeId) : ResumeTable :=
  { places := t.places.set p none, order := t.order.filter (· ≠ p) }

/-- The resume record of a vehicle and an image identity, removed as a job is created
(03 R52, 07 R143). -/
def State.takeResume (s : State) (vehicle : Option Word) (i : Identity) :
    Option ResumeRecord × State :=
  match vehicle with
  | none => (none, s)
  | some v =>
    match s.resume.lookup v i with
    | none => (none, s)
    | some p =>
      (s.resume.places.get p, ({ s with resume := s.resume.remove p }).count .resumeRestored)

/-- A member added to a job, and the job reference to the unit's record (01 R19, R20). -/
def State.addMember (s : State) (b : BayId) (p : Place) (u : UnitAddr) (st : UnitState)
    (i : EntryId) : State :=
  (s.modJob b p fun j => { j with members := j.members ++ [⟨u, st, some i⟩] }).modUnit b u
    fun r => { r with job := some p }

/-- A new job with its first member, in QUEUED or in STAGED (01 R20, R21, 03 R49, R52). -/
def newJob (st : StreamId) (ident : Identity) (staged : Bool) (m : Member)
    (r : Option ResumeRecord) : Job :=
  let fresh : Job :=
    { stream := st, identity := ident, members := [m], state := .queued, channel := none, tag := 0,
      start := 0, cursor := 0, gaps := [], attempts := 1, deferred := false, checkFailed := false,
      endTime := none }
  if staged then { fresh with state := .staged, cursor := ident.length }
  else match r with
    | none => fresh
    | some x => { fresh with start := x.start, cursor := x.cursor, gaps := x.gaps }

/-- A job created for a unit; nothing when all eight records are non-terminal (01 R21). -/
def State.createJob (s : State) (b : BayId) (u : UnitAddr) (i : EntryId) (staged : Bool) : State :=
  match (s.bay b).newPlace with
  | none => s
  | some p =>
    let f := (s.entry i).fields
    let ident := s.identityOf f
    let taken := s.takeResume (s.bay b).ctl.vehicle ident
    let j := newJob f.stream ident staged ⟨u, if staged then .staged else .pending, some i⟩ taken.1
    ((taken.2.modBay b fun x =>
        { x with jobs := x.jobs.set p (some j), endOrder := x.endOrder.filter (· ≠ p) }).modUnit b u
      fun r => { r with job := some p })

/-- A job takes NEEDS-IMAGE units into its transfer (01 R19). -/
def Job.takesPending (j : Job) (ident : Identity) : Bool :=
  j.transferring && decide (j.identity = ident) && decide (j.members.length < Config.jobMembers)

/-- A job takes STAGE-READY units, in whatever state it is (01 R20). -/
def Job.takesStaged (j : Job) (ident : Identity) : Bool :=
  decide (j.identity = ident) && decide (j.members.length < Config.jobMembers)

/-- One unit of a disposition placed: it joins the bay's job for its stream, waits, or has a job
created (01 R19 when not `staged`, R20 when `staged`). A unit whose member has become terminal in a job
that still goes on is free and is placed in another stream's job like any other: whether R10's "at most
one non-terminal job" lets it be is open, and this is the model's choice (log 38). -/
def State.placeUnit (s : State) (b : BayId) (r : UnitRecord) (staged : Bool) : State :=
  match s.governing r.key with
  | none => s
  | some i =>
    let f := (s.entry i).fields
    match (s.bay b).liveJobFor f.stream with
    | none => s.createJob b r.unit i staged
    | some (p, j) =>
      if staged then
        if j.takesStaged (s.identityOf f) then s.addMember b p r.unit .staged i else s
      else
        if j.takesPending (s.identityOf f) then s.addMember b p r.unit .pending i else s

/-- Passes 2 and 3: every free unit of a disposition placed, in ascending unit address
(01 R18). -/
def State.placeAll (s : State) (b : BayId) (d : Disposition) (staged : Bool) : State :=
  ((s.bay b).inventory.filter fun r => r.job.isNone && r.disposition = d).foldl
    (fun t r => t.placeUnit b r staged) s

/-- The three passes of a builder run (01 R18). -/
def State.passes (s : State) (b : BayId) : State :=
  ((s.disposeAll b).placeAll b .needsImage false).placeAll b .stageReady true

/-- A run of the work-list builder for a bay, when it is SERVING (01 R18). It is taken whole; then
channels are assigned to the jobs it has created (03 R54), and the activation controller looks at
the members that have joined in STAGED (05 R92). That it looks last is the model's order (log 32). -/
def State.build (s : State) (b : BayId) : State :=
  if (s.bay b).ctl.state = .serving then ((s.passes b).assign b).look b else s

/-- A builder run for every bay in SERVING, in ascending order (01 R5, R6, R8). -/
def State.buildAll (s : State) : State := s.forBays fun b t => t.build b

/-- A pending replacement of an entry that no live job holds back any more (01 R3, R6). -/
def State.replaceable (s : State) (i : EntryId) : Bool :=
  let e := s.entry i
  e.active && e.replacement.isSome && decide (s.liveCount i = 0)

/-- A pending replacement becomes the entry's fields (01 R6). -/
def Entry.replace (e : Entry) : Entry :=
  match e.replacement with
  | none => e
  | some f => { e with fields := f, replacement := none, released := false }

/-- Every pending replacement whose entry's live job count has reached 0 is applied, in ascending
order, and the builder then runs for every SERVING bay (01 R6, log 8). -/
def State.applyReplacements (s : State) : State :=
  let ready := allEntries.filter s.replaceable
  if ready.isEmpty then s
  else (ready.foldl (fun t i => t.modEntry i Entry.replace) s).buildAll

end Sys2Proof.Machine
end

