-- ==== Sys2Proof/Machine/Activation.lean ====
section
/-! DEFINITION. The activation controller: sending, judging, reverting, outcomes and abandonment
(05 R93 to R104), with the version changes of 01 R22. -/

namespace Sys2Proof.Machine

/-- What follows a job's end in its bay: the free channels assigned, replacements applied, the
builder run (03 R51, 01 R6, R18). -/
def State.afterEnd (s : State) (b : BayId) : State := ((s.assign b).applyReplacements).build b

/-- A record's versions and blocked flag set (01 R22). -/
def State.setVersions (s : State) (b : BayId) (u : UnitAddr) (running : Version)
    (standby : Option Version) (block : Bool) : State :=
  s.modUnit b u fun r =>
    { r with running := running, standby := standby, blocked := r.blocked || block }

/-- The standby version of a report, absent when the frame shows none (05 R94). -/
def reportedStandby (f : UnitReportFrame) : Option Version :=
  if f.standbyPresent then some f.standby else none

/-- The versions and the blocked flag of an activation's outcome (01 R22). -/
def State.applyOutcome (s : State) (b : BayId) (t : ActTarget) (previous : Version)
    (outcome : UnitState) (report : Option UnitReportFrame) : State :=
  s.modUnit b t.unit fun r =>
    match outcome, report with
    | .done, _ => { r with running := t.target, standby := some previous }
    | .reverted, _ => { r with standby := some t.target, blocked := true }
    | .fault, some f => { r with running := f.running, standby := (reportedStandby f), blocked := true }
    | .fault, none => { r with blocked := true }
    | .pending, _ => r
    | .staged, _ => r
    | .activating, _ => r
    | .reverting, _ => r
    | .stageFailed, _ => r
    | .cancelled, _ => r

/-- The counter of an outcome (05 R107). -/
def outcomeCounter (outcome : UnitState) : Option BayCounter :=
  match outcome with
  | .done => some .outcomesDone
  | .reverted => some .outcomesReverted
  | .fault => some .outcomesFault
  | .pending => none
  | .staged => none
  | .activating => none
  | .reverting => none
  | .stageFailed => none
  | .cancelled => none

/-- An activation ends with an outcome (05 R99, R100, R101). A FAULT's INVENTORY REQUEST stands in the
job control queue after the CHANNEL OPENs that the job's end has placed and before the next ACTIVATE:
the rules leave its place among them open, and this one is the model's (log 8). -/
def State.outcome (s : State) (b : BayId) (t : ActTarget) (previous : Version)
    (outcome : UnitState) (cause : ResultCause) (report : Option UnitReportFrame) : State :=
  let link := ((s.job b t.place).bind fun j => j.member? t.unit).bind (·.link)
  let s1 := s.applyOutcome b t previous outcome report
  let s2 := s1.modJob b t.place fun j => j.modMember t.unit fun m => { m with state := outcome }
  let s3 := match outcomeCounter outcome with
    | none => s2
    | some c => s2.bump b c
  let s4 := s3.post (.unitResult b (s.bay b).ctl.vehicle t.unit outcome cause t.target previous
    (report.map (·.running)) (report.map reportedStandby).join link)
  let s5 := (s4.modUnit b t.unit fun r => { r with job := none }).closeOut b t.place
  let ended := match s5.job b t.place with
    | none => false
    | some j => !j.live
  let s6 := if ended then s5.afterEnd b else s5
  let s7 := s6.setActivation b .idle
  (if outcome = .fault then s7.requestInventory b true else s7).look b

/-- An activation abandoned without outcome: the timer stops, a waiting REVERT and the controller's
waiting INVENTORY REQUEST are removed, and the controller is IDLE (05 R104). A SELECTED controller
keeps its phase here; teardown sets it IDLE itself. -/
def State.abandonActivation (s : State) (b : BayId) : State :=
  let clear (u : UnitAddr) : State :=
    ((s.removeControl b fun f => match f with
      | .revert v _ => decide (v = u)
      | .inventoryRequest byActivation => byActivation
      | .channelOpen .. => false
      | .channelClose .. => false
      | .activate .. => false).setActivation b .idle).bump b .activationsAbandoned
  match (s.bay b).activation with
  | .idle => s
  | .selected .. => s
  | .activating t _ _ => clear t.unit
  | .reverting t _ _ => clear t.unit

/-- The timer of an activation, of the activation timeout in seconds (05 R89). -/
def State.activationTimer (s : State) : Timer := s.startTimer (s.config.activationTimeout * 1000)

/-- The member that an activation record names is eligible (05 R93). Whether it is still the member
that was selected is the record's own `gone`. -/
def State.targetEligible (s : State) (b : BayId) (t : ActTarget) : Bool :=
  match s.job b t.place with
  | none => false
  | some j =>
    match j.member? t.unit with
    | none => false
    | some m => s.eligible b j m

/-- The ACTIVATE of a SELECTED controller taken for the line and judged once more (05 R93): the
second answer says whether the frame is sent. A member that has become terminal since its selection
is not eligible, whoever has taken its place in the job (R103, R104). -/
def State.sendActivate (s : State) (b : BayId) (t : ActTarget) (gone : Bool) : State × Bool :=
  match (s.bay b).unit? t.unit, !gone && s.targetEligible b t with
  | some r, true =>
    let s1 := s.modJob b t.place fun j =>
      j.modMember t.unit fun m => { m with state := .activating }
    ((s1.setActivation b (.activating t r.running s.activationTimer)).bump b .activationsStarted,
      true)
  | _, _ =>
    (((s.setActivation b .idle).bump b .activationsWithdrawn).look b, false)

/-- The first expiry of the activation timer (05 R96). -/
def State.firstExpiry (s : State) (b : BayId) : State :=
  match (s.bay b).activation with
  | .activating t previous _ =>
    let s1 := s.modJob b t.place fun j =>
      j.modMember t.unit fun m => { m with state := .reverting }
    (((s1.setActivation b (.reverting t previous none)).placeControl b
      (.revert t.unit previous)).bump b .activationTimeouts)
  | .idle => s
  | .selected .. => s
  | .reverting .. => s

/-- The second expiry: the outcome is FAULT (05 R97). The timer runs only once the REVERT has been
sent. -/
def State.secondExpiry (s : State) (b : BayId) : State :=
  match (s.bay b).activation with
  | .reverting t previous (some _) =>
    (s.bump b .activationTimeouts).outcome b t previous .fault .secondExpiry none
  | .reverting _ _ none => s
  | .idle => s
  | .selected .. => s
  | .activating .. => s

/-- A report that belongs to no activation (05 R98). -/
def State.reportOutside (s : State) (b : BayId) (u : UnitAddr) (f : UnitReportFrame) : State :=
  ((s.setVersions b u f.running (reportedStandby f) false).bump b .reportsOutside).look b

/-- A report for the unit of an ACTIVATING controller (05 R95). -/
def State.reportActivating (s : State) (b : BayId) (t : ActTarget) (previous : Version)
    (f : UnitReportFrame) : State :=
  let verdict : UnitState :=
    if f.running = t.target then .done else if f.running = previous then .reverted else .fault
  s.outcome b t previous verdict .reportActivating (some f)

/-- A report for the unit of a REVERTING controller: a REVERT still waiting is removed (05 R97). -/
def State.reportReverting (s : State) (b : BayId) (t : ActTarget) (previous : Version)
    (f : UnitReportFrame) : State :=
  let verdict : UnitState := if f.running = previous then .reverted else .fault
  (s.removeControl b fun c => match c with
    | .revert v _ => decide (v = t.unit)
    | .channelOpen .. => false
    | .channelClose .. => false
    | .activate .. => false
    | .inventoryRequest _ => false).outcome b t previous verdict .reportReverting (some f)

/-- A bay state in which unit reports are handled (05 R94). -/
def BayState.takesReports : BayState → Bool
  | .serving | .holding | .departing => true
  | .vacant | .training | .qualifying | .intake => false

/-- A UNIT REPORT judged by the activation controller (05 R94). -/
def State.judgeReport (s : State) (b : BayId) (f : UnitReportFrame) : State :=
  if (s.bay b).ctl.state.takesReports then
    match (idx 64 f.unit.toNat).bind fun u => ((s.bay b).unit? u).map fun _ => u with
    | none => s.bump b .unitReportsDiscarded
    | some u =>
      match (s.bay b).activation with
      | .activating t previous _ =>
        if t.unit = u then s.reportActivating b t previous f else s.reportOutside b u f
      | .reverting t previous _ =>
        if t.unit = u then s.reportReverting b t previous f else s.reportOutside b u f
      | .idle => s.reportOutside b u f
      | .selected .. => s.reportOutside b u f
  else s.bump b .unitReportsDiscarded

end Sys2Proof.Machine
end

