-- ==== Sys2Proof/Machine/Lifecycle.lean ====
section
/-! DEFINITION. The bay controller: states, HELLO, vehicle states, holding, drops of the link and
teardown, and the writing of resume records (07 R129 to R141, 06 R122). -/

namespace Sys2Proof.Machine

/-- A change of bay state outside a teardown, with its BAY STATE notice (07 R139). -/
def State.enter (s : State) (b : BayId) (st : BayState) (cause : BayCause) : State :=
  let c := (s.bay b).ctl
  (s.modCtl b fun x => { x with state := st }).post
    (.bayState b c.state st cause c.vehicle 0 0 false)

/-! ## Resume records (07 R141) -/

/-- A record put into a place, which moves to the end of the write order. -/
def ResumeTable.put (t : ResumeTable) (p : ResumeId) (r : ResumeRecord) : ResumeTable :=
  { places := t.places.set p (some r), order := t.order.filter (· ≠ p) ++ [p] }

/-- A job whose progress teardown and bridge reset keep: QUEUED, OPENING, RECEIVING or CLOSING with
a cursor above 0 (07 R137). -/
def Job.resumable (j : Job) : Bool :=
  (match j.state with
    | .queued | .opening | .receiving | .closing => true
    | .staged | .complete | .partialDone | .failed | .cancelled => false) && decide (0 < j.cursor)

/-- A resume record written: over the record of the same vehicle and image, into the lowest vacant
place, or over the earliest written record (07 R141). -/
def State.writeResume (s : State) (vehicle : Word) (j : Job) : State :=
  let r : ResumeRecord :=
    { vehicle := vehicle, identity := j.identity, start := j.start, cursor := j.cursor,
      gaps := j.gaps, created := s.clock.seconds }
  match s.resume.lookup vehicle j.identity with
  | some p => ({ s with resume := s.resume.put p r }).count .resumeReplaced
  | none =>
    match s.resume.places.find Option.isNone with
    | some p => { s with resume := s.resume.put p r }
    | none =>
      match s.resume.order with
      | p :: _ => ({ s with resume := s.resume.put p r }).count .resumeEvicted
      | [] => s

/-- The resume records of a bay's jobs written, in ascending record place; `counted` at a teardown
(07 R137, R140). -/
def State.writeResumes (s : State) (b : BayId) (counted : Bool) : State :=
  match (s.bay b).ctl.vehicle with
  | none => s
  | some v =>
    ((s.bay b).jobList.filter fun pj => pj.2.resumable).foldl
      (fun t pj => (t.writeResume v pj.2).bumpIf counted b .resumeRecordsWritten) s

/-- Every queued and in-flight offset of a bay made needed: the transmit queue and the in-flight
lists are emptied (07 R137, step 2). The order, which the spec leaves open and on which the joins of
a full gap list depend (03 R60), is the model's (log 28): the queue, its oldest entry first, then the
channels in ascending number, each in-flight list in the order of sending. -/
def State.giveUpBlocks (s : State) (b : BayId) : State :=
  let s1 := s.dropEntries b fun _ => true
  let s2 := (s1.bay b).channels.foldl
    (fun t ch => match ch.job with
      | none => t
      | some p => match t.job b p with
        | none => t
        | some j => ch.inFlight.foldl (fun u f => u.makeNeeded b p (j.offsetOf f.sequence)) t) s1
  s2.modBay b fun x =>
    { x with channels := x.channels.map fun ch => { ch with inFlight := [] },
             deadline := { x.deadline with probe := none } }

/-! ## Teardown and drops (07 R137, 06 R122) -/

/-- The cause that a teardown's BAY STATE notice carries (07 R139). -/
def DropCause.notice : DropCause → BayCause
  | .holdingExpired => .holdingExpired
  | .signalLost => .linkDown .signalLost
  | .watchdog => .linkDown .watchdog
  | .resetBay => .linkDown .resetBay
  | .intakeTimeout => .linkDown .intakeTimeout
  | .duplicate => .linkDown .duplicate

/-- The activation of a bay is one that teardown abandons (05 R104). -/
def Activation.underWay : Activation → Bool
  | .idle => false
  | .selected .. => false
  | .activating .. => true
  | .reverting .. => true

/-- A bay torn down (07 R137), in the order of the rule's steps. As it leaves SERVING the streams of
its RECEIVING jobs are judged before any block is given up (02 R41); at step 5 the streams of all the
records discarded are, in ascending record place (log 8). -/
def State.teardown (s : State) (b : BayId) (cause : DropCause) : State :=
  let x := s.bay b
  let live := x.jobList.filter fun pj => pj.2.live
  let written := if x.ctl.vehicle.isSome
    then (x.jobList.filter fun pj => pj.2.resumable).length else 0
  let s1 := s.modCtl b fun c =>
    { c with state := .vacant, intakeTimer := none, holdingTimer := none, pendingHello := none }
  let s2 := (if x.ctl.state = .serving then s1.judgeAll x.receivingStreams else s1).giveUpBlocks b
  let s3 := s2.writeResumes b true
  let s4 := (s3.abandonActivation b).setActivation b .idle
  let s5 := (s4.modBay b fun y => { y with jobs := Table.fill 8 none, endOrder := [] })
  let s6 := s5.applyReplacements.judgeAll (x.jobList.map fun pj => pj.2.stream)
  let s7 := s6.modBay b fun y =>
    { y with inventory := [], truncated := false, channels := [],
             ctl := { y.ctl with vehicle := none, announced := none, channelCount := none,
                                 credits := none, vehicleState := none,
                                 period := Config.idlePeriod },
             deadline := { y.deadline with probe := none, urgency := 0, remaining := 0,
                                           estimate := 0, slack := none } }
  (s7.post (.bayState b x.ctl.state .vacant cause.notice x.ctl.vehicle live.length written
    x.activation.underWay)).bump b .teardowns

/-- The counter of a drop's cause (06 R122, R127). -/
def DropCause.counter : DropCause → BayCounter
  | .signalLost => .dropsSignalLost
  | .watchdog => .watchdogDrops
  | .resetBay => .dropsForced
  | .intakeTimeout => .dropsForced
  | .duplicate => .dropsForced
  | .holdingExpired => .dropsForced

/-- The phase a drop enters (06 R122). -/
def DropCause.phase : DropCause → LinkPhase
  | .signalLost => .down
  | .watchdog => .forced
  | .resetBay => .forced
  | .intakeTimeout => .forced
  | .duplicate => .forced
  | .holdingExpired => .forced

/-- A port after steps 1 and 2 of a drop, in the phase it enters (06 R122). A frame being sent is
lost on the line, and the watchdog age stands still (R119). -/
def Port.dropped (x : Port) (phase : LinkPhase) (timer : Option Timer) : Port :=
  { Port.initial with phase := phase, watchdog := x.watchdog, signal := x.signal,
                      forcedTimer := timer }

/-- The link of a bay drops (06 R122). A request in FORCED restarts the 100 ms; one in DOWN changes
nothing. -/
def State.dropLink (s : State) (b : BayId) (cause : DropCause) : State :=
  let x := s.bay b
  let timer := if cause.phase = .forced then some (s.startTimer Config.forcedTime) else none
  match x.port.phase with
  | .down => s
  | .forced =>
    if cause.phase = .forced then s.modPort b fun y => { y with forcedTimer := timer } else s
  | .probing | .switching | .trained =>
    let s1 := (s.modPort b fun y => y.dropped cause.phase timer).bumpBy b .passDownFlushed
      x.port.passDown.length
    let s2 := if x.ctl.state = .vacant then s1 else s1.teardown b cause
    s2.bump b cause.counter

/-! ## Serving, holding, departing (03 R69, R70, 07 R135, R136) -/

/-- A bay that has just entered HOLDING or DEPARTING gives up its queued blocks: when it has left
SERVING its jobs stop counting at once, and the queue is emptied (03 R69, 02 R41). A bay that passes
between HOLDING and DEPARTING neither enters nor leaves SERVING, and its queue is empty already, so no
stream is judged. -/
def State.withhold (s : State) (b : BayId) (left : BayState) : State :=
  (if left = .serving then s.judgeAll (s.bay b).receivingStreams else s).dropEntries b fun _ => true

/-- A bay returns to SERVING from HOLDING or DEPARTING (03 R70). -/
def State.resumeServing (s : State) (b : BayId) (cause : BayCause) : State :=
  let s1 := s.enter b .serving cause
  (((s1.judgeAll (s1.bay b).receivingStreams).clearDeferred b).assign b).build b

/-- A bay enters DEPARTING (03 R69, 07 R135). That its BAY STATE is posted before the STREAM SATISFIED of
the streams it leaves unwanted is the model's order (log 8). -/
def State.enterDeparting (s : State) (b : BayId) (cause : BayCause) : State :=
  ((s.enter b .departing cause).bump b .departuresAnnounced).withhold b (s.bay b).ctl.state

/-- A bay enters HOLDING (07 R136). That its BAY STATE is posted before the STREAM SATISFIED of the
streams it leaves unwanted is the model's order (log 8). -/
def State.enterHolding (s : State) (b : BayId) : State :=
  let s1 := s.enter b .holding .qualificationLost
  let s2 := s1.modCtl b fun c =>
    { c with holdingTimer := some (s.startTimer (s.config.holdingTime * 1000)) }
  (s2.bump b .holdingEntries).withhold b (s.bay b).ctl.state

/-- A HOLDING bay takes "qualified": it leaves by the stored vehicle state (07 R136). -/
def State.leaveHolding (s : State) (b : BayId) : State :=
  let s1 := s.modCtl b fun c => { c with holdingTimer := none }
  if (s.bay b).ctl.vehicleState = some .departing then s1.enterDeparting b .qualified
  else s1.resumeServing b .qualified

/-! ## HELLO and intake (07 R130 to R134) -/

/-- A vehicle state byte read (10, encodings). -/
def readVehicleState (x : Byte) : Option VehicleState :=
  if x = 1 then some .parked
  else if x = 2 then some .departing
  else if x = 3 then some .service
  else none

/-- The period, vehicle id and vehicle state of a HELLO stored (07 R131, step 2). -/
def Controller.identify (c : Controller) (h : HelloFrame) : Controller :=
  { c with vehicle := some h.vehicle, announced := some h.period,
           period := clampTo 100 2000 h.period.toNat, vehicleState := readVehicleState h.vehicleState }

/-- The channels a HELLO sets up: each free, with full credit, no in-flight entry and tag 0
(07 R131, step 3). -/
def freshChannels (count credits : Nat) : List Channel :=
  List.replicate count
    { job := none, credit := credits, inFlight := [], tag := 0, openTimer := none,
      openExpired := false, closeTimer := none }

/-- Every other bay that holds a vehicle is torn down by a forced drop (07 R133). -/
def State.dropDuplicates (s : State) (b : BayId) (vehicle : Word) : State :=
  (allBays.filter fun a => a ≠ b && (s.bay a).ctl.vehicle = some vehicle).foldl
    (fun t a => (t.bump a .duplicateTeardowns).dropLink a .duplicate) s

/-- PASS-DOWN frames of a vehicle that another one replaces flushed (07 R131, 06 R126). -/
def State.flushForeign (s : State) (b : BayId) (vehicle : Word) : State :=
  match (s.bay b).ctl.vehicle with
  | none => s
  | some v =>
    if v = vehicle then s
    else
      (s.modPort b fun x => { x with passDown := [] }).bumpBy b .passDownFlushed
        (s.bay b).port.passDown.length

/-- A HELLO processed in INTAKE (07 R131). -/
def State.processHello (s : State) (b : BayId) (h : HelloFrame) : State :=
  let s1 := (s.dropDuplicates b h.vehicle).flushForeign b h.vehicle
  let count := clampTo 1 4 h.channels.toNat
  let credits := clampTo 1 16 h.credits.toNat
  let s2 := s1.modBay b fun x =>
    { x with ctl := { x.ctl.identify h with channelCount := some count, credits := some credits },
             channels := freshChannels count credits }
  (s2.requestInventory b false).bump b .hellosProcessed

/-- A bay enters INTAKE (07 R130). -/
def State.enterIntake (s : State) (b : BayId) : State :=
  let s1 := (s.enter b .intake .qualified).modCtl b fun c =>
    { c with intakeTimer := match c.intakeTimer with
        | none => some (s.startTimer Config.intakeTime)
        | some t => some t }
  let s2 := match (s.bay b).ctl.pendingHello with
    | none => s1
    | some h => (s1.modCtl b fun c => { c with pendingHello := none }).processHello b h
  if (s2.bay b).ctl.vehicle.isSome then s2.requestInventory b false else s2

/-- The controller takes "qualified" (07 R129). -/
def State.takeQualified (s : State) (b : BayId) : State :=
  match (s.bay b).ctl.state with
  | .qualifying => s.enterIntake b
  | .holding => s.leaveHolding b
  | .vacant | .training | .intake | .serving | .departing => s

/-- The controller takes "qualification lost" (07 R129). -/
def State.takeQualificationLost (s : State) (b : BayId) : State :=
  match (s.bay b).ctl.state with
  | .intake => s.enter b .qualifying .qualificationLost
  | .serving | .departing => s.enterHolding b
  | .vacant | .training | .qualifying | .holding => s

/-- The controller takes "training begun" (07 R129). -/
def State.takeTrainingBegun (s : State) (b : BayId) : State :=
  match (s.bay b).ctl.state with
  | .vacant => s.enter b .training .trainingBegun
  | .training | .qualifying | .intake | .serving | .holding | .departing => s

/-- The controller takes "training done at rate r" (07 R129). -/
def State.takeTrainingDone (s : State) (b : BayId) (r : RateCode) : State :=
  match (s.bay b).ctl.state with
  | .training => s.enter b .qualifying (.trainingDone r)
  | .vacant | .qualifying | .intake | .serving | .holding | .departing => s

/-! ## Vehicle states (07 R135) -/

/-- A vehicle state reported by HEARTBEAT or by a repeated HELLO: it is stored, it moves the bay
between SERVING and DEPARTING, and PARKED makes the activation controller look (07 R135). -/
def State.reportVehicle (s : State) (b : BayId) (v : VehicleState) : State :=
  let s1 := s.modCtl b fun c => { c with vehicleState := some v }
  let s2 := match (s.bay b).ctl.state with
    | .serving =>
      if v = .departing then s1.enterDeparting b (.vehicleReported v) else s1
    | .departing =>
      if v = .departing then s1 else s1.resumeServing b (.vehicleReported v)
    | .vacant | .training | .qualifying | .intake | .holding => s1
  if v = .parked then s2.look b else s2

/-- A bay state in which a HEARTBEAT is taken when the bay holds a vehicle (07 R135). -/
def BayState.takesHeartbeats : BayState → Bool
  | .intake | .qualifying | .serving | .holding | .departing => true
  | .vacant | .training => false

/-- A HEARTBEAT handed to the controller (07 R135). -/
def State.takeHeartbeat (s : State) (b : BayId) (code : Byte) : State :=
  let c := (s.bay b).ctl
  match readVehicleState code with
  | none => s.bump b .heartbeatsDiscarded
  | some v =>
    if c.vehicle.isSome && c.state.takesHeartbeats then s.reportVehicle b v
    else s.bump b .heartbeatsDiscarded

/-- A HELLO from the vehicle that a served bay holds (07 R132). -/
def State.repeatHello (s : State) (b : BayId) (h : HelloFrame) (v : VehicleState) : State :=
  ((s.modCtl b fun c => c.identify h).bump b .hellosRepeated).reportVehicle b v

/-- A HELLO handed to the controller (07 R131, R132). -/
def State.takeHello (s : State) (b : BayId) (h : HelloFrame) : State :=
  let c := (s.bay b).ctl
  match readVehicleState h.vehicleState with
  | none => s.bump b .hellosDiscarded
  | some v =>
    if h.vehicle = 0 then s.bump b .hellosDiscarded
    else match c.state with
      | .qualifying => s.modCtl b fun c => { c with pendingHello := some h }
      | .intake => s.processHello b h
      | .serving | .holding | .departing =>
        if c.vehicle = some h.vehicle then s.repeatHello b h v else s.bump b .hellosDiscarded
      | .vacant | .training => s

end Sys2Proof.Machine
end

