-- ==== Sys2Proof/Machine/Inventory.lean ====
section
/-! DEFINITION. The version table's taking of INVENTORY frames: admission, intake, refresh and the
INVENTORY TAKEN notice (01 R12 to R16, R24, 07 R134). -/

namespace Sys2Proof.Machine

/-- What admission has gathered so far: the admitted entries, newest first, the number ignored, and
whether the frame was truncated (01 R12). -/
structure Admission where
  items : List (UnitAddr × InventoryItem)
  ignored : Nat
  truncated : Bool
deriving DecidableEq, Repr

/-- One entry admitted or ignored (01 R12). -/
def Admission.take (a : Admission) (x : InventoryItem) : Admission :=
  match idx 64 x.unit.toNat with
  | none => { a with ignored := a.ignored + 1 }
  | some u =>
    if a.items.any (·.1 = u) then { a with ignored := a.ignored + 1 }
    else if a.items.length < Config.inventoryRecords then { a with items := (u, x) :: a.items }
    else { a with ignored := a.ignored + 1, truncated := true }

/-- The entries of a frame admitted in frame order (01 R12). -/
def admitItems (items : List InventoryItem) : Admission :=
  items.foldl Admission.take { items := [], ignored := 0, truncated := false }

/-- The frame's unit list: the admitted entries in ascending address order (01 R12). -/
def Admission.unitList (a : Admission) : List (UnitAddr × InventoryItem) :=
  (List.finRange 64).filterMap fun u => a.items.find? (·.1 = u)

/-- The standby version an entry shows (01 R12). -/
def itemStandby (x : InventoryItem) : Option Version :=
  if x.standbyPresent then some x.standby else none

/-- A new record made from an entry; its disposition is provisional (01 R13, R14). -/
def newRecord (ux : UnitAddr × InventoryItem) : UnitRecord :=
  { unit := ux.1, cls := ux.2.cls, revision := ux.2.revision, running := ux.2.running,
    standby := itemStandby ux.2, disposition := .unmanaged, blocked := false, job := none }

/-- An entry and a record show the same class and revision (01 R14). -/
def sameKey (x : InventoryItem) (r : UnitRecord) : Bool :=
  decide (x.cls = r.cls ∧ x.revision = r.revision)

/-- The record of an address after a refresh: kept with the frame's versions when it is known with
the same key (R15), and new otherwise (R14). -/
def refreshed (old : List UnitRecord) (ux : UnitAddr × InventoryItem) : UnitRecord :=
  match old.find? (·.unit = ux.1) with
  | none => newRecord ux
  | some r =>
    if sameKey ux.2 r then { r with running := ux.2.running, standby := itemStandby ux.2 }
    else newRecord ux

/-- A record vanishes in a refresh, or changes key (01 R14, cases 1 and 2). -/
def vanishes (list : List (UnitAddr × InventoryItem)) (r : UnitRecord) : Bool :=
  match list.find? (·.1 = r.unit) with
  | none => true
  | some ux => !sameKey ux.2 r

/-- The activation record of a controller whose ACTIVATE has been sent is for a unit. -/
def Activation.concerns (a : Activation) (u : UnitAddr) : Bool :=
  match a with
  | .idle => false
  | .selected .. => false
  | .activating t _ _ => decide (t.unit = u)
  | .reverting t _ _ => decide (t.unit = u)

/-- The member of a vanished record leaves the work: it becomes CANCELLED, and an activation of the
unit ends without outcome (01 R14, 05 R104). -/
def State.cancelVanished (s : State) (b : BayId) (r : UnitRecord) : State :=
  match r.job with
  | none => s
  | some p =>
    let s1 := if (s.bay b).activation.concerns r.unit then s.abandonActivation b else s
    s1.setMember b p r.unit .cancelled

/-- The number of records in a disposition. -/
def countDisposition (l : List UnitRecord) (d : Disposition) : Nat :=
  (l.filter (·.disposition = d)).length

/-- INVENTORY TAKEN posted (01 R24). -/
def State.postInventoryTaken (s : State) (b : BayId) (refresh : Bool) : State :=
  let x := s.bay b
  let l := x.inventory
  s.post (.inventoryTaken b x.ctl.vehicle refresh l.length x.truncated
    (countDisposition l .blocked) (countDisposition l .unmanaged) (countDisposition l .current)
    (countDisposition l .held) (countDisposition l .stageReady) (countDisposition l .needsImage))

/-- The first service-time estimate at a trained rate, in µs (04 R80). -/
def rateServiceTime (r : RateCode) : Nat :=
  match r with
  | 0 => 900
  | 1 => 360
  | 2 => 180
  | 3 => 90

/-- The service-time estimate set from the trained rate; it keeps its value when the port has none
(04 R80). -/
def State.setServiceTime (s : State) (b : BayId) : State :=
  match (s.bay b).port.trainedRate with
  | none => s
  | some r => s.modDeadline b fun d => { d with serviceTime := rateServiceTime r }

/-- Intake completes (07 R134, 01 R13). A vehicle that has announced its departure makes the bay enter
DEPARTING after INVENTORY TAKEN has been posted; the rule leaves their order open (log 8). -/
def State.completeIntake (s : State) (b : BayId) (items : List InventoryItem) : State :=
  let a := admitItems items
  let s1 := (s.modBay b fun x =>
    { x with inventory := a.unitList.map newRecord, truncated := a.truncated,
             ctl := { x.ctl with intakeTimer := none } }).bumpBy b .inventoryEntriesDiscarded a.ignored
  let s2 := ((s1.enter b .serving .intakeComplete).setServiceTime b).clearDeferred b
  let s3 := ((s2.bump b .intakesCompleted).build b).postInventoryTaken b false
  if (s.bay b).ctl.vehicleState = some .departing
  then s3.enterDeparting b (.vehicleReported .departing) else s3

/-- A refresh (01 R14, R15): every address is handled, then the jobs it leaves without work end,
then replacements are applied and the builder runs, then INVENTORY TAKEN is posted (log 8). -/
def State.refresh (s : State) (b : BayId) (items : List InventoryItem) : State :=
  let a := admitItems items
  let old := (s.bay b).inventory
  let s1 := (old.filter (vanishes a.unitList)).foldl (fun t r => t.cancelVanished b r) s
  let s2 := (s1.modBay b fun x =>
    { x with inventory := a.unitList.map (refreshed old), truncated := a.truncated }).bumpBy b
      .inventoryEntriesDiscarded a.ignored
  let s3 := ((s2.closeOutAll b).clearDeferred b).afterEnd b
  s3.postInventoryTaken b true

/-- An INVENTORY handed over (01 R16, 07 R134). -/
def State.takeInventory (s : State) (b : BayId) (items : List InventoryItem) : State :=
  let c := (s.bay b).ctl
  match c.state with
  | .intake =>
    if c.vehicle.isSome then s.completeIntake b items else s.bump b .inventoryFramesDiscarded
  | .serving => s.refresh b items
  | .vacant | .training | .qualifying | .holding | .departing => s.bump b .inventoryFramesDiscarded

end Sys2Proof.Machine
end

