-- ==== Sys2Proof/Machine/Port.lean ====
section
/-! DEFINITION. The bay port: training, the taking of valid frames and of frame errors, the
qualifier, and the heartbeat watchdog (06 R110 to R121). -/

namespace Sys2Proof.Machine

/-! ## Qualification (06 R117, R118, R120) -/

/-- The port becomes qualified, and the controller takes "qualified" (06 R117). -/
def State.qualify (s : State) (b : BayId) : State :=
  ((s.modPort b fun x => { x with qualified := true }).bump b .qualificationsGained).takeQualified b

/-- The qualifier judges a valid frame: the count rises up to the threshold, and reaching it
qualifies a port that is not qualified (06 R117). Under a threshold of 0 the count stands at the
threshold already and stays 0, and a count above a lowered threshold stays as it is; what they then
read the rule leaves open (log 34). -/
def State.judgeQualifier (s : State) (b : BayId) : State :=
  let s1 := s.modPort b fun x =>
    { x with qualCount := if x.qualCount < s.config.threshold then x.qualCount + 1
                          else x.qualCount }
  let x := (s1.bay b).port
  if s.config.threshold ≤ x.qualCount ∧ x.qualified = false then s1.qualify b else s1

/-- The port loses its qualification, by an error under RELATCH or by the watchdog, and the
controller takes "qualification lost"; a port that is not qualified only has its count cleared
(06 R118, R120). -/
def State.losePort (s : State) (b : BayId) (why : BayCounter) : State :=
  let s1 := s.modPort b fun x => { x with qualCount := 0 }
  if (s.bay b).port.qualified then
    (((s1.modPort b fun x => { x with qualified := false }).bump b why).bump b
      .qualificationsLost).takeQualificationLost b
  else s1

/-! ## Receiving (06 R114 to R116) -/

/-- A valid frame other than CAPS: in TRAINED the port takes it and hands it on, in PROBING and
SWITCHING it only restarts the watchdog, and in DOWN and FORCED it is not judged (06 R114, R116). -/
def State.receive (s : State) (b : BayId) (take : State → State) : State :=
  match (s.bay b).port.phase with
  | .trained =>
    let s1 := s.modPort b fun x => { x with watchdog := 0 }
    take ((s1.judgeQualifier b).bump b .validFrames)
  | .probing | .switching =>
    (s.modPort b fun x => { x with watchdog := 0 }).bump b .framesDiscardedInTraining
  | .down | .forced => s

/-- A frame error: counted, and in TRAINED under RELATCH it clears the qualifier (06 R115,
R118). -/
def State.frameError (s : State) (b : BayId) (sort : BayCounter) : State :=
  match (s.bay b).port.phase with
  | .trained =>
    match s.config.errorMode with
    | .discard => s.bump b sort
    | .relatch => (s.bump b sort).losePort b .relatches
  | .probing | .switching => s.bump b sort
  | .down | .forced => s

/-- A valid frame of a kind that carries a list or a body: outside the kind's bounds it is a length
error (06 R115, test 3). -/
def State.receiveIf (s : State) (b : BayId) (fits : Bool) (take : State → State) : State :=
  if fits then s.receive b take else s.frameError b .lengthErrors

/-- A frame received whole that fails a test of 06 R115, counted as the error that its first failing
test makes it. Bytes that pass all three are another command's (log 6). -/
def State.badFrame (s : State) (b : BayId) (bytes : List Byte) : State :=
  match judgeBayFrame bytes with
  | .checkError => s.frameError b .frameCheckErrors
  | .unknownKind => s.frameError b .unknownKindErrors
  | .lengthError => s.frameError b .lengthErrors
  | .valid _ => s

/-! ## Training (06 R110 to R113) -/

/-- The port enters PROBING with its line rate 0, and a CAPS is placed (06 R110, R112). The switch
attempts given are 0 from DOWN and FORCED and kept from SWITCHING. -/
def Port.probe (x : Port) (attempts : Nat) : Port :=
  { x with phase := .probing, lineRate := 0, switchAttempts := attempts, qualified := false,
           qualCount := 0, watchdog := 0, linkFrame := some .caps, capsAge := none,
           switchTimer := none, fallbackTimer := none, forcedTimer := none }

/-- A port that has signal starts training (06 R110). -/
def State.startProbing (s : State) (b : BayId) : State :=
  (s.modPort b fun x => x.probe 0).takeTrainingBegun b

/-- Signal is detected on the link (06 R110). In FORCED only the level is noted. -/
def State.signalDetected (s : State) (b : BayId) : State :=
  let s1 := s.modPort b fun x => { x with signal := true }
  match (s.bay b).port.phase with
  | .down => s1.startProbing b
  | .forced | .probing | .switching | .trained => s1

/-- The 100 ms of FORCED have passed (06 R110). -/
def State.forcedOver (s : State) (b : BayId) : State :=
  let x := (s.bay b).port
  if x.phase = .forced ∧ x.forcedTimer.isSome then
    if x.signal then s.startProbing b
    else s.modPort b fun y => { y with phase := .down, forcedTimer := none }
  else s

/-- The counter of trainings completed at a rate (06 R113). -/
def trainingCounter (r : RateCode) : BayCounter :=
  match r with
  | 0 => .trainings10
  | 1 => .trainings25
  | 2 => .trainings50
  | 3 => .trainings100

/-- Training ends at a rate (06 R113). With a threshold of 0 the port is qualified at once. -/
def State.trained (s : State) (b : BayId) (r : RateCode) : State :=
  let s1 := s.modPort b fun x =>
    { x with phase := .trained, trainedRate := some r, lineRate := r, qualified := false,
             qualCount := 0, watchdog := 0, linkFrame := none, capsAge := none,
             switchTimer := none, fallbackTimer := none }
  let s2 := (s1.bump b (trainingCounter r)).takeTrainingDone b r
  if s.config.threshold = 0 then s2.qualify b else s2

/-- The agent maximum of a CAPS: a value above 3 is taken as 3 (06 R111). -/
def agentMaximum (code : Byte) : RateCode := ((idx 4 code.toNat).getD 3)

/-- The agent's CAPS judged in PROBING (06 R111): the chosen rate is the smaller of the two maxima,
and training ends at 10 Mb/s when it is 0 or when two attempts have been made. -/
def State.capsInProbing (s : State) (b : BayId) (code : Byte) : State :=
  let m := agentMaximum code
  let chosen := min m (s.bay b).maxRate
  let s1 := s.modPort b fun x => { x with agentMax := some m, watchdog := 0, capsAge := none }
  if chosen = 0 ∨ 2 ≤ (s.bay b).port.switchAttempts then s1.trained b 0
  else s1.modPort b fun x => { x with linkFrame := some (.retrain chosen) }

/-- The agent's CAPS (06 R111, R112, R113). After the expiry of the switch timer the port is back at
10 Mb/s, and a CAPS at the new rate is no frame to it. -/
def State.takeCaps (s : State) (b : BayId) (code : Byte) : State :=
  match (s.bay b).port.phase with
  | .probing => s.capsInProbing b code
  | .switching =>
    match (s.bay b).port.switchTimer with
    | none => s
    | some _ =>
      (s.modPort b fun x => { x with agentMax := some (agentMaximum code) }).trained b
        (s.bay b).port.lineRate
  | .trained => s.receive b fun t => t.bump b .capsOutsideTraining
  | .down | .forced => s

/-- A heartbeat period has passed since the last CAPS, without an answer: another is placed
(06 R111). -/
def State.resendCaps (s : State) (b : BayId) : State :=
  let x := (s.bay b).port
  if x.phase = .probing ∧ x.capsAge.isSome then
    s.modPort b fun y => { y with linkFrame := some .caps, capsAge := none }
  else s

/-- The switch timer expires: a switch failure, and the wait for signal at 10 Mb/s begins
(06 R112). -/
def State.switchFailed (s : State) (b : BayId) : State :=
  let x := (s.bay b).port
  if x.phase = .switching ∧ x.switchTimer.isSome then
    (s.modPort b fun y =>
      { y with lineRate := 0, linkFrame := none, switchTimer := none,
               fallbackTimer := some (s.startTimer Config.switchTime) }).bump b .switchFailures
  else s

/-- No signal at 10 Mb/s within the wait: the link drops with cause "signal lost" (06 R112). -/
def State.fallbackFailed (s : State) (b : BayId) : State :=
  let x := (s.bay b).port
  if x.phase = .switching ∧ x.fallbackTimer.isSome then
    (s.modPort b fun y => { y with signal := false }).dropLink b .signalLost
  else s

/-- Signal at the new rate: one CAPS is placed (06 R112). That signal found there once more in the same
switch, after a loss, places another is the model's choice (log 11). -/
def State.signalNew (s : State) (b : BayId) : State :=
  let x := (s.bay b).port
  if x.phase = .switching ∧ x.switchTimer.isSome then
    s.modPort b fun y => { y with signal := true, linkFrame := some .caps }
  else s

/-- Signal at 10 Mb/s within the wait: PROBING again, with the attempts kept (06 R112). -/
def State.signalFallback (s : State) (b : BayId) : State :=
  let x := (s.bay b).port
  if x.phase = .switching ∧ x.fallbackTimer.isSome then
    s.modPort b fun y => { (y.probe y.switchAttempts) with signal := true }
  else s

/-- Signal detect is lost: a drop in PROBING and TRAINED, expected in SWITCHING (06 R110, R122). -/
def State.signalGone (s : State) (b : BayId) : State :=
  let s1 := s.modPort b fun x => { x with signal := false }
  match (s.bay b).port.phase with
  | .probing | .trained => s1.dropLink b .signalLost
  | .down | .forced | .switching => s1

/-! ## The watchdog (06 R119 to R121) -/

/-- Two heartbeat periods without a valid frame (06 R120). -/
def State.watchdogTwo (s : State) (b : BayId) : State :=
  match (s.bay b).port.phase with
  | .trained => s.losePort b .watchdogLosses
  | .down | .forced | .probing | .switching => s

/-- Eight heartbeat periods without a valid frame (06 R121). -/
def State.watchdogEight (s : State) (b : BayId) : State :=
  match (s.bay b).port.phase with
  | .probing | .trained => s.dropLink b .watchdog
  | .down | .forced | .switching => s

/-! ## The intake and holding timers (07 R130, R136) -/

/-- The intake timer expires: a forced drop (07 R130). It runs through QUALIFYING. -/
def State.intakeExpired (s : State) (b : BayId) : State :=
  if (s.bay b).ctl.intakeTimer.isSome then
    (s.bump b .intakeTimeouts).dropLink b .intakeTimeout
  else s

/-- The holding timer expires: a forced drop (07 R136). -/
def State.holdingExpired (s : State) (b : BayId) : State :=
  if (s.bay b).ctl.holdingTimer.isSome then
    (s.bump b .holdingExpiries).dropLink b .holdingExpired
  else s

/-! ## Pass-through (08 R160, R161, 06 R126) -/

/-- A PASS-UP handed over: wrapped and queued, or dropped when sixteen wait (08 R161). -/
def State.takePassUp (s : State) (b : BayId) (body : List Byte) : State :=
  if s.uplink.passUps.length < Config.passUpFrames then
    { s with uplink := { s.uplink with
        passUps := s.uplink.passUps ++ [⟨b, (s.bay b).ctl.vehicle, body⟩] } }
  else s.bump b .passUpDropped

/-- A bay state in which PASS-DOWN frames are queued (06 R126). -/
def BayState.takesPassDown : BayState → Bool
  | .intake | .serving | .holding | .departing => true
  | .vacant | .training | .qualifying => false

/-- A PASS-DOWN body given to a bay's port: queued, or dropped (06 R126). -/
def State.queuePassDown (s : State) (b : BayId) (body : List Byte) : State :=
  let x := s.bay b
  if x.ctl.state.takesPassDown = true ∧ x.port.passDown.length < Config.passDownFrames then
    s.modPort b fun y => { y with passDown := y.passDown ++ [body] }
  else s.bump b .passDownDropped

end Sys2Proof.Machine
end

