-- ==== Sys2Proof/Machine/Transfer.lean ====
section
/-! DEFINITION. The transfer of blocks: a BLOCK's arrival (02 R30 to R35), its taking by jobs
(03 R63), receipts, timeouts and probes (03 R65, R66, 04 R81 to R83), and the opening and closing of
channels (03 R56, R57, R67, R68). -/

namespace Sys2Proof.Machine

/-! ## BLOCK arrival (02 R30 to R35) -/

/-- A BLOCK carries the payload length its sequence asks for (02 R32). -/
def Stream.payloadFits (x : Stream) (sequence len : Nat) : Bool :=
  if sequence + 1 = x.length then decide (len = x.lastLength) else decide (len = Config.blockBytes)

/-- The credit that a dropped frame spends when its stream holds one, after which the arbiter
evaluates (02 R31, R32). -/
def State.spendDropped (s : State) (st : StreamId) : State :=
  if 0 < (s.stream st).held then
    (s.modStream st fun x => { x with accepted := x.accepted + 1 }).arbitrate
  else s

/-- The carousel position after a sequence (02 R31, R34). -/
def State.advance (s : State) (st : StreamId) (sequence : Nat) : State :=
  s.modStream st fun x =>
    if sequence < x.length then { x with position := (sequence + 1) % x.length } else x

/-- The offset at which a bay's job takes a block, when it does (03 R63). -/
def Bay.takes (x : Bay) (st : StreamId) (sequence : Nat) : Option (Place × ChannelId × Nat) :=
  if x.ctl.state = .serving ∧ x.txQueue.length < Config.txEntries then
    match x.jobList.find? fun pj => pj.2.stream = st && pj.2.state = .receiving with
    | none => none
    | some (p, j) =>
      let d := j.offsetOf sequence
      match j.channel with
      | none => none
      | some c =>
        if j.cursor ≤ d then some (p, c, d)
        else if inGaps j.gaps d && !(x.heldOffsets p j).contains d then some (p, c, d)
        else none
  else none

/-- A bay takes a block in a slot: offsets passed over become a gap, the cursor moves past the
block's offset, and the entry goes to the queue's tail (03 R63). -/
def State.takeBlock (s : State) (b : BayId) (sl : SlotId) (p : Place) (c : ChannelId) (d : Nat) :
    State :=
  match s.job b p with
  | none => s
  | some j =>
    let r := if j.cursor < d then addRange j.gaps ⟨j.cursor, d - 1⟩ else (j.gaps, false)
    let s1 := (s.modJob b p fun k =>
      { k with gaps := r.1, cursor := max k.cursor (d + 1) }).bumpIf r.2 b .gapJoins
    s1.modBay b fun x => { x with txQueue := x.txQueue ++ [⟨sl, p, c, d⟩] }

/-- The bays that take a block, with the place, channel and offset each takes it at (02 R35). -/
def State.takers (s : State) (st : StreamId) (sequence : Nat) :
    List (BayId × Place × ChannelId × Nat) :=
  allBays.filterMap fun b => ((s.bay b).takes st sequence).map fun t => (b, t)

/-- The lowest free slot of the pool (log 18). -/
def State.freeSlot (s : State) : Option SlotId := s.pool.find Option.isNone

/-- A block placed in a slot for the bays that take it (02 R35, R36). -/
def State.placeBlock (s : State) (sl : SlotId) (st : StreamId) (f : BlockFrame)
    (takers : List (BayId × Place × ChannelId × Nat)) : State :=
  let slot : Slot :=
    { stream := st, sequence := f.sequence.toNat, payload := f.payload,
      delivery := takers.map (·.1), arrival := s.clock.ticks }
  takers.foldl (fun t k => t.takeBlock k.1 sl k.2.1 k.2.2.1 k.2.2.2)
    { s with pool := s.pool.set sl (some slot) }

/-- What follows an accepted block's offer: the arbiter evaluates, the stream is judged, and its
status becomes due when the resume point differs from the carousel position (02 R34, R40, R45). -/
def State.afterOffer (s : State) (st : StreamId) : State :=
  let s1 := s.arbitrate.judge st
  let x := s1.stream st
  if x.resume ≠ x.position then s1.makeDue st else s1

/-- An accepted block spends its credit and moves the carousel (02 R34). -/
def State.acceptBlock (s : State) (st : StreamId) (sequence : Nat) : State :=
  ((s.modStream st fun x => { x with accepted := x.accepted + 1 }).advance st sequence).countStream st
    .accepted

/-- An accepted block offered to the stream's jobs (02 R35): passed unused, or placed in a slot. A
pool without a free slot is ruled out by R40 (log 19). -/
def State.offerBlock (s : State) (st : StreamId) (f : BlockFrame) : Result :=
  let takers := s.takers st f.sequence.toNat
  if takers.isEmpty then .next ((s.countStream st .passedUnused).afterOffer st)
  else match s.freeSlot with
    | none => .fault .poolExhausted
    | some sl => .next ((s.placeBlock sl st f takers).afterOffer st)

/-- A BLOCK judged against the entry of its stream (02 R30 to R34). -/
def State.judgeBlock (s : State) (st : StreamId) (f : BlockFrame) : Result :=
  let x := s.stream st
  let n := f.sequence.toNat
  if !x.isOpen then .next (s.countStream st .droppedClosed)
  else if crc32 f.payload ≠ f.crc then
    .next (((s.countStream st .droppedCrc).advance st n).spendDropped st)
  else if x.length ≤ n ∨ x.payloadFits n f.payload.length = false then
    .next ((s.countStream st .droppedCrc).spendDropped st)
  else if x.held = 0 then .next (s.countStream st .droppedUncredited)
  else (s.acceptBlock st n).offerBlock st f

/-- A valid BLOCK handed to the stream table (02 R30, 08 R146). -/
def State.arriveBlock (s : State) (f : BlockFrame) : Result :=
  match idx 16 f.stream.toNat with
  | none => .next (s.count .blocksForNoStream)
  | some st => s.judgeBlock st f

/-! ## Probes (04 R81 to R83) -/

/-- T after a sample x: T + floor((x − T) / 8) (04 R83). -/
def updatedServiceTime (serviceTime sample : Nat) : Nat :=
  ((serviceTime : Int) + Int.fdiv ((sample : Int) - serviceTime) 8).toNat

/-- A probe resolved by a sample (04 R82, R83). -/
def State.sampleProbe (s : State) (b : BayId) (sample : Nat) (c : BayCounter) : State :=
  (s.modDeadline b fun d =>
    { d with probe := none, serviceTime := updatedServiceTime d.serviceTime sample }).bump b c

/-- The sample of a receipt: the round trip shared among the blocks in flight, within 1 to 65535
(04 R82). -/
def receiptSample (roundTrip n : Nat) : Nat := clampTo 1 65535 (roundTrip / n)

/-- The probe of a bay is the entry of a channel and a sequence. -/
def Bay.probeAt (x : Bay) (c : ChannelId) (sequence : Nat) : Option Probe :=
  match x.deadline.probe with
  | none => none
  | some p => if p.channel = c ∧ p.sequence = sequence then some p else none

/-- A receipt resolves the probe it confirms (04 R82). -/
def State.probeReceived (s : State) (b : BayId) (c : ChannelId) (sequence : Nat) : State :=
  match (s.bay b).probeAt c sequence with
  | none => s
  | some p => s.sampleProbe b (receiptSample (s.clock.usec - p.sent).toNat p.n) .probeSamples

/-- A receipt timeout resolves the probe it takes (04 R82). -/
def State.probeTimedOut (s : State) (b : BayId) (c : ChannelId) (sequence : Nat) : State :=
  match (s.bay b).probeAt c sequence with
  | none => s
  | some _ => s.sampleProbe b 65535 .probeTimeouts

/-- A block just sent becomes the bay's probe when the bay has none (04 R81). -/
def State.startProbe (s : State) (b : BayId) (c : ChannelId) (sequence : Nat) : State :=
  match (s.bay b).deadline.probe with
  | some _ => s
  | none =>
    let n := ((s.bay b).channels.map fun ch => ch.inFlight.length).sum
    s.modDeadline b fun d => { d with probe := some ⟨c, sequence, s.clock.usec, n⟩ }

/-! ## Receipts and receipt timeouts (03 R65, R66) -/

/-- A channel of a bay with the job that holds it. -/
def State.held? (s : State) (b : BayId) (c : ChannelId) : Option (Place × Job × Channel) :=
  match s.channel b c with
  | none => none
  | some ch => match ch.job with
    | none => none
    | some p => (s.job b p).map fun j => (p, j, ch)

/-- A channel named by a frame, held by a job, and carrying the frame's tag (03 R56, R66, R67). -/
def State.answered (s : State) (b : BayId) (channel tag : Byte) :
    Option (ChannelId × Place × Job) :=
  match idx 4 channel.toNat with
  | none => none
  | some c => match s.held? b c with
    | none => none
    | some (p, j, ch) => if ch.tag = tag then some (c, p, j) else none

/-- An offset removed from the range that holds it; a declined split is counted (03 R61). -/
def State.removeOffset (s : State) (b : BayId) (p : Place) (d : Nat) : State :=
  match s.job b p with
  | none => s
  | some j =>
    let r := Machine.removeOffset j.gaps d
    (s.modJob b p fun k => { k with gaps := r.1 }).bumpIf r.2 b .declinedSplits

/-- The first in-flight entry for a sequence leaves a list. -/
def removeFlight (sequence : Nat) : List Flight → List Flight
  | [] => []
  | f :: t => if f.sequence = sequence then t else f :: removeFlight sequence t

/-- One sequence of an applying RECEIPT judged (03 R66). -/
def State.applyReceipt (s : State) (b : BayId) (c : ChannelId) (p : Place) (sequence : Nat) :
    State :=
  match s.job b p, s.channel b c with
  | some j, some ch =>
    let d := j.offsetOf sequence
    if ch.inFlight.any (·.sequence = sequence) then
      let s1 := s.modChannel b c fun y =>
        { y with inFlight := removeFlight sequence y.inFlight, credit := y.credit + 1 }
      ((s1.probeReceived b c sequence).removeOffset b p d).bump b .receiptsApplied
    else if sequence < j.identity.length ∧ inGaps j.gaps d = true then
      (s.removeOffset b p d).bump b .receiptsApplied
    else s.bump b .duplicateReceipts
  | _, _ => s

/-- A RECEIPT (03 R66): after the frame the job is judged for completion, and its stream is judged
when the frame has changed a gap range or taken the job out of RECEIVING (02 R41). -/
def State.takeReceipt (s : State) (b : BayId) (f : ReceiptFrame) : State :=
  match s.answered b f.channel f.tag with
  | none => s.bump b .receiptsForNoJob
  | some (c, p, j) =>
    let s1 := f.sequences.foldl (fun t q => t.applyReceipt b c p q.toNat) s
    (s1.checkCompletion b p).judgeMoved s [b] j.stream

/-- The oldest in-flight entry of a channel times out (03 R65). The stream is judged when the offset's
return has changed a gap range (02 R41). -/
def State.flightTimedOut (s : State) (b : BayId) (c : ChannelId) : State :=
  match s.held? b c with
  | none => s
  | some (p, j, ch) => match ch.inFlight with
    | [] => s
    | f :: rest =>
      let s1 := s.modChannel b c fun y => { y with inFlight := rest, credit := y.credit + 1 }
      let s2 := (s1.probeTimedOut b c f.sequence).makeNeeded b p (j.offsetOf f.sequence)
      (s2.bump b .receiptTimeouts).judgeMoved s [b] j.stream

/-- The oldest in-flight entry of a channel has reached the receipt timeout: that many millisecond
ticks have followed its sending (03 R65, 04 R76, log 16). -/
def State.flightDue (s : State) (b : BayId) (c : ChannelId) : Bool :=
  match s.channel b c with
  | none => false
  | some ch => match ch.inFlight with
    | [] => false
    | f :: _ => decide (s.config.receiptTimeout ≤ s.clock.ticks - f.tick)

/-- The due entries of a channel timed out, the oldest first, with fuel. -/
def State.flightsDue : Nat → State → BayId → ChannelId → State
  | 0, s, _, _ => s
  | n + 1, s, b, c =>
    if s.flightDue b c then State.flightsDue n (s.flightTimedOut b c) b c else s

/-- Every due in-flight entry of every bay timed out. A list holds at most sixteen entries
(03 R64). At one tick, and at one write of the receipt timeout, the bays go in ascending number and the
channels of each in ascending number: 03 R65 leaves their order open, and this one is the model's
(logs 1 and 16). -/
def State.receiptTimeouts (s : State) : State :=
  s.forBays fun b t => allChannels.foldl (fun u c => State.flightsDue 16 u b c) t

/-! ## Opening (03 R56, R57) -/

/-- An open that failed or was refused: the channel is freed, the job is QUEUED and deferred, and the
channel goes to another job if one waits (03 R56, R57). -/
def State.openGivenUp (s : State) (b : BayId) (c : ChannelId) (p : Place) : State :=
  ((s.freeChannel b c p).modJob b p fun j => { j with state := .queued, deferred := true }).assign b

/-- An accepted open: the job is RECEIVING, or CLOSING when it has nothing left to receive
(03 R56). -/
def State.openAccepted (s : State) (b : BayId) (c : ChannelId) (p : Place) (j : Job) : State :=
  let s1 := (s.modChannel b c fun y => { y with openTimer := none, openExpired := false }).removeControl
    b (ControlFrame.opens c)
  ((s1.modJob b p fun k => { k with state := .receiving }).checkCompletion b p).judge j.stream

/-- An OPEN ACK (03 R56). -/
def State.takeOpenAck (s : State) (b : BayId) (f : OpenAckFrame) : State :=
  match s.answered b f.channel f.tag with
  | none => s.bump b .staleControlAnswers
  | some (c, p, j) =>
    if j.state = .opening then
      if f.refused then (s.bump b .opensRefused).openGivenUp b c p
      else s.openAccepted b c p j
    else s.bump b .staleControlAnswers

/-- The open timer of a channel expires, for the first time or for the second (03 R57). -/
def State.openExpiry (s : State) (b : BayId) (c : ChannelId) : State :=
  match s.held? b c with
  | none => s
  | some (p, j, ch) =>
    match ch.openTimer with
    | none => s
    | some _ =>
      if j.state ≠ .opening then s
      else if ch.openExpired then (s.bump b .openFailures).openGivenUp b c p
      else
        let s1 := s.modChannel b c fun y => { y with openTimer := none, openExpired := true }
        if (s.bay b).port.control.any (ControlFrame.opens c) then s1
        else s1.placeControl b
          (.channelOpen c j.tag j.identity (s.stream j.stream).lastLength j.start)

/-! ## Closing (03 R67, R68) -/

/-- A CLOSE RESULT shows a unit "written", at its first entry (03 R67). -/
def closeShowsWritten (f : CloseResultFrame) (u : UnitAddr) : Bool :=
  match f.items.find? fun i => i.unit.toNat = u.val with
  | none => false
  | some i => !i.failed

/-- A member becomes STAGE_FAILED: its standby is shown as absent and it is blocked (03 R67, R68,
01 R22). -/
def State.failMember (s : State) (b : BayId) (p : Place) (u : UnitAddr) : State :=
  (s.setMember b p u .stageFailed).modUnit b u fun r => { r with standby := none, blocked := true }

/-- A member becomes STAGED: its standby is the target (03 R67, 01 R22). -/
def State.stageMember (s : State) (b : BayId) (p : Place) (u : UnitAddr) (target : Version) :
    State :=
  (s.setMember b p u .staged).modUnit b u fun r => { r with standby := some target }

/-- What follows a close outcome: the job is judged, a freed channel is assigned, and the activation
controller looks (03 R51, R54, R67, 05 R92). That it looks last, so that a CHANNEL OPEN stands before
its ACTIVATE, is the model's order (log 32). -/
def State.afterClose (s : State) (b : BayId) (p : Place) : State :=
  let s1 := s.closeOut b p
  let ended := match s1.job b p with
    | none => false
    | some j => !j.live
  (if ended then s1.afterEnd b else s1.assign b).look b

/-- A close whose check value agrees (03 R67). -/
def State.closeGood (s : State) (b : BayId) (c : ChannelId) (p : Place) (j : Job)
    (f : CloseResultFrame) : State :=
  let s1 := j.pendingUnits.foldl
    (fun t u => if closeShowsWritten f u then t.stageMember b p u j.identity.target else t.failMember b p u) s
  let s2 := (s1.freeChannel b c p).modJob b p fun k => { k with state := .staged }
  s2.afterClose b p

/-- The units of a job's members in PENDING or STAGED, ascending (03 R68). -/
def Job.waitingUnits (j : Job) : List UnitAddr :=
  (List.finRange 64).filter fun u =>
    j.members.any fun m => m.unit = u && (m.state = .pending || m.state = .staged)

/-- A failed close (03 R68): a retry, or after the third attempt the failure of the job. The freed
channel is assigned once the retried job is QUEUED again, so that it competes for it by R54; the rule
leaves open whether a job that waited already comes first (log 32). -/
def State.closeFailed (s : State) (b : BayId) (c : ChannelId) (p : Place) (j : Job) : State :=
  if j.attempts < 3 then
    ((s.freeChannel b c p).modJob b p fun k =>
      { k with state := .queued, attempts := k.attempts + 1, cursor := 0, gaps := [],
               deferred := false }).afterClose b p
  else
    let s1 := s.modJob b p fun k => { k with checkFailed := true }
    let s2 := j.waitingUnits.foldl (fun t u => t.failMember b p u) s1
    ((s2.freeChannel b c p).modJob b p fun k => { k with state := .staged }).afterClose b p

/-- A CLOSE RESULT (03 R67, R68). -/
def State.takeCloseResult (s : State) (b : BayId) (f : CloseResultFrame) : State :=
  match s.answered b f.channel f.tag with
  | none => s.bump b .staleControlAnswers
  | some (c, p, j) =>
    if j.state = .closing then
      if f.check = j.identity.check then s.closeGood b c p j f
      else (s.bump b .checkMismatches).closeFailed b c p j
    else s.bump b .staleControlAnswers

/-- The close timer of a channel expires (03 R68). -/
def State.closeExpiry (s : State) (b : BayId) (c : ChannelId) : State :=
  match s.held? b c with
  | none => s
  | some (p, j, ch) =>
    match ch.closeTimer with
    | none => s
    | some _ =>
      if j.state = .closing then (s.bump b .closeTimeouts).closeFailed b c p j else s

end Sys2Proof.Machine
end

