-- ==== Sys2Proof/WellFormed.lean ====
section
/-! DEFINITION. Which commands carry a frame that their row's frame can be: the bounds that
10 R172 and R173 set to a valid frame's lists and bodies. A command outside them is a frame with a
length error, and exec counts it as one. -/

namespace Sys2Proof

/-- A BLOCK carries 1 to 1024 payload bytes (10 R172). -/
def BlockFrame.fits (f : BlockFrame) : Bool :=
  decide (1 ≤ f.payload.length ∧ f.payload.length ≤ Config.blockBytes)

/-- A PASS-DOWN or PASS-UP carries a body of 1 to 1024 bytes (10 R172, R173). -/
def bodyFits (body : List Byte) : Bool := decide (1 ≤ body.length ∧ body.length ≤ 1024)

/-- A RECEIPT carries 1 to 8 sequences (10 R173). -/
def ReceiptFrame.fits (f : ReceiptFrame) : Bool :=
  decide (1 ≤ f.sequences.length ∧ f.sequences.length ≤ 8)

/-- An INVENTORY carries 0 to 64 entries (10 R173). -/
def inventoryFits (items : List InventoryItem) : Bool := decide (items.length ≤ 64)

/-- A CLOSE RESULT carries 0 to 64 entries (10 R173). -/
def CloseResultFrame.fits (f : CloseResultFrame) : Bool := decide (f.items.length ≤ 64)

/-- No bay frame is longer than 1036 bytes (10, Bay Frame Protocol). -/
def bayBytesFit (bytes : List Byte) : Bool := decide (bytes.length ≤ 1036)

/-- The commands whose frame meets the bounds of its kind. -/
def Instr.wellFormed : Instr → Bool
  | .powerOnComplete _ => true
  | .resetPinAsserted => true
  | .resetPinReleased _ => true
  | .uplinkLinkUp => true
  | .uplinkLinkDown => true
  | .uplinkFrameRejected _ => true
  | .block f => f.fits
  | .requestArrival _ => true
  | .passDown f => bodyFits f.body
  | .setClock => true
  | .readStatus => true
  | .writeConfig => true
  | .readConfig => true
  | .openStream => true
  | .closeStream => true
  | .setLevel => true
  | .writeEntry => true
  | .readEntry => true
  | .withdrawEntry => true
  | .releaseEntry => true
  | .loadDeparture => true
  | .readBay => true
  | .readJob => true
  | .readInventory => true
  | .clearBlock => true
  | .readResume => true
  | .readCounters => true
  | .setNoticeMask => true
  | .resetBay => true
  | .resetBridge => true
  | .sendResponse => true
  | .sendNotice => true
  | .sendStreamStatus => true
  | .sendPassUp => true
  | .secondEvent => true
  | .holdLimitExpiry _ => true
  | .openTimerExpiry _ _ => true
  | .receiptTimeout _ _ => true
  | .closeTimerExpiry _ _ => true
  | .activationFirstExpiry _ => true
  | .activationSecondExpiry _ => true
  | .switchTimerExpiry _ => true
  | .switchFallbackExpiry _ => true
  | .forcedPeriodEnd _ => true
  | .capsResend _ => true
  | .watchdogTwoPeriods _ => true
  | .watchdogEightPeriods _ => true
  | .intakeTimerExpiry _ => true
  | .holdingTimerExpiry _ => true
  | .signalDetect _ => true
  | .signalAtNewRate _ => true
  | .signalAtFallbackRate _ => true
  | .signalLost _ => true
  | .bayFrameError _ bytes => bayBytesFit bytes
  | .frameCutShort _ => true
  | .agentCaps _ _ => true
  | .hello _ _ => true
  | .heartbeat _ _ => true
  | .inventory _ items => inventoryFits items
  | .openAck _ _ => true
  | .receipt _ f => f.fits
  | .closeResult _ f => f.fits
  | .unitReport _ _ => true
  | .passUp _ body => bodyFits body
  | .sendCaps _ => true
  | .sendRetrain _ => true
  | .sendChannelOpen _ => true
  | .sendChannelClose _ => true
  | .sendActivate _ => true
  | .sendRevert _ => true
  | .sendInventoryRequest _ => true
  | .sendBlock _ => true
  | .sendPassDown _ => true

end Sys2Proof
end

