-- ==== Sys2Proof/Machine/LinkCommands.lean ====
section
/-! DEFINITION. Bay link events and the agent's frames (06, 07, 01, 03, 05, 08). -/

namespace Sys2Proof.Machine

/-- SIGNAL_DETECT (06 R110). -/
def execSignalDetect (b : BayId) (s : State) : Result := .next (s.signalDetected b)

/-- SIGNAL_AT_NEW_RATE (06 R112). -/
def execSignalAtNewRate (b : BayId) (s : State) : Result := .next (s.signalNew b)

/-- SIGNAL_AT_FALLBACK_RATE (06 R112). -/
def execSignalAtFallbackRate (b : BayId) (s : State) : Result := .next (s.signalFallback b)

/-- SIGNAL_LOST (06 R110, R122). -/
def execSignalLost (b : BayId) (s : State) : Result := .next (s.signalGone b)

/-- BAY_FRAME_ERROR (06 R115, R118). -/
def execBayFrameError (b : BayId) (bytes : List Byte) (s : State) : Result := .next (s.badFrame b bytes)

/-- FRAME_CUT_SHORT (06 R115, log 21). -/
def execFrameCutShort (b : BayId) (s : State) : Result := .next (s.bump b .framesCutShort)

/-- AGENT_CAPS (06 R111 to R113). -/
def execAgentCaps (b : BayId) (maxRate : Byte) (s : State) : Result := .next (s.takeCaps b maxRate)

/-- HELLO (07 R131, R132). -/
def execHello (b : BayId) (f : HelloFrame) (s : State) : Result := 
  .next (s.receive b fun t => t.takeHello b f)

/-- HEARTBEAT (07 R135). -/
def execHeartbeat (b : BayId) (vehicleState : Byte) (s : State) : Result := 
  .next (s.receive b fun t => t.takeHeartbeat b vehicleState)

/-- INVENTORY (01 R13 to R16, 07 R134). -/
def execInventory (b : BayId) (items : List InventoryItem) (s : State) : Result := 
  .next (s.receiveIf b (inventoryFits items) fun t => t.takeInventory b items)

/-- OPEN_ACK (03 R56). -/
def execOpenAck (b : BayId) (f : OpenAckFrame) (s : State) : Result := 
  .next (s.receive b fun t => t.takeOpenAck b f)

/-- RECEIPT (03 R66). -/
def execReceipt (b : BayId) (f : ReceiptFrame) (s : State) : Result := 
  .next (s.receiveIf b f.fits fun t => t.takeReceipt b f)

/-- CLOSE_RESULT (03 R67, R68). -/
def execCloseResult (b : BayId) (f : CloseResultFrame) (s : State) : Result := 
  .next (s.receiveIf b f.fits fun t => t.takeCloseResult b f)

/-- UNIT_REPORT (05 R94). -/
def execUnitReport (b : BayId) (f : UnitReportFrame) (s : State) : Result := 
  .next (s.receive b fun t => t.judgeReport b f)

/-- PASS_UP (08 R161). -/
def execPassUp (b : BayId) (body : List Byte) (s : State) : Result := 
  .next (s.receiveIf b (bodyFits body) fun t => t.takePassUp b body)

end Sys2Proof.Machine
end

