-- ==== Sys2Proof/Machine/Clock.lean ====
section
/-! DEFINITION. Time: the yard clock and its second events, urgency, the expiry of resume records
(04 R74 to R76, R85, R86, 07 R142), and the step of the reference time base that the bridge takes
when no command waits (log 1). -/

namespace Sys2Proof.Machine

/-! ## Urgency (04 R85, R86) -/

/-- LATE is posted and counted when a recomputation enters urgency 3 (04 R86). -/
def State.enterLate (s : State) (b : BayId) (was : Nat) (pullOut : Word) : State :=
  let d := (s.bay b).deadline
  match d.slack with
  | none => s
  | some slack =>
    if d.urgency = 3 ∧ was ≠ 3 then
      (s.post (.late b (s.bay b).ctl.vehicle pullOut s.clock.seconds d.remaining d.estimate
        slack)).bump b .lateEntries
    else s

/-- A bay's R, N, S and urgency recomputed, by the first case of 04 R85 that applies. -/
def State.recompute (s : State) (b : BayId) : State :=
  let x := s.bay b
  let work := x.remainingWork
  let estimate := serviceSeconds work x.deadline.serviceTime
  let quiet := s.modDeadline b fun d =>
    { d with urgency := 0, remaining := work, estimate := estimate, slack := none }
  if !s.clock.valid then quiet
  else match s.pullOut x.ctl.vehicle with
    | none => quiet
    | some p =>
      if work = 0 then quiet
      else
        let slack := slackOf p.toNat s.clock.seconds.toNat estimate s.config.guardTime
        (s.modDeadline b fun d =>
          { d with urgency := urgencyOf slack s.config.th1 s.config.th2, remaining := work,
                   estimate := estimate, slack := some slack }).enterLate b x.deadline.urgency p

/-! ## Resume records (07 R142) -/

/-- The age of a resume record, in seconds mod 2^32 (07 R142). -/
def State.recordAge (s : State) (r : ResumeRecord) : Nat := (s.clock.seconds - r.created).toNat

/-- Every record that has reached the resume hold time removed (07 R142). -/
def State.expireRecords (s : State) : State :=
  allResumePlaces.foldl
    (fun t p => match t.resume.places.get p with
      | none => t
      | some r =>
        if 60 * t.config.resumeHold ≤ t.recordAge r then
          ({ t with resume := t.resume.remove p }).count .resumeExpired
        else t) s

/-! ## Second events (04 R74) -/

/-- What a second event causes (04 R74, 05 R91). While a reset is in progress nothing is recomputed
and no record is checked (07 R142). -/
def State.secondEvent (s : State) : State :=
  if s.resetHeld then s
  else ((s.forBays fun b t => t.recompute b).expireRecords).lookAll

/-- The sub-count passes from 999 to 0 and the seconds count rises (04 R74, log 3). -/
def State.rollSecond (s : State) : State :=
  ({ s with clock := { s.clock with sub := 0, seconds := s.clock.seconds + 1 } }).secondEvent

/-- The sub-count advances (04 R74). -/
def State.advanceSub (s : State) : State :=
  if 999 ≤ s.clock.sub then s.rollSecond
  else { s with clock := { s.clock with sub := s.clock.sub + 1 } }

/-! ## The millisecond tick (04 R76) -/

/-- A millisecond passes for a port's ages: the watchdog's in PROBING and TRAINED, and the time since
the last CAPS (06 R111, R119). -/
def Port.age (x : Port) : Port :=
  match x.phase with
  | .probing => { x with watchdog := x.watchdog + 1, capsAge := x.capsAge.map (· + 1) }
  | .trained => { x with watchdog := x.watchdog + 1 }
  | .down | .forced | .switching => x

/-- A millisecond passes for a bay's port. -/
def Bay.agePort (x : Bay) : Bay := { x with port := x.port.age }

/-- An expiry taken when its timer has reached its limit. -/
def State.takeIf (s : State) (due : State → Bool) (take : State → State) : State :=
  if due s then take s else s

/-- A channel's timers taken when they are due (03 R57, R68), the open timer first (log 1). -/
def State.channelTimers (s : State) (b : BayId) (c : ChannelId) : State :=
  let timer (f : Channel → Option Timer) (t : State) : Bool :=
    match t.channel b c with
    | none => false
    | some ch => t.expired (f ch)
  (s.takeIf (timer (·.openTimer)) fun t => t.openExpiry b c).takeIf (timer (·.closeTimer)) fun t =>
    t.closeExpiry b c

/-- The activation timer that runs in a phase. -/
def Activation.runningTimer : Activation → Option Timer
  | .idle => none
  | .selected .. => none
  | .activating _ _ t => some t
  | .reverting _ _ t => t

/-- The activation timer's expiry, the first or the second (05 R96, R97). -/
def State.activationExpiry (s : State) (b : BayId) : State :=
  match (s.bay b).activation with
  | .activating .. => s.firstExpiry b
  | .reverting .. => s.secondExpiry b
  | .idle => s
  | .selected .. => s

/-- The port's timers and ages taken when they are due (06 R110 to R112, R120, R121). Their order among
themselves is the model's (log 1). -/
def State.portTimers (s : State) (b : BayId) : State :=
  let port (t : State) : Port := (t.bay b).port
  let period (t : State) : Nat := (t.bay b).ctl.period
  (((((s.takeIf (fun t => t.expired (port t).switchTimer) fun t => t.switchFailed b).takeIf
    (fun t => t.expired (port t).fallbackTimer) fun t => t.fallbackFailed b).takeIf
    (fun t => t.expired (port t).forcedTimer) fun t => t.forcedOver b).takeIf
    (fun t => decide (period t ≤ (port t).capsAge.getD 0)) fun t => t.resendCaps b).takeIf
    (fun t => decide (2 * period t ≤ (port t).watchdog)) fun t => t.watchdogTwo b).takeIf
    (fun t => decide (8 * period t ≤ (port t).watchdog)) fun t => t.watchdogEight b

/-- Everything of a bay that is due at this tick. The rules fix no order among these expiries; the
model's is that of log 1, the channels in ascending number among it, on which it depends which of
several jobs whose second open timer expires at one tick stays deferred (03 R57). -/
def State.bayTimers (s : State) (b : BayId) : State :=
  let s1 := allChannels.foldl (fun t c => t.channelTimers b c) s
  let s2 := s1.takeIf (fun t => t.expired (t.bay b).activation.runningTimer) fun t =>
    t.activationExpiry b
  ((s2.portTimers b).takeIf (fun t => t.expired (t.bay b).ctl.intakeTimer) fun t =>
    t.intakeExpired b).takeIf (fun t => t.expired (t.bay b).ctl.holdingTimer) fun t =>
    t.holdingExpired b

/-- A millisecond tick: the ages rise, the sub-count advances, and what is due is taken, the receipt
timeouts last (04 R76, log 1). While the reset pin is held low only the clock advances. -/
def State.millisecond (s : State) : State :=
  let s1 : State := { s with clock := { s.clock with ticks := s.clock.ticks + 1, phase := 0 } }
  if s1.resetHeld then s1.advanceSub
  else
    let s2 : State := { s1 with bays := s1.bays.map Bay.agePort }
    ((s2.ageStreams.advanceSub.expireSlots).forBays fun b t => t.bayTimers b).receiptTimeouts

/-! ## The idle step -/

/-- The frame on a bay's line has been sent (log 7). -/
def Bay.clearLine (x : Bay) : Bay := { x with port := { x.port with line := none } }

/-- The frames on the lines have been sent (log 7). -/
def State.clearLines (s : State) : State :=
  { s with uplink := { s.uplink with line := none }, bays := s.bays.map Bay.clearLine }

/-- One microsecond of the reference time base (04 R76, log 1). -/
def State.idle (s : State) : State :=
  let s0 := s.clearLines
  let s1 := { s0 with clock := { s0.clock with usec := s0.clock.usec + 1,
                                               phase := s0.clock.phase + 1 } }
  if 1000 ≤ s1.clock.phase then s1.millisecond else s1

end Sys2Proof.Machine
end

