-- ==== Sys2Proof/Machine/Layout.lean ====
section
/-! DEFINITION. The bytes of what the bridge sends: encodings, response bodies (10 R170), notices,
uplink frames and bay frames (10, Yard Frame Protocol and Bay Frame Protocol). -/

namespace Sys2Proof.Machine

/-! ## Encodings -/

/-- Bay state codes (10, Encodings). -/
def BayState.code : BayState → Nat
  | .vacant => 0
  | .training => 1
  | .qualifying => 2
  | .intake => 3
  | .serving => 4
  | .holding => 5
  | .departing => 6

/-- Vehicle state codes (10, Encodings). -/
def VehicleState.code : VehicleState → Nat
  | .parked => 1
  | .departing => 2
  | .service => 3

/-- Reset cause codes (10, Encodings). -/
def ResetCause.code : ResetCause → Nat
  | .powerOn => 0
  | .pin => 1
  | .request => 2

/-- Job state codes (10, Encodings). -/
def JobState.code : JobState → Nat
  | .queued => 0
  | .opening => 1
  | .receiving => 2
  | .closing => 3
  | .staged => 4
  | .complete => 5
  | .partialDone => 6
  | .failed => 7
  | .cancelled => 8

/-- Unit state codes (10, Encodings). -/
def UnitState.code : UnitState → Nat
  | .pending => 0
  | .staged => 1
  | .activating => 2
  | .reverting => 3
  | .done => 4
  | .reverted => 5
  | .fault => 6
  | .stageFailed => 7
  | .cancelled => 8

/-- Disposition codes (10, Encodings). -/
def Disposition.code : Disposition → Nat
  | .blocked => 0
  | .unmanaged => 1
  | .current => 2
  | .held => 3
  | .stageReady => 4
  | .needsImage => 5

/-- UNIT RESULT cause codes (10, Encodings). -/
def ResultCause.code : ResultCause → Nat
  | .reportActivating => 0
  | .reportReverting => 1
  | .secondExpiry => 2

/-- Link phases, counted from 0 in the order of 06 R108 (10 R170). -/
def LinkPhase.code : LinkPhase → Nat
  | .down => 0
  | .forced => 1
  | .probing => 2
  | .switching => 3
  | .trained => 4

/-- Response codes (10, Requests and responses). -/
def Code.number : Code → Nat
  | .done => 0
  | .busy => 1
  | .malformed => 2
  | .noSuch => 3
  | .wrongState => 4
  | .conflict => 5

/-- Activation policies, counted from 0 in the order of 01 R1 (10 R170). -/
def Policy.code : Policy → Nat
  | .immediate => 0
  | .released => 1

/-- Drop causes as the cause detail of a BAY STATE gives them (10, Encodings). A drop at the holding
time is told by the cause itself (07 R139). -/
def DropCause.code : DropCause → Nat
  | .signalLost => 0
  | .watchdog => 1
  | .resetBay => 2
  | .intakeTimeout => 3
  | .duplicate => 4
  | .holdingExpired => 0

/-- The cause and cause detail of a BAY STATE (10, Encodings). -/
def BayCause.codes : BayCause → Nat × Nat
  | .trainingBegun => (0, 0)
  | .trainingDone r => (1, r.val)
  | .qualified => (2, 0)
  | .qualificationLost => (3, 0)
  | .intakeComplete => (4, 0)
  | .vehicleReported v => (5, v.code)
  | .holdingExpired => (6, 0)
  | .linkDown d => (7, d.code)

/-! ## Fields (10 R170) -/

/-- A vehicle id, 0 when absent. -/
def vehicleField (v : Option Word) : List Byte := u32 (v.getD 0).toNat

/-- An optional field: its presence, then the field, 0 when absent. -/
def optionalField {α : Type} (enc : α → List Byte) (zero : α) (x : Option α) : List Byte :=
  flagByte x.isSome ++ enc (x.getD zero)

/-- A record place that may be vacant: a vacant one carries nothing more. -/
def placeField {α : Type} (enc : α → List Byte) (x : Option α) : List Byte :=
  match x with
  | none => u8 0
  | some a => u8 1 ++ enc a

/-- A list of variable length: its count, then each entry. -/
def listField {α : Type} (enc : α → List Byte) (l : List α) : List Byte :=
  u8 l.length ++ l.flatMap enc

/-- A signed number of four bytes, in two's complement. -/
def signedField (x : Int) : List Byte := u32 (BitVec.ofInt 32 x).toNat

/-- A 32-bit value. -/
def wordField (x : Word) : List Byte := u32 x.toNat

/-- A gap range: its first offset and its last. -/
def gapField (g : Gap) : List Byte := u32 g.first ++ u32 g.last

/-- An image identity, L being sent as L − 1. -/
def identityField (i : Identity) : List Byte :=
  u16 (i.length - 1) ++ wordField i.check ++ wordField i.target

/-! ## Response bodies -/

/-- One stream of READ STATUS (02 R25). -/
def streamItems (x : Stream) : List Byte :=
  flagByte x.isOpen ++ u16 (x.length + 65535) ++ u16 x.lastLength ++ u8 x.level ++ u16 x.position ++
    u16 x.accepted.toNat ++ u16 x.limit.toNat ++ u16 x.held ++ u16 x.age ++ flagByte x.satisfied ++
    u16 x.resume

/-- One bay of READ STATUS (08 R150). -/
def bayItems (x : Bay) : List Byte :=
  u8 x.ctl.state.code ++ vehicleField x.ctl.vehicle ++ u8 x.deadline.urgency

/-- The body of READ STATUS (08 R150). -/
def State.statusBody (s : State) : List Byte :=
  u8 s.uplink.bridgeNumber.toNat ++ u48 s.station ++ u8 s.resetCause.code ++
    wordField s.clock.seconds ++ u16 s.clock.sub ++ flagByte s.clock.valid ++
    flagByte (!s.uplink.up) ++ optionalField u48 0 s.uplink.server ++
    u8 s.mgmt.queue.length ++ u8 s.uplink.responses.length ++ u8 s.notices.queue.length ++
    u8 s.uplink.passUps.length ++ u8 s.notices.mask.toNat ++ flagByte s.notices.lost ++
    u32 s.freeSlots ++ u32 s.totalHeld ++ u32 s.spare ++
    s.streams.cells.flatMap streamItems ++ s.bays.cells.flatMap bayItems

/-- The writable fields of an entry (01 R1, R7). -/
def entryFields (f : EntryFields) : List Byte :=
  u32 f.base.toNat ++ u32 f.mask.toNat ++ wordField f.target ++ flagByte f.downgrade ++
    u8 f.stream.val ++ wordField f.check ++ u8 f.policy.code

/-- The body of READ ENTRY (01 R7). -/
def State.entryBody (s : State) (i : EntryId) : List Byte :=
  let e := s.entry i
  flagByte e.active ++ entryFields e.fields ++ flagByte e.released ++ u8 (s.liveCount i) ++
    placeField entryFields e.replacement

/-- The content of a departure slot: the vehicle id, and the pull-out time when it holds one
(04 R78). An empty slot shows a vehicle id of 0 and a presence byte for the pull-out time alone, no
presence byte before the two together: 10 R170 leaves this form open, and it is the model's
(log 17). -/
def departureField (d : Option Departure) : List Byte :=
  vehicleField (d.map (·.vehicle)) ++ optionalField wordField 0 (d.map (·.pullOut))

/-- A running timer's start tick (07 R128). -/
def timerField (t : Option Timer) : List Byte := optionalField u32 0 (t.map (·.start))

/-- The content of a pending HELLO (07 R128). -/
def helloField (h : HelloFrame) : List Byte :=
  wordField h.vehicle ++ u16 h.period.toNat ++ u32 h.channels.toNat ++ u32 h.credits.toNat ++
    u8 h.vehicleState.toNat

/-- The HELLO that stands for an absent one. -/
def noHello : HelloFrame :=
  { vehicle := 0, period := 0, channels := 0, credits := 0, vehicleState := 0 }

/-- The controller's items of READ BAY (07 R128). -/
def controllerItems (c : Controller) : List Byte :=
  u8 c.state.code ++ vehicleField c.vehicle ++
    optionalField (fun p : Half => u16 p.toNat) 0 c.announced ++ u16 c.period ++
    optionalField u32 0 c.channelCount ++ optionalField u32 0 c.credits ++
    optionalField u8 0 (c.vehicleState.map VehicleState.code) ++
    optionalField helloField noHello c.pendingHello ++ timerField c.intakeTimer ++
    timerField c.holdingTimer

/-- The port's items of READ BAY, with the number of frames in each transmit class (06 R108). That each
of these four numbers takes 1 byte, as a queue fill does, is the model's reading (log 17). -/
def portItems (x : Bay) : List Byte :=
  let p := x.port
  u8 p.phase.code ++ u8 p.lineRate.val ++ optionalField u8 0 (p.trainedRate.map Fin.val) ++
    optionalField u8 0 (p.agentMax.map Fin.val) ++ u8 p.switchAttempts ++ flagByte p.qualified ++
    u8 p.qualCount ++ u32 p.watchdog ++ u8 p.linkFrame.isSome.toNat ++ u8 p.control.length ++
    u8 x.txQueue.length ++ u8 p.passDown.length

/-- One channel of READ BAY (08 R153). -/
def channelItems (x : Bay) (c : Channel) : List Byte :=
  optionalField u8 0 ((c.job.bind x.jobs.get).map fun j => j.stream.val) ++ u32 c.credit ++
    u32 c.inFlight.length ++ u8 c.tag.toNat

/-- The deadline items of READ BAY (04 R80). -/
def deadlineItems (d : Deadline) : List Byte :=
  u32 d.serviceTime ++ flagByte d.probe.isSome ++ u8 d.urgency ++ u32 d.remaining ++
    u32 d.estimate ++ optionalField signedField 0 d.slack

/-- The fields of an activation record, with the milliseconds since its timer's start (05 R89). -/
def State.recordItems (s : State) (t : ActTarget) (previous : Option Version)
    (timer : Option Timer) (expiries : Nat) : List Byte :=
  u8 t.unit.val ++ u8 t.place.val ++ wordField t.target ++ optionalField wordField 0 previous ++
    timerField timer ++ u8 expiries ++ optionalField u32 0 (timer.map s.elapsed)

/-- The activation items of READ BAY (05 R89). -/
def State.activationItems (s : State) (a : Activation) : List Byte :=
  match a with
  | .idle => u8 0
  | .selected t _ => u8 1 ++ s.recordItems t none none 0
  | .activating t previous timer => u8 2 ++ s.recordItems t (some previous) (some timer) 0
  | .reverting t previous timer => u8 3 ++ s.recordItems t (some previous) timer 1

/-- The body of READ BAY (08 R153). -/
def State.bayBody (s : State) (b : BayId) : List Byte :=
  let x := s.bay b
  controllerItems x.ctl ++ portItems x ++ listField (channelItems x) x.channels ++
    u8 x.openCounter.toNat ++ deadlineItems x.deadline ++ s.activationItems x.activation ++
    x.jobs.cells.flatMap (placeField fun j => u8 j.state.code) ++ u8 x.inventory.length ++
    flagByte x.truncated

/-- One member of READ JOB (03 R72). -/
def memberItems (m : Member) : List Byte :=
  u8 m.unit.val ++ u8 m.state.code ++ optionalField u8 0 (m.link.map Fin.val)

/-- The five counts of a job (03 R59). -/
def countItems (c : Counts) : List Byte :=
  u32 c.uncovered ++ u32 c.needed ++ u32 c.queued ++ u32 c.inFlight ++ u32 c.confirmed

/-- A record of READ JOB (03 R72). -/
def jobItems (x : Bay) (p : Place) (j : Job) : List Byte :=
  u8 j.stream.val ++ u8 j.state.code ++ identityField j.identity ++
    optionalField u8 0 (j.governing.map Fin.val) ++ optionalField u8 0 (j.channel.map Fin.val) ++
    u8 j.tag.toNat ++ u16 j.start ++ u32 j.cursor ++ countItems (x.countsOf p j) ++
    listField gapField j.gaps ++ u8 j.attempts ++ flagByte j.deferred ++ flagByte j.checkFailed ++
    optionalField wordField 0 j.endTime ++ listField memberItems j.members

/-- The body of READ JOB (03 R72). -/
def State.jobBody (s : State) (b : BayId) (p : Place) : List Byte :=
  placeField (jobItems (s.bay b) p) (s.job b p)

/-- One record of READ INVENTORY (01 R11). The job that its job reference names is given by its record
place: the rule leaves open whether place or stream stands there (log 17). -/
def recordFields (r : UnitRecord) : List Byte :=
  u8 r.unit.val ++ u32 r.cls.toNat ++ u32 r.revision.toNat ++ wordField r.running ++
    optionalField wordField 0 r.standby ++ u8 r.disposition.code ++ flagByte r.blocked ++
    optionalField u8 0 (r.job.map Fin.val)

/-- The body of READ INVENTORY (01 R11). -/
def State.inventoryBody (s : State) (b : BayId) : List Byte :=
  vehicleField (s.bay b).ctl.vehicle ++ flagByte (s.bay b).truncated ++
    listField recordFields (s.bay b).inventory

/-- The position of a place in the write order, 1 for the earliest (07 R143). -/
def ResumeTable.position (t : ResumeTable) (p : ResumeId) : Nat := t.order.idxOf p + 1

/-- The body of READ RESUME (07 R143). -/
def State.resumeBody (s : State) (p : ResumeId) : List Byte :=
  placeField (fun r : ResumeRecord =>
    wordField r.vehicle ++ identityField r.identity ++ u16 r.start ++ u32 r.cursor ++
      listField gapField r.gaps ++ wordField r.created ++ u32 (s.recordAge r) ++
      u8 (s.resume.position p)) (s.resume.places.get p)

/-- The body of READ COUNTERS (10, READ COUNTERS). -/
def countersBody (group number : Byte) (clear : Bool) (counters : List Word) : List Byte :=
  u8 group.toNat ++ u8 number.toNat ++ u8 counters.length ++ flagByte clear ++
    counters.flatMap wordField

/-! ## Notices -/

/-- The fields of a notice (10, NOTICE). -/
def Notice.fields : Notice → List Byte
  | .bridgeStart cause bridge recovery places =>
    u8 cause.code ++ u8 bridge.toNat ++ flagByte recovery ++ u8 places
  | .bayState bay left entered cause vehicle jobs records abandoned =>
    u8 bay.val ++ u8 left.code ++ u8 entered.code ++ u8 cause.codes.1 ++ u8 cause.codes.2 ++
      flagByte abandoned ++ u8 jobs ++ u8 records ++ vehicleField vehicle
  | .inventoryTaken bay vehicle refresh records truncated blocked unmanaged current held stageReady
      needsImage =>
    u8 bay.val ++ u8 (refresh.toNat + 2 * truncated.toNat) ++ u8 records ++ u8 blocked ++
      u8 unmanaged ++ u8 current ++ u8 held ++ u8 stageReady ++ u8 needsImage ++ u8 0 ++
      vehicleField vehicle
  | .jobEnd bay vehicle place stream outcome attempts done reverted fault stageFailed cancelled =>
    u8 bay.val ++ u8 place.val ++ u8 stream.val ++ u8 outcome.code ++ u8 attempts ++ u8 0 ++
      vehicleField vehicle ++ u8 done ++ u8 reverted ++ u8 fault ++ u8 stageFailed ++
      u8 cancelled ++ u8 0
  | .unitResult bay vehicle unit outcome cause target previous running standby link =>
    u8 bay.val ++ u8 unit.val ++ u8 outcome.code ++ u8 cause.code ++
      u8 (running.isSome.toNat + 2 * standby.isSome.toNat + 4 * link.isSome.toNat) ++
      u8 ((link.map Fin.val).getD 0) ++ u16 0 ++ vehicleField vehicle ++ wordField target ++
      wordField previous ++ wordField (running.getD 0) ++ wordField (standby.getD 0)
  | .late bay vehicle pullOut now remaining estimate slack =>
    u8 bay.val ++ u8 0 ++ u16 0 ++ vehicleField vehicle ++ wordField pullOut ++ wordField now ++
      u32 remaining ++ u32 estimate ++ signedField slack
  | .streamSatisfied stream accepted position =>
    u8 stream.val ++ u8 0 ++ u16 accepted.toNat ++ u16 position ++ u16 0

/-- A NOTICE body (10, NOTICE). -/
def noticeBody (p : PostedNotice) (number : Half) (lost : Bool) : List Byte :=
  u8 (p.notice.kind.val + 1) ++ u8 (lost.toNat + 2 * p.valid.toNat) ++ u16 number.toNat ++
    wordField p.seconds ++ p.notice.fields

/-! ## Uplink frames -/

/-- The kind code and body of what the bridge sends (10, Yard Frame Protocol). -/
def UplinkContent.encode : UplinkContent → Nat × List Byte
  | .response kind tag code body =>
    (0x81, u8 kind.toNat ++ u8 code.number ++ u16 tag.toNat ++ body)
  | .notice posted number lost => (0x82, noticeBody posted number lost)
  | .streamStatus stream limit accepted resume satisfied =>
    (0x83, u8 stream.val ++ flagByte satisfied ++ u16 limit.toNat ++ u16 accepted.toNat ++ u16 resume)
  | .passUp f =>
    (0x84, u8 f.bay.val ++ flagByte f.vehicle.isSome ++ u16 0 ++ vehicleField f.vehicle ++ f.body)

/-- The bytes of an uplink frame, its Ethernet check sequence apart (10, Yard Frame Protocol). -/
def UplinkFrame.bytes (f : UplinkFrame) : List Byte :=
  let c := f.content.encode
  u48 f.dest ++ u48 f.src ++ u16 f.protocolType.toNat ++ u8 c.1 ++ u8 0 ++ u16 c.2.length ++ c.2

/-! ## Bay frames -/

/-- The kind code and body of a job control frame (10, the bridge's frames). -/
def ControlFrame.encode : ControlFrame → Nat × List Byte
  | .channelOpen channel tag identity lastLength start =>
    (0x20, u8 channel.val ++ u8 tag.toNat ++ u16 0 ++ u16 (identity.length - 1) ++ u16 lastLength ++
      u16 start ++ u16 0 ++ wordField identity.check ++ wordField identity.target)
  | .channelClose channel tag check units =>
    (0x21, u8 channel.val ++ u8 tag.toNat ++ u8 units.length ++ u8 0 ++ wordField check ++
      units.flatMap (fun u => u8 u.val) ++ List.replicate (units.length % 2) 0)
  | .activate unit target => (0x22, u8 unit.val ++ u8 0 ++ u16 0 ++ wordField target)
  | .revert unit previous => (0x23, u8 unit.val ++ u8 0 ++ u16 0 ++ wordField previous)
  | .inventoryRequest _ => (0x24, [])

/-- The kind code and body of a frame on a bay line (10, the bridge's frames). -/
def BayFrame.encode : BayFrame → Nat × List Byte
  | .caps bridge bay maxRate => (0x01, u8 bridge.toNat ++ u8 bay.val ++ u8 maxRate.val ++ u8 0)
  | .retrain rate => (0x02, u8 rate.val ++ u8 0 ++ u16 0)
  | .control frame => frame.encode
  | .block channel sequence payload => (0x25, u8 channel.val ++ u8 0 ++ u16 sequence ++ payload)
  | .passDown body => (0x26, body)

/-- The bytes of a bay frame, with its length and its frame check (10, Bay Frame Protocol). -/
def BayFrame.bytes (f : BayFrame) : List Byte :=
  let c := f.encode
  let whole := u8 c.1 ++ u8 0 ++ u16 (c.2.length + 8) ++ c.2
  whole ++ wordField (crc32 whole)

end Sys2Proof.Machine
end

