-- ==== Sys2Proof/Machine/Settings.lean ====
section
/-! DEFINITION. The configuration values: reading, clamping and storing one, and the work a change
causes (08 R151, R152, configuration values). -/

namespace Sys2Proof.Machine

/-- The error mode's number (08 R151). -/
def errorModeNumber (m : Config.ErrorMode) : Nat :=
  match m with
  | .discard => 0
  | .relatch => 1

/-- The error mode of a number: above 0, RELATCH (08 R151). -/
def errorModeOf (n : Nat) : Config.ErrorMode := if n = 0 then .discard else .relatch

/-- A configuration parameter (10, WRITE CONFIG and READ CONFIG). -/
inductive Parameter where
  | protocolType
  | holdLimit
  | streamWindow
  | openTimeout
  | receiptTimeout
  | closeTimeout
  | guardTime
  | th1
  | th2
  | ageQuantum
  | activationTimeout
  | windowStart
  | windowEnd
  | maxRate (bay : BayId)
  | threshold
  | errorMode
  | holdingTime
  | resumeHold
deriving DecidableEq, Repr

/-- What a parameter byte and a bay byte name (08 R151). -/
inductive Named where
  | parameter (p : Parameter)
  | noBay
  | unknown
deriving DecidableEq, Repr

/-- The parameter that a parameter byte and a bay byte name (08 R151, 10). -/
def namedParameter (code bay : Byte) : Named :=
  match code.toNat with
  | 1 => .parameter .protocolType
  | 2 => .parameter .holdLimit
  | 3 => .parameter .streamWindow
  | 4 => .parameter .openTimeout
  | 5 => .parameter .receiptTimeout
  | 6 => .parameter .closeTimeout
  | 7 => .parameter .guardTime
  | 8 => .parameter .th1
  | 9 => .parameter .th2
  | 10 => .parameter .ageQuantum
  | 11 => .parameter .activationTimeout
  | 12 => .parameter .windowStart
  | 13 => .parameter .windowEnd
  | 14 => match idx 16 bay.toNat with
    | none => .noBay
    | some b => .parameter (.maxRate b)
  | 15 => .parameter .threshold
  | 16 => .parameter .errorMode
  | 17 => .parameter .holdingTime
  | 18 => .parameter .resumeHold
  | _ => .unknown

/-- The stored value of a parameter (08 R152). -/
def State.setting (s : State) (p : Parameter) : Nat :=
  match p with
  | .protocolType => s.config.protocolType.toNat
  | .holdLimit => s.config.holdLimit
  | .streamWindow => s.config.streamWindow
  | .openTimeout => s.config.openTimeout
  | .receiptTimeout => s.config.receiptTimeout
  | .closeTimeout => s.config.closeTimeout
  | .guardTime => s.config.guardTime
  | .th1 => s.config.th1
  | .th2 => s.config.th2
  | .ageQuantum => s.config.ageQuantum
  | .activationTimeout => s.config.activationTimeout
  | .windowStart => s.config.windowStart
  | .windowEnd => s.config.windowEnd
  | .maxRate b => (s.bay b).maxRate.val
  | .threshold => s.config.threshold
  | .errorMode => errorModeNumber s.config.errorMode
  | .holdingTime => s.config.holdingTime
  | .resumeHold => s.config.resumeHold

/-- The range of a parameter; that of th2 ends at the stored th1 (08, configuration values). -/
def State.settingRange (s : State) (p : Parameter) : Nat × Nat :=
  match p with
  | .protocolType => (0x0600, 0xFFFF)
  | .holdLimit => (5, 500)
  | .streamWindow => (1, 32)
  | .openTimeout => (100, 5000)
  | .receiptTimeout => (50, 5000)
  | .closeTimeout => (5, 600)
  | .guardTime => (0, 3600)
  | .th1 => (60, 14400)
  | .th2 => (0, s.config.th1)
  | .ageQuantum => (10, 5000)
  | .activationTimeout => (10, 900)
  | .windowStart => (0, 86399)
  | .windowEnd => (0, 86399)
  | .maxRate _ => (0, 3)
  | .threshold => (0, 15)
  | .errorMode => (0, 1)
  | .holdingTime => (1, 60)
  | .resumeHold => (1, 240)

/-- A value clamped into a parameter's range (08 R151). -/
def State.clampSetting (s : State) (p : Parameter) (v : Nat) : Nat :=
  clampTo (s.settingRange p).1 (s.settingRange p).2 v

/-- One bridge-wide value changed. -/
def State.modConfig (s : State) (f : Config.Settings → Config.Settings) : State :=
  { s with config := f s.config }

/-- The streams after a change of their window: those that stop wanting have age 0, and a rise makes
the arbiter evaluate (02 R39, R40). -/
def State.setWindow (s : State) (v : Nat) : State :=
  let s1 := (s.modConfig fun c => { c with streamWindow := v }).zeroAges
  if s.config.streamWindow < v then s1.arbitrate else s1

/-- A value in a parameter's range stored, with the work the change causes (08 R151 and the rules
its table names). A protocol type stored here is the one that received frames are judged against from
this moment, the request's execution, while its response still waits: the rule leaves it open whether
that begins here or when the response is built (log 36). -/
def State.store (s : State) (p : Parameter) (v : Nat) : State :=
  match p with
  | .protocolType => s.modConfig fun c => { c with protocolType := BitVec.ofNat 16 v }
  | .holdLimit => (s.modConfig fun c => { c with holdLimit := v }).expireSlots
  | .streamWindow => s.setWindow v
  | .openTimeout => s.modConfig fun c => { c with openTimeout := v }
  | .receiptTimeout => (s.modConfig fun c => { c with receiptTimeout := v }).receiptTimeouts
  | .closeTimeout => s.modConfig fun c => { c with closeTimeout := v }
  | .guardTime => s.modConfig fun c => { c with guardTime := v }
  | .th1 => s.modConfig fun c => { c with th1 := v, th2 := min c.th2 v }
  | .th2 => s.modConfig fun c => { c with th2 := v }
  | .ageQuantum => s.modConfig fun c => { c with ageQuantum := v }
  | .activationTimeout => s.modConfig fun c => { c with activationTimeout := v }
  | .windowStart => (s.modConfig fun c => { c with windowStart := v }).lookAll
  | .windowEnd => (s.modConfig fun c => { c with windowEnd := v }).lookAll
  | .maxRate b => s.modBay b fun x => { x with maxRate := (idx 4 v).getD 3 }
  | .threshold => s.modConfig fun c => { c with threshold := v }
  | .errorMode => s.modConfig fun c => { c with errorMode := errorModeOf v }
  | .holdingTime => s.modConfig fun c => { c with holdingTime := v }
  | .resumeHold => s.modConfig fun c => { c with resumeHold := v }

end Sys2Proof.Machine
end

