-- ==== Sys2Proof/Machine/Reset.lean ====
section
/-! DEFINITION. Power-on and bridge reset (08 R158, R163, R164, 07 R140). -/

namespace Sys2Proof.Machine

/-- The occupied places of the resume table (08 R158). -/
def State.resumeOccupied (s : State) : Nat := (s.resume.places.cells.filter Option.isSome).length

/-- A BRIDGE START notice posted (08 R158). -/
def State.postStart (s : State) (recovery : Bool) : State :=
  s.post (.bridgeStart s.resetCause s.uplink.bridgeNumber recovery s.resumeOccupied)

/-- The resume records that a reset writes, for every bay holding a vehicle, each job's queued and
in-flight offsets being made needed first (07 R140). -/
def State.saveJobs (s : State) : State :=
  s.forBays fun b t =>
    if (t.bay b).ctl.vehicle.isSome then (t.giveUpBlocks b).writeResumes b false else t

/-- A bay in a bridge reset: its power-on values, with the port in FORCED (08 R164) and its signal
level kept (log 12). Switch attempts and watchdog age are 0 (log 30). -/
def Bay.resetTo (x : Bay) (timer : Option Timer) : Bay :=
  { Bay.initial with port := { Port.initial with phase := .forced, signal := x.port.signal,
                                                 forcedTimer := timer } }

/-- The power-on values, but for what a bridge reset keeps: the yard clock, the resume table and the
physical uplink (08 R164). The microsecond count is 0 (04 R76). -/
def State.clear (s : State) : State :=
  { State.reset with
    pending := s.pending,
    clock := { s.clock with usec := 0 },
    resetHeld := s.resetHeld, resetCause := s.resetCause, straps := s.straps,
    strapReads := s.strapReads,
    resume := s.resume,
    uplink := { State.reset.uplink with
      up := s.uplink.up, physical := s.uplink.physical, beenUp := s.uplink.beenUp,
      bridgeNumber := s.uplink.bridgeNumber, line := s.uplink.line },
    bays := s.bays.map fun x => Bay.resetTo x none }

/-- A reset begins: the records are written and the rest is cleared (08 R164). -/
def State.beginReset (s : State) : State := s.saveJobs.clear

/-- A reset completes: the bridge number is read from the straps, the link state is read afresh, the
100 ms of FORCED start on every port, and BRIDGE START is posted (08 R164, R158, R145, log 13). -/
def State.completeReset (s : State) (cause : ResetCause) (straps : BitVec 4) : State :=
  let timer := some (s.startTimer Config.forcedTime)
  ({ s with
      resetHeld := false, resetCause := cause, straps := straps,
      uplink := { s.uplink with up := s.uplink.physical, beenUp := s.uplink.physical,
                                bridgeNumber := straps },
      bays := s.bays.map fun x => Bay.resetTo x timer }).postStart false

/-- A bridge reset by RESET BRIDGE begins and completes at once (08 R163, R164). The four strap pins
are read at that moment (R145): what they then show is a free value, since no command carries it
(log 5). The frame on the uplink line is sent to its end. -/
def State.resetByRequest (s : State) : State :=
  { s.beginReset.completeReset .request (Config.strapPins s.strapReads) with
    strapReads := s.strapReads + 1 }

/-- The reset pin is driven low: the reset begins, and the frame on the line is cut off (08 R164). -/
def State.pinAsserted (s : State) : State :=
  if s.resetHeld then s
  else
    let s1 := s.beginReset
    { s1 with resetHeld := true, uplink := { s1.uplink with line := none } }

/-- The reset pin is released: the reset completes (08 R164). -/
def State.pinReleased (s : State) (straps : BitVec 4) : State :=
  if s.resetHeld then s.completeReset .pin straps else s

/-- Power-on completes: the power-on values, the straps read, and BRIDGE START posted (08 R164,
R158). -/
def State.poweredOn (s : State) (straps : BitVec 4) : State :=
  ({ State.reset with
      pending := s.pending, straps := straps, strapReads := s.strapReads,
      uplink := { State.reset.uplink with bridgeNumber := straps } }).postStart false

end Sys2Proof.Machine
end

