-- ==== Sys2Proof/Machine/Uplink.lean ====
section
/-! DEFINITION. The uplink port: its link, what it receives, and what it sends (08 R145 to R149,
R157, R159, R160, R162, R163). -/

namespace Sys2Proof.Machine

/-! ## The link (08 R162) -/

/-- The uplink link comes up: a recovery posts BRIDGE START and makes every OPEN stream's status
due (08 R162, log 13). -/
def State.linkUp (s : State) : State :=
  let s1 := { s with uplink := { s.uplink with physical := true } }
  if s.resetHeld || s.uplink.up then s1
  else
    let s2 := { s1 with uplink := { s1.uplink with up := true, beenUp := true } }
    if s.uplink.beenUp then
      (allStreams.filter fun st => (s.stream st).isOpen).foldl State.makeDue (s2.postStart true)
    else s2

/-- A response that is not sent (08 R148, R149, R162). -/
def State.discardResponse (s : State) : State := s.count .responsesDiscarded

/-- The uplink link is lost (08 R162). A waiting RESET BRIDGE response is among those removed, and
the reset then begins (08 R163). That step 3, the count of the link loss, comes before that reset,
which clears it, is the model's order (log 35). -/
def State.linkDown (s : State) : State :=
  let s1 := { s with uplink := { s.uplink with physical := false } }
  if s.resetHeld || !s.uplink.up then s1
  else
    let s2 := { s1 with uplink := { s1.uplink with up := false, line := none, responses := [] } }
    let s3 := match s.uplink.line with
      | none => s2
      | some _ => s2.count .framesCutAtLoss
    let s4 := (s.uplink.responses.foldl (fun t _ => t.discardResponse) s3).count .linkLosses
    if s.mgmt.halted then s4.resetByRequest else s4

/-! ## Responses (08 R148, R149) -/

/-- A response placed: at the tail of the queue when the link is UP and fewer than eight wait, and
otherwise discarded (08 R148, R149). It takes the protocol type of this moment (R151, log 14). -/
def State.respond (s : State) (dest : Address) (kind : Byte) (tag : Half) (code : Code)
    (body : List Byte) : State :=
  if s.uplink.up ∧ s.uplink.responses.length < Config.responses then
    { s with uplink := { s.uplink with
        responses := s.uplink.responses ++ [⟨dest, s.config.protocolType, kind, tag, code, body⟩] } }
  else s.discardResponse

/-! ## Receiving (08 R146 to R148, R160) -/

/-- A frame that fails a test of 08 R146: each fate has its counter. A frame that passes is another
command's (log 6). -/
def State.rejectFrame (s : State) (f : EthFrame) : State :=
  if s.receiving then
    match judgeUplinkFrame s.station s.config.protocolType f with
    | .checkError => s.count .uplinkFrameCheckErrors
    | .notAddressed => s.count .uplinkNotAddressed
    | .otherType => s.count .uplinkOtherType
    | .unknownKind => s.count .yfpUnknownKinds
    | .lengthError => s.count .yfpLengthErrors
    | .valid => s
  else s

/-- A request answered at arrival, with an empty body (08 R148). -/
def State.answerAtArrival (s : State) (src : Address) (kind : Byte) (tag : Half) (code : Code)
    (c : BridgeCounter) : State := (s.respond src kind tag code []).count c

/-- The kind a request frame carries within its length; 0 when it carries none (10, Requests and
responses, log 15). -/
def RequestFrame.kindOf (f : RequestFrame) : Byte :=
  byteAt (f.bytes.take f.length.toNat) 0

/-- A REQUEST judged on arrival (08 R148, 10 R172). -/
def State.judgeRequest (s : State) (f : RequestFrame) : State :=
  let n := f.length.toNat
  if n < 4 ∨ f.bytes.length < n then
    s.answerAtArrival f.src (RequestFrame.kindOf f) 0 .malformed .answeredMalformed
  else
    let kind := byteAt f.bytes 0
    let tag := halfAt f.bytes 2
    let a := (f.bytes.take n).drop 4
    if argumentBytes kind ≠ some a.length then
      s.answerAtArrival f.src kind tag .malformed .answeredMalformed
    else if Config.requests ≤ s.mgmt.queue.length then
      s.answerAtArrival f.src kind tag .busy .answeredBusy
    else match readRequest kind a with
      | none => s.answerAtArrival f.src kind tag .malformed .answeredMalformed
      | some r =>
        let q : QueuedRequest := { src := f.src, tag := tag, request := r }
        ({ s with mgmt := { s.mgmt with queue := s.mgmt.queue ++ [q] } }).count .requestsReceived

/-- A REQUEST received: its source is the learned server address from now on (08 R147). -/
def State.takeRequest (s : State) (f : RequestFrame) : State :=
  if s.receiving then
    let s1 := s.count .validUplinkFrames
    ({ s1 with uplink := { s1.uplink with server := some f.src } }).judgeRequest f
  else s

/-- A PASS-DOWN received: handed to its bay's port, or dropped for want of such a bay (08 R160). One
whose body is out of bounds is a length error (10 R172). -/
def State.takePassDown (s : State) (f : PassDownFrame) : State :=
  if s.receiving then
    if bodyFits f.body then
      let s1 := s.count .validUplinkFrames
      match idx 16 f.bay.toNat with
      | none => s1.count .passDownNoBay
      | some b => s1.queuePassDown b f.body
    else s.count .yfpLengthErrors
  else s

/-- A BLOCK received: handed to the stream table (08 R146). One whose payload is out of bounds is a
length error (10 R172). -/
def State.takeBlockFrame (s : State) (f : BlockFrame) : Result :=
  if s.receiving then
    if f.fits then (s.count .validUplinkFrames).arriveBlock f
    else .next (s.count .yfpLengthErrors)
  else .next s

/-! ## Sending (08 R147, R157, R159) -/

/-- A frame built for the uplink line (08 R147, log 7). -/
def State.onUplink (s : State) (dest : Address) (type : Half) (c : UplinkContent) : State :=
  { s with uplink := { s.uplink with line := some ⟨dest, s.station, type, c⟩ } }

/-- A response is that of a RESET BRIDGE which halted the management unit (08 R163). -/
def Response.startsReset (r : Response) : Bool :=
  decide (r.kind = Request.resetBridge.kind) && decide (r.code = .done)

/-- The oldest response built (08 R159); that of RESET BRIDGE begins the reset (08 R163). -/
def State.sendResponse (s : State) : State :=
  match s.uplinkChoice with
  | some (.response r rest) =>
    let s1 := { s with uplink := { s.uplink with responses := rest } }
    let s2 := (s1.onUplink r.dest r.protocolType (.response r.kind r.tag r.code r.body)).count
      .responsesSent
    if s.mgmt.halted && r.startsReset then s2.resetByRequest else s2
  | _ => s

/-- The notice at the head built, with its number and the lost indication (08 R156, R157). -/
def State.sendNotice (s : State) : State :=
  match s.uplinkChoice with
  | some (.notice a n rest) =>
    let q := s.notices
    let s1 := { s with notices := { q with queue := rest, lost := false, number := q.number + 1 } }
    (s1.onUplink a s.config.protocolType (.notice n q.number q.lost)).count .noticesSent
  | _ => s

/-- The earliest due STREAM STATUS built from the stream as it stands (02 R46, R47). -/
def State.sendStreamStatus (s : State) : State :=
  match s.uplinkChoice with
  | some (.status a st rest) =>
    let x := s.stream st
    (({ s with due := rest }).onUplink a s.config.protocolType
      (.streamStatus st x.limit x.accepted x.resume x.satisfied)).count .statusFramesSent
  | _ => s

/-- The oldest PASS-UP frame built (08 R159, R161). -/
def State.sendPassUp (s : State) : State :=
  match s.uplinkChoice with
  | some (.passUp a f rest) =>
    (({ s with uplink := { s.uplink with passUps := rest } }).onUplink a s.config.protocolType
      (.passUp f)).bump f.bay .passUpForwarded
  | _ => s

end Sys2Proof.Machine
end

