-- ==== Sys2Proof/Machine/Manage.lean ====
section
/-! DEFINITION. The management unit: how a request is executed (08 R149), and what each request kind
checks, changes and answers. -/

namespace Sys2Proof.Machine

/-- What executing a request gives: the state after its effects, the code, and the body. -/
structure Answer where
  state : State
  code : Code
  body : List Byte
deriving DecidableEq, Repr

/-- A refusal: no effect, and an empty body (08 R149, 10 R170). -/
def State.refuse (s : State) (c : Code) : Answer := { state := s, code := c, body := [] }

/-- A request answered DONE. -/
def State.done (s : State) (body : List Byte) : Answer := { state := s, code := .done, body := body }

/-- The management unit may execute a request (08 R149). While the reset pin is held low it executes
nothing (log 22). -/
def State.mayExecute (s : State) : Bool :=
  !s.resetHeld && !s.mgmt.halted &&
    (!s.uplink.up || decide (s.uplink.responses.length < Config.responses))

/-- The response of an executed request placed, and a MALFORMED at execution counted (08 R149,
R165). -/
def State.answer (q : QueuedRequest) (a : Answer) : State :=
  let s := if a.code = .malformed then a.state.count .answeredMalformed else a.state
  s.respond q.src q.request.kind q.tag a.code a.body

/-- The request at the head of the queue executed whole, when it is of the kind that `handle` knows
(08 R149, log 6). -/
def State.execute (s : State) (handle : State → Request → Option Answer) : State :=
  if s.mayExecute then
    match s.mgmt.queue with
    | [] => s
    | q :: rest =>
      match handle { s with mgmt := { s.mgmt with queue := rest } } q.request with
      | none => s
      | some a => State.answer q a
  else s

/-! ## Clock, status, configuration (04 R75, 08 R150 to R152) -/

/-- SET CLOCK (04 R75). -/
def State.setClock (s : State) (seconds : Word) (sub : Half) : Answer :=
  let ms := min 999 sub.toNat
  let s1 : State := { s with clock := { s.clock with seconds := seconds, sub := ms, valid := true } }
  s1.secondEvent.done (wordField seconds ++ u16 ms)

/-- The body of a configuration request (10, WRITE CONFIG and READ CONFIG). The bay byte is the one the
request carried, for a bridge-wide parameter too, where the rules do not say what it holds (log 37). -/
def settingBody (parameter bay : Byte) (v : Nat) : List Byte :=
  u8 parameter.toNat ++ u8 bay.toNat ++ u32 v

/-- WRITE CONFIG (08 R151). -/
def State.writeConfig (s : State) (parameter bay : Byte) (value : Word) : Answer :=
  match namedParameter parameter bay with
  | .unknown => s.refuse .malformed
  | .noBay => s.refuse .noSuch
  | .parameter p =>
    let v := s.clampSetting p value.toNat
    let s1 := s.store p v
    s1.done (settingBody parameter bay v ++ if p = .th1 then u32 s1.config.th2 else [])

/-- READ CONFIG (08 R152). -/
def State.readConfig (s : State) (parameter bay : Byte) : Answer :=
  match namedParameter parameter bay with
  | .unknown => s.refuse .malformed
  | .noBay => s.refuse .noSuch
  | .parameter p => s.done (settingBody parameter bay (s.setting p))

/-! ## Streams (02 R27 to R29) -/

/-- A stream as OPEN STREAM sets it (02 R27). -/
def Stream.opened (x : Stream) (length lastLength level : Nat) : Stream :=
  { x with isOpen := true, length := length, lastLength := lastLength, level := level,
           position := 0, accepted := 0, limit := 0, satisfied := true, resume := 0, age := 0 }

/-- OPEN STREAM (02 R27). -/
def State.openStream (s : State) (stream level : Byte) (lengthLess1 lastLength : Half) : Answer :=
  match idx 16 stream.toNat with
  | none => s.refuse .noSuch
  | some st =>
    if (s.stream st).isOpen then s.refuse .wrongState
    else
      let last := clampTo 1 1024 lastLength.toNat
      let lvl := min 7 level.toNat
      ((s.modStream st fun x => x.opened (lengthLess1.toNat + 1) last lvl).makeDue st).done
        (u16 lengthLess1.toNat ++ u16 last ++ u8 lvl)

/-- An ACTIVE entry or a pending replacement names a stream (02 R28). -/
def State.streamNamed (s : State) (st : StreamId) : Bool :=
  s.manifest.cells.any fun e =>
    (e.active && decide (e.fields.stream = st)) ||
      (match e.replacement with
        | none => false
        | some f => decide (f.stream = st))

/-- The slots of a stream freed, their bays detached without counting (02 R28, step 1), in ascending
slot number (log 33). -/
def State.freeSlotsOf (s : State) (st : StreamId) : State :=
  allSlots.foldl
    (fun t sl => match t.pool.get sl with
      | none => t
      | some x => if x.stream = st then t.detachSlot sl false else t) s

/-- CLOSE STREAM (02 R28). -/
def State.closeStream (s : State) (stream : Byte) : Answer :=
  match idx 16 stream.toNat with
  | none => s.refuse .noSuch
  | some st =>
    if (s.stream st).isOpen = false ∨ s.streamNamed st = true then s.refuse .wrongState
    else
      let s1 := (s.freeSlotsOf st).modStream st fun x =>
        { x.revoke with isOpen := false, satisfied := false, age := 0 }
      let s2 : State := { s1 with due := s1.due.filter (· ≠ st) }
      s2.arbitrate.done []

/-- SET LEVEL (02 R29). -/
def State.setLevel (s : State) (stream level : Byte) : Answer :=
  match idx 16 stream.toNat with
  | none => s.refuse .noSuch
  | some st =>
    if (s.stream st).isOpen then
      let lvl := min 7 level.toNat
      (s.modStream st fun x => { x with level := lvl }).done (u8 lvl)
    else s.refuse .wrongState

/-! ## Manifest (01 R4 to R9) -/

/-- The fields that a WRITE ENTRY carries for a stream (10, WRITE ENTRY). -/
def writtenFields (st : StreamId) (flags : Byte) (base mask target check : Word) : EntryFields :=
  { base := base.setWidth 24, mask := mask.setWidth 24, target := target, downgrade := bit0 flags,
    stream := st, check := check, policy := if bit1 flags then .released else .immediate }

/-- Two sets of fields tie one stream to two image identities (01 R4, case 3). -/
def fieldsClash (f g : EntryFields) : Bool :=
  decide (f.stream = g.stream) && (decide (f.target ≠ g.target) || decide (f.check ≠ g.check))

/-- Some other entry, ACTIVE or by its pending replacement, ties the stream to another image
(01 R4, case 3). -/
def State.writeConflicts (s : State) (i : EntryId) (f : EntryFields) : Bool :=
  allEntries.any fun k =>
    decide (k ≠ i) &&
      (((s.entry k).active && fieldsClash f (s.entry k).fields) ||
        (match (s.entry k).replacement with
          | none => false
          | some g => fieldsClash f g))

/-- An entry as a write applied at once leaves it (01 R5). -/
def Entry.written (f : EntryFields) : Entry :=
  { active := true, fields := f, released := false, replacement := none }

/-- A WRITE ENTRY that has passed the checks: applied at once, or stored as pending (01 R5). -/
def State.applyWrite (s : State) (i : EntryId) (f : EntryFields) : Answer :=
  if (s.entry i).active = true ∧ s.liveCount i ≠ 0 then
    (s.modEntry i fun e => { e with replacement := some f }).done (u8 1)
  else ((s.modEntry i fun _ => Entry.written f).buildAll).done (u8 0)

/-- WRITE ENTRY (01 R4, R5). -/
def State.writeEntry (s : State) (index stream flags : Byte) (base mask target check : Word) :
    Answer :=
  match idx 64 index.toNat, idx 16 stream.toNat with
  | some i, some st =>
    let f := writtenFields st flags base mask target check
    if (s.stream st).isOpen = false then s.refuse .wrongState
    else if s.writeConflicts i f then s.refuse .conflict
    else s.applyWrite i f
  | _, _ => s.refuse .noSuch

/-- READ ENTRY (01 R7). -/
def State.readEntry (s : State) (index : Byte) : Answer :=
  match idx 64 index.toNat with
  | none => s.refuse .noSuch
  | some i => s.done (s.entryBody i)

/-- A member that a withdrawal of an entry cancels (01 R8, step 2). -/
def Member.withdrawn (m : Member) (i : EntryId) : Bool :=
  decide (m.link = some i) && (decide (m.state = .pending) || decide (m.state = .staged))

/-- The units of a bay that a withdrawal cancels, with their jobs' places (01 R8, step 2). -/
def Bay.withdrawnUnits (x : Bay) (i : EntryId) : List (Place × UnitAddr) :=
  x.jobList.flatMap fun pj =>
    if pj.2.live then (pj.2.members.filter (·.withdrawn i)).map fun m => (pj.1, m.unit) else []

/-- A link to an entry removed from a member (01 R8, step 3). -/
def Member.unlink (m : Member) (i : EntryId) : Member :=
  if m.link = some i then { m with link := none } else m

/-- Every link to an entry removed from a bay's jobs (01 R8, step 3). -/
def Bay.unlink (x : Bay) (i : EntryId) : Bay :=
  { x with jobs := x.jobs.map (Option.map fun j =>
      { j with members := j.members.map fun m => m.unlink i }) }

/-- Steps 2 and 3 of a withdrawal in one bay (01 R8). -/
def State.withdrawFrom (s : State) (i : EntryId) (b : BayId) : State :=
  (((s.bay b).withdrawnUnits i).foldl (fun t pu => t.setMember b pu.1 pu.2 .cancelled) s).modBay b
    fun x => x.unlink i

/-- An entry withdrawn, in the order of the rule's steps (01 R8). Step 4 ends the jobs bay by bay in
ascending bay, an order among bays that the rule leaves open (log 8), and within a bay in ascending
record place (R21). The channels that step 4 frees are
given at once to the QUEUED jobs that wait for one, in ascending bay, before the entry is EMPTY and
before any builder run can create another such job (03 R54); a replacement that an ended job held
back is applied before the builder runs (01 R6). Where these two stand among the steps is log 8. -/
def State.withdraw (s : State) (i : EntryId) : State :=
  let s1 := s.modEntry i fun e => { e with replacement := none }
  let s2 := s1.forBays fun b t => t.withdrawFrom i b
  let s3 := s2.forBays fun b t => t.closeOutAll b
  let s4 := s3.forBays fun b t => t.assign b
  let s5 := s4.modEntry i fun e => { e with active := false, released := false }
  s5.applyReplacements.buildAll

/-- The units that a withdrawal cancels, in all bays (01 R8). -/
def State.withdrawCount (s : State) (i : EntryId) : Nat :=
  (allBays.map fun b => ((s.bay b).withdrawnUnits i).length).sum

/-- WITHDRAW ENTRY (01 R8). -/
def State.withdrawEntry (s : State) (index : Byte) : Answer :=
  match idx 64 index.toNat with
  | none => s.refuse .noSuch
  | some i =>
    if (s.entry i).active then (s.withdraw i).done (u32 (s.withdrawCount i))
    else s.refuse .wrongState

/-- RELEASE ENTRY (01 R9); the activation controllers look (05 R92). -/
def State.releaseEntry (s : State) (index : Byte) : Answer :=
  match idx 64 index.toNat with
  | none => s.refuse .noSuch
  | some i =>
    if (s.entry i).active then
      ((s.modEntry i fun e => { e with released := true }).lookAll).done []
    else s.refuse .wrongState

/-! ## Departures (04 R78) -/

/-- The slot that holds a vehicle id (04 R78). -/
def State.departureOf (s : State) (vehicle : Word) : Option DepartureId :=
  s.departures.find fun d => match d with
    | none => false
    | some e => decide (e.vehicle = vehicle)

/-- The departure table with one slot set. -/
def State.setDeparture (s : State) (i : DepartureId) (d : Option Departure) : State :=
  { s with departures := s.departures.set i d }

/-- The table and the code after a LOAD DEPARTURE, by the first case that applies (04 R78). -/
def State.loadInto (s : State) (vehicle pullOut : Word) : State × Code :=
  if vehicle = 0 then (s, .done)
  else match s.departureOf vehicle with
    | some i =>
      if pullOut = 0 then (s.setDeparture i none, .done)
      else (s.setDeparture i (some ⟨vehicle, pullOut⟩), .done)
    | none =>
      if pullOut = 0 then (s, .done)
      else match s.departures.find Option.isNone with
        | some i => (s.setDeparture i (some ⟨vehicle, pullOut⟩), .done)
        | none => (s, .conflict)

/-- LOAD DEPARTURE (04 R78): every case's answer carries the vehicle's slot and the named slot's
content. -/
def State.loadDeparture (s : State) (slot : Byte) (vehicle pullOut : Word) : Answer :=
  match idx 64 slot.toNat with
  | none => s.refuse .noSuch
  | some i =>
    let r := s.loadInto vehicle pullOut
    let at_ := if vehicle = 0 then none else r.1.departureOf vehicle
    { state := r.1, code := r.2,
      body := optionalField u8 0 (at_.map Fin.val) ++ departureField (r.1.departures.get i) }

/-! ## Reading bays, jobs, inventories, records (03 R72, 01 R11, 07 R143, 08 R153) -/

/-- READ BAY (08 R153). -/
def State.readBay (s : State) (bay : Byte) : Answer :=
  match idx 16 bay.toNat with
  | none => s.refuse .noSuch
  | some b => s.done (s.bayBody b)

/-- READ JOB (03 R72). -/
def State.readJob (s : State) (bay place : Byte) : Answer :=
  match idx 16 bay.toNat, idx 8 place.toNat with
  | some b, some p => s.done (s.jobBody b p)
  | _, _ => s.refuse .noSuch

/-- READ INVENTORY (01 R11). -/
def State.readInventory (s : State) (bay : Byte) : Answer :=
  match idx 16 bay.toNat with
  | none => s.refuse .noSuch
  | some b => s.done (s.inventoryBody b)

/-- READ RESUME (07 R143). -/
def State.readResume (s : State) (place : Byte) : Answer :=
  match idx 32 place.toNat with
  | none => s.refuse .noSuch
  | some p => s.done (s.resumeBody p)

/-- CLEAR BLOCK (01 R23). -/
def State.clearBlock (s : State) (bay unit : Byte) : Answer :=
  match idx 16 bay.toNat, idx 64 unit.toNat with
  | some b, some u =>
    match (s.bay b).unit? u with
    | none => s.refuse .noSuch
    | some _ => ((s.modUnit b u fun r => { r with blocked := false }).build b).done []
  | _, _ => s.refuse .noSuch

/-! ## Counters, mask, resets (08 R154, R155, R163, 07 R138) -/

/-- READ COUNTERS: the snapshot, and with the clear indication every counter of the group 0
(08 R154). -/
def State.readCounters (s : State) (group number clear : Byte) : Answer :=
  let c := bit0 clear
  match group.toNat with
  | 0 =>
    match idx 16 number.toNat with
    | none => s.refuse .noSuch
    | some b =>
      let t := if c then s.modBay b fun x => { x with counters := Table.fill 66 0 } else s
      t.done (countersBody group number c (s.bay b).counters.cells)
  | 1 =>
    match idx 16 number.toNat with
    | none => s.refuse .noSuch
    | some st =>
      let t := if c then s.modStream st fun x => { x with counters := Table.fill 5 0 } else s
      t.done (countersBody group number c (s.stream st).counters.cells)
  | 2 =>
    let t : State := if c then { s with counters := Table.fill 22 0 } else s
    t.done (countersBody group number c s.counters.cells)
  | _ => s.refuse .malformed

/-- SET NOTICE MASK (08 R155). -/
def State.setMask (s : State) (mask : Byte) : Answer :=
  let m : BitVec 7 := mask.setWidth 7
  ({ s with notices := { s.notices with mask := m } }).done (u8 m.toNat)

/-- RESET BAY: the answer carries the bay state before the drop (07 R138). -/
def State.resetBay (s : State) (bay : Byte) : Answer :=
  match idx 16 bay.toNat with
  | none => s.refuse .noSuch
  | some b => (s.dropLink b .resetBay).done (u8 (s.bay b).ctl.state.code)

/-- RESET BRIDGE: the management unit halts (08 R163). -/
def State.halt (s : State) : Answer := ({ s with mgmt := { s.mgmt with halted := true } }).done []

end Sys2Proof.Machine
end

