-- ==== Sys2Proof/Machine/RequestCommands.lean ====
section
/-! DEFINITION. The request commands: the management unit executes the request at the head of its
queue when it is of the command's kind (08 R149, log 6). -/

namespace Sys2Proof.Machine

/-- The handler of SET CLOCK (04 R75). -/
def handleSetClock (t : State) (r : Request) : Option Answer :=
  match r with
  | .setClock seconds sub => some (t.setClock seconds sub)
  | _ => none

/-- The handler of READ STATUS (08 R150). -/
def handleReadStatus (t : State) (r : Request) : Option Answer :=
  match r with
  | .readStatus => some (t.done t.statusBody)
  | _ => none

/-- The handler of WRITE CONFIG (08 R151). -/
def handleWriteConfig (t : State) (r : Request) : Option Answer :=
  match r with
  | .writeConfig parameter bay value => some (t.writeConfig parameter bay value)
  | _ => none

/-- The handler of READ CONFIG (08 R152). -/
def handleReadConfig (t : State) (r : Request) : Option Answer :=
  match r with
  | .readConfig parameter bay => some (t.readConfig parameter bay)
  | _ => none

/-- The handler of OPEN STREAM (02 R27). -/
def handleOpenStream (t : State) (r : Request) : Option Answer :=
  match r with
  | .openStream stream level lengthLess1 lastLength => some (t.openStream stream level lengthLess1 lastLength)
  | _ => none

/-- The handler of CLOSE STREAM (02 R28). -/
def handleCloseStream (t : State) (r : Request) : Option Answer :=
  match r with
  | .closeStream stream => some (t.closeStream stream)
  | _ => none

/-- The handler of SET LEVEL (02 R29). -/
def handleSetLevel (t : State) (r : Request) : Option Answer :=
  match r with
  | .setLevel stream level => some (t.setLevel stream level)
  | _ => none

/-- The handler of WRITE ENTRY (01 R4, R5). -/
def handleWriteEntry (t : State) (r : Request) : Option Answer :=
  match r with
  | .writeEntry index stream flags base mask target check => some (t.writeEntry index stream flags base mask target check)
  | _ => none

/-- The handler of READ ENTRY (01 R7). -/
def handleReadEntry (t : State) (r : Request) : Option Answer :=
  match r with
  | .readEntry index => some (t.readEntry index)
  | _ => none

/-- The handler of WITHDRAW ENTRY (01 R8). -/
def handleWithdrawEntry (t : State) (r : Request) : Option Answer :=
  match r with
  | .withdrawEntry index => some (t.withdrawEntry index)
  | _ => none

/-- The handler of RELEASE ENTRY (01 R9). -/
def handleReleaseEntry (t : State) (r : Request) : Option Answer :=
  match r with
  | .releaseEntry index => some (t.releaseEntry index)
  | _ => none

/-- The handler of LOAD DEPARTURE (04 R78). -/
def handleLoadDeparture (t : State) (r : Request) : Option Answer :=
  match r with
  | .loadDeparture slot vehicle pullOut => some (t.loadDeparture slot vehicle pullOut)
  | _ => none

/-- The handler of READ BAY (08 R153). -/
def handleReadBay (t : State) (r : Request) : Option Answer :=
  match r with
  | .readBay bay => some (t.readBay bay)
  | _ => none

/-- The handler of READ JOB (03 R72). -/
def handleReadJob (t : State) (r : Request) : Option Answer :=
  match r with
  | .readJob bay place => some (t.readJob bay place)
  | _ => none

/-- The handler of READ INVENTORY (01 R11). -/
def handleReadInventory (t : State) (r : Request) : Option Answer :=
  match r with
  | .readInventory bay => some (t.readInventory bay)
  | _ => none

/-- The handler of CLEAR BLOCK (01 R23). -/
def handleClearBlock (t : State) (r : Request) : Option Answer :=
  match r with
  | .clearBlock bay unit => some (t.clearBlock bay unit)
  | _ => none

/-- The handler of READ RESUME (07 R143). -/
def handleReadResume (t : State) (r : Request) : Option Answer :=
  match r with
  | .readResume place => some (t.readResume place)
  | _ => none

/-- The handler of READ COUNTERS (08 R154). -/
def handleReadCounters (t : State) (r : Request) : Option Answer :=
  match r with
  | .readCounters group number clear => some (t.readCounters group number clear)
  | _ => none

/-- The handler of SET NOTICE MASK (08 R155). -/
def handleSetNoticeMask (t : State) (r : Request) : Option Answer :=
  match r with
  | .setNoticeMask mask => some (t.setMask mask)
  | _ => none

/-- The handler of RESET BAY (07 R138). -/
def handleResetBay (t : State) (r : Request) : Option Answer :=
  match r with
  | .resetBay bay => some (t.resetBay bay)
  | _ => none

/-- The handler of RESET BRIDGE (08 R163). -/
def handleResetBridge (t : State) (r : Request) : Option Answer :=
  match r with
  | .resetBridge => some (t.halt)
  | _ => none

/-- SET CLOCK (04 R75). -/
def execSetClock (s : State) : Result := .next (s.execute handleSetClock)

/-- READ STATUS (08 R150). -/
def execReadStatus (s : State) : Result := .next (s.execute handleReadStatus)

/-- WRITE CONFIG (08 R151). -/
def execWriteConfig (s : State) : Result := .next (s.execute handleWriteConfig)

/-- READ CONFIG (08 R152). -/
def execReadConfig (s : State) : Result := .next (s.execute handleReadConfig)

/-- OPEN STREAM (02 R27). -/
def execOpenStream (s : State) : Result := .next (s.execute handleOpenStream)

/-- CLOSE STREAM (02 R28). -/
def execCloseStream (s : State) : Result := .next (s.execute handleCloseStream)

/-- SET LEVEL (02 R29). -/
def execSetLevel (s : State) : Result := .next (s.execute handleSetLevel)

/-- WRITE ENTRY (01 R4, R5). -/
def execWriteEntry (s : State) : Result := .next (s.execute handleWriteEntry)

/-- READ ENTRY (01 R7). -/
def execReadEntry (s : State) : Result := .next (s.execute handleReadEntry)

/-- WITHDRAW ENTRY (01 R8). -/
def execWithdrawEntry (s : State) : Result := .next (s.execute handleWithdrawEntry)

/-- RELEASE ENTRY (01 R9). -/
def execReleaseEntry (s : State) : Result := .next (s.execute handleReleaseEntry)

/-- LOAD DEPARTURE (04 R78). -/
def execLoadDeparture (s : State) : Result := .next (s.execute handleLoadDeparture)

/-- READ BAY (08 R153). -/
def execReadBay (s : State) : Result := .next (s.execute handleReadBay)

/-- READ JOB (03 R72). -/
def execReadJob (s : State) : Result := .next (s.execute handleReadJob)

/-- READ INVENTORY (01 R11). -/
def execReadInventory (s : State) : Result := .next (s.execute handleReadInventory)

/-- CLEAR BLOCK (01 R23). -/
def execClearBlock (s : State) : Result := .next (s.execute handleClearBlock)

/-- READ RESUME (07 R143). -/
def execReadResume (s : State) : Result := .next (s.execute handleReadResume)

/-- READ COUNTERS (08 R154). -/
def execReadCounters (s : State) : Result := .next (s.execute handleReadCounters)

/-- SET NOTICE MASK (08 R155). -/
def execSetNoticeMask (s : State) : Result := .next (s.execute handleSetNoticeMask)

/-- RESET BAY (07 R138). -/
def execResetBay (s : State) : Result := .next (s.execute handleResetBay)

/-- RESET BRIDGE (08 R163): when the link is DOWN the response is discarded at its placing, and the
reset begins at once. -/
def execResetBridge (s : State) : Result :=
  let t := s.execute handleResetBridge
  if t.mgmt.halted && !s.mgmt.halted && !s.uplink.up then .next t.resetByRequest else .next t

end Sys2Proof.Machine
end

