-- ==== Sys2Proof/Machine/Transmit.lean ====
section
/-! DEFINITION. The bay transmitter: what happens when it takes its next frame for the line
(06 R123 to R126, 03 R55, R64, R66, 05 R93, R96). A command whose frame is not the transmitter's
choice changes nothing (log 6). -/

namespace Sys2Proof.Machine

/-- A frame taken for a bay's line; it stays there until the next one or the next idle step
(06 R123, log 7). -/
def State.onLine (s : State) (b : BayId) (f : BayFrame) : State :=
  s.modPort b fun x => { x with line := some f }

/-- The CAPS that waits is sent, with the bridge number, the bay and its maximum rate as they stand
(06 R111). In PROBING the time to the next one starts (log 11). -/
def State.sendCaps (s : State) (b : BayId) : State :=
  match (s.bay b).txChoice with
  | some (.link .caps) =>
    (s.modPort b fun x =>
      { x with linkFrame := none,
               capsAge := if x.phase = .probing then some 0 else x.capsAge }).onLine b
      (.caps s.uplink.bridgeNumber b (s.bay b).maxRate)
  | _ => s

/-- The RETRAIN that waits is sent: the port is SWITCHING at the chosen rate, with one attempt more
and the switch timer running (06 R111, R112). -/
def State.sendRetrain (s : State) (b : BayId) : State :=
  match (s.bay b).txChoice with
  | some (.link (.retrain r)) =>
    (s.modPort b fun x =>
      { x with linkFrame := none, phase := .switching, lineRate := r,
               switchAttempts := x.switchAttempts + 1, capsAge := none,
               switchTimer := some (s.startTimer Config.switchTime) }).onLine b (.retrain r)
  | _ => s

/-- The oldest job control frame leaves the queue. -/
def State.popControl (s : State) (b : BayId) : State :=
  s.modPort b fun x => { x with control := x.control.tail }

/-- A job control frame sent: it leaves the queue, stands on the line and is counted (06 R124). -/
def State.controlSent (s : State) (b : BayId) (f : ControlFrame) : State :=
  ((s.popControl b).onLine b (.control f)).bump b .controlFramesSent

/-- A CHANNEL OPEN sent: the open timer starts (03 R55, R57). -/
def State.sendChannelOpen (s : State) (b : BayId) : State :=
  match (s.bay b).txChoice with
  | some (.control (.channelOpen c tag i lastLength start)) =>
    (s.controlSent b (.channelOpen c tag i lastLength start)).modChannel b c fun ch =>
      { ch with openTimer := some (s.startTimer s.config.openTimeout) }
  | _ => s

/-- A CHANNEL CLOSE sent: the close timer starts (03 R66). -/
def State.sendChannelClose (s : State) (b : BayId) : State :=
  match (s.bay b).txChoice with
  | some (.control (.channelClose c tag check units)) =>
    (s.controlSent b (.channelClose c tag check units)).modChannel b c fun ch =>
      { ch with closeTimer := some (s.startTimer (s.config.closeTimeout * 1000)) }
  | _ => s

/-- The ACTIVATE taken for the line is judged once more, and is sent or discarded (05 R93). -/
def State.sendActivateFrame (s : State) (b : BayId) : State :=
  match (s.bay b).txChoice with
  | some (.control (.activate u target)) =>
    match (s.bay b).activation with
    | .selected t gone =>
      let s1 := s.popControl b
      let r := s1.sendActivate b t gone
      if r.2 then (r.1.onLine b (.control (.activate u target))).bump b .controlFramesSent else r.1
    | .idle => s.popControl b
    | .activating .. => s.popControl b
    | .reverting .. => s.popControl b
  | _ => s

/-- A REVERT sent: the activation timer starts again (05 R96). -/
def State.sendRevert (s : State) (b : BayId) : State :=
  match (s.bay b).txChoice with
  | some (.control (.revert u previous)) =>
    let s1 := (s.controlSent b (.revert u previous)).bump b .revertsSent
    match (s.bay b).activation with
    | .reverting t prev _ => s1.setActivation b (.reverting t prev (some s.activationTimer))
    | .idle => s1
    | .selected .. => s1
    | .activating .. => s1
  | _ => s

/-- An INVENTORY REQUEST sent (06 R124). -/
def State.sendInventoryRequest (s : State) (b : BayId) : State :=
  match (s.bay b).txChoice with
  | some (.control (.inventoryRequest byActivation)) =>
    s.controlSent b (.inventoryRequest byActivation)
  | _ => s

/-- The block run count after a block frame: it rises, up to 8, while a PASS-DOWN waits
(06 R125). -/
def Port.countBlock (x : Port) : Port :=
  if x.passDown.isEmpty then x else { x with blockRun := min Config.blockRun (x.blockRun + 1) }

/-- A block frame sent (03 R64, 02 R37): the entry leaves the queue for the channel's in-flight list,
the channel's credit falls, the block becomes the probe of a bay without one, and the bay leaves the
slot. -/
def State.sendEntry (s : State) (b : BayId) (e : TxEntry) (slot : Slot) : State :=
  let s1 := s.modBay b fun x =>
    { x with txQueue := x.txQueue.filter (· ≠ e), port := x.port.countBlock }
  let s2 := s1.modChannel b e.channel fun ch =>
    { ch with credit := ch.credit - 1,
              inFlight := ch.inFlight ++ [⟨slot.sequence, s.clock.usec, s.clock.ticks⟩] }
  let s3 := (s2.startProbe b e.channel slot.sequence).onLine b
    (.block e.channel slot.sequence slot.payload)
  (s3.bump b .blocksSent).leaveSlot b e.slot

/-- The block frame that the transmitter takes (06 R123). -/
def State.sendBlock (s : State) (b : BayId) : State :=
  match (s.bay b).txChoice with
  | some (.block e) =>
    match s.pool.get e.slot with
    | none => s
    | some slot => s.sendEntry b e slot
  | _ => s

/-- The oldest PASS-DOWN frame sent: the block run count becomes 0 (06 R125, R126). -/
def State.sendPassDown (s : State) (b : BayId) : State :=
  match (s.bay b).txChoice with
  | some (.passDown body) =>
    ((s.modPort b fun x => { x with passDown := x.passDown.tail, blockRun := 0 }).onLine b
      (.passDown body)).bump b .passDownSent
  | _ => s

end Sys2Proof.Machine
end

