-- ==== Sys2Proof/Machine/SendCommands.lean ====
section
/-! DEFINITION. The bay transmitter takes its next frame for the line (06 R123). -/

namespace Sys2Proof.Machine

/-- SEND_CAPS (06 R111). -/
def execSendCaps (b : BayId) (s : State) : Result := .next (s.sendCaps b)

/-- SEND_RETRAIN (06 R111, R112). -/
def execSendRetrain (b : BayId) (s : State) : Result := .next (s.sendRetrain b)

/-- SEND_CHANNEL_OPEN (03 R55). -/
def execSendChannelOpen (b : BayId) (s : State) : Result := .next (s.sendChannelOpen b)

/-- SEND_CHANNEL_CLOSE (03 R66). -/
def execSendChannelClose (b : BayId) (s : State) : Result := .next (s.sendChannelClose b)

/-- SEND_ACTIVATE (05 R93). -/
def execSendActivate (b : BayId) (s : State) : Result := .next (s.sendActivateFrame b)

/-- SEND_REVERT (05 R96). -/
def execSendRevert (b : BayId) (s : State) : Result := .next (s.sendRevert b)

/-- SEND_INVENTORY_REQUEST (06 R124). -/
def execSendInventoryRequest (b : BayId) (s : State) : Result := .next (s.sendInventoryRequest b)

/-- SEND_BLOCK (03 R64). -/
def execSendBlock (b : BayId) (s : State) : Result := .next (s.sendBlock b)

/-- SEND_PASS_DOWN (06 R126). -/
def execSendPassDown (b : BayId) (s : State) : Result := .next (s.sendPassDown b)

end Sys2Proof.Machine
end

