-- ==== Sys2Proof/Machine/TimerCommands.lean ====
section
/-! DEFINITION. Second events and expiries, each taken whenever what it names runs (log 2). -/

namespace Sys2Proof.Machine

/-- SECOND_EVENT (04 R74, log 3). -/
def execSecondEvent (s : State) : Result := .next s.rollSecond

/-- HOLD_LIMIT_EXPIRY (02 R38). -/
def execHoldLimitExpiry (slot : SlotId) (s : State) : Result := .next (s.detachSlot slot true)

/-- OPEN_TIMER_EXPIRY (03 R57). -/
def execOpenTimerExpiry (b : BayId) (c : ChannelId) (s : State) : Result := .next (s.openExpiry b c)

/-- RECEIPT_TIMEOUT (03 R65). -/
def execReceiptTimeout (b : BayId) (c : ChannelId) (s : State) : Result := .next (s.flightTimedOut b c)

/-- CLOSE_TIMER_EXPIRY (03 R68). -/
def execCloseTimerExpiry (b : BayId) (c : ChannelId) (s : State) : Result := .next (s.closeExpiry b c)

/-- ACTIVATION_FIRST_EXPIRY (05 R96). -/
def execActivationFirstExpiry (b : BayId) (s : State) : Result := .next (s.firstExpiry b)

/-- ACTIVATION_SECOND_EXPIRY (05 R97). -/
def execActivationSecondExpiry (b : BayId) (s : State) : Result := .next (s.secondExpiry b)

/-- SWITCH_TIMER_EXPIRY (06 R112). -/
def execSwitchTimerExpiry (b : BayId) (s : State) : Result := .next (s.switchFailed b)

/-- SWITCH_FALLBACK_EXPIRY (06 R112). -/
def execSwitchFallbackExpiry (b : BayId) (s : State) : Result := .next (s.fallbackFailed b)

/-- FORCED_PERIOD_END (06 R110). -/
def execForcedPeriodEnd (b : BayId) (s : State) : Result := .next (s.forcedOver b)

/-- CAPS_RESEND (06 R111). -/
def execCapsResend (b : BayId) (s : State) : Result := .next (s.resendCaps b)

/-- WATCHDOG_TWO_PERIODS (06 R120). -/
def execWatchdogTwoPeriods (b : BayId) (s : State) : Result := .next (s.watchdogTwo b)

/-- WATCHDOG_EIGHT_PERIODS (06 R121). -/
def execWatchdogEightPeriods (b : BayId) (s : State) : Result := .next (s.watchdogEight b)

/-- INTAKE_TIMER_EXPIRY (07 R130). -/
def execIntakeTimerExpiry (b : BayId) (s : State) : Result := .next (s.intakeExpired b)

/-- HOLDING_TIMER_EXPIRY (07 R136). -/
def execHoldingTimerExpiry (b : BayId) (s : State) : Result := .next (s.holdingExpired b)

end Sys2Proof.Machine
end

