-- ==== Sys2Proof/Machine/UplinkCommands.lean ====
section
/-! DEFINITION. Power, reset and uplink events, and the uplink transmitter (08). -/

namespace Sys2Proof.Machine

/-- POWER_ON_COMPLETE (08 R164). -/
def execPowerOnComplete (straps : BitVec 4) (s : State) : Result := .next (s.poweredOn straps)

/-- RESET_PIN_ASSERTED (08 R164). -/
def execResetPinAsserted (s : State) : Result := .next s.pinAsserted

/-- RESET_PIN_RELEASED (08 R164). -/
def execResetPinReleased (straps : BitVec 4) (s : State) : Result := .next (s.pinReleased straps)

/-- UPLINK_LINK_UP (08 R162). -/
def execUplinkLinkUp (s : State) : Result := .next s.linkUp

/-- UPLINK_LINK_DOWN (08 R162). -/
def execUplinkLinkDown (s : State) : Result := .next s.linkDown

/-- UPLINK_FRAME_REJECTED (08 R146). -/
def execUplinkFrameRejected (f : EthFrame) (s : State) : Result := .next (s.rejectFrame f)

/-- BLOCK (02 R30 to R35). -/
def execBlock (f : BlockFrame) (s : State) : Result := s.takeBlockFrame f

/-- REQUEST_ARRIVAL (08 R148). -/
def execRequestArrival (f : RequestFrame) (s : State) : Result := .next (s.takeRequest f)

/-- PASS_DOWN (08 R160). -/
def execPassDown (f : PassDownFrame) (s : State) : Result := .next (s.takePassDown f)

/-- SEND_RESPONSE (08 R159, R163). -/
def execSendResponse (s : State) : Result := .next s.sendResponse

/-- SEND_NOTICE (08 R157, R159). -/
def execSendNotice (s : State) : Result := .next s.sendNotice

/-- SEND_STREAM_STATUS (02 R46, R47, 08 R159). -/
def execSendStreamStatus (s : State) : Result := .next s.sendStreamStatus

/-- SEND_PASS_UP (08 R159). -/
def execSendPassUp (s : State) : Result := .next s.sendPassUp

end Sys2Proof.Machine
end

