-- ==== Sys2Proof/Machine/Dispatch.lean ====
section
/-! DEFINITION. A command's effect on everything but the queue of waiting commands: one arm per row
of spec/opcode_table.json. -/

namespace Sys2Proof.Machine

def exec (i : Instr) (s : State) : Host.Outcome State Fault Refusal :=
  match i with
  | .powerOnComplete straps => Sys2Proof.Machine.execPowerOnComplete straps s
  | .resetPinAsserted => Sys2Proof.Machine.execResetPinAsserted s
  | .resetPinReleased straps => Sys2Proof.Machine.execResetPinReleased straps s
  | .uplinkLinkUp => Sys2Proof.Machine.execUplinkLinkUp s
  | .uplinkLinkDown => Sys2Proof.Machine.execUplinkLinkDown s
  | .uplinkFrameRejected frame => Sys2Proof.Machine.execUplinkFrameRejected frame s
  | .block frame => Sys2Proof.Machine.execBlock frame s
  | .requestArrival frame => Sys2Proof.Machine.execRequestArrival frame s
  | .passDown frame => Sys2Proof.Machine.execPassDown frame s
  | .setClock => Sys2Proof.Machine.execSetClock s
  | .readStatus => Sys2Proof.Machine.execReadStatus s
  | .writeConfig => Sys2Proof.Machine.execWriteConfig s
  | .readConfig => Sys2Proof.Machine.execReadConfig s
  | .openStream => Sys2Proof.Machine.execOpenStream s
  | .closeStream => Sys2Proof.Machine.execCloseStream s
  | .setLevel => Sys2Proof.Machine.execSetLevel s
  | .writeEntry => Sys2Proof.Machine.execWriteEntry s
  | .readEntry => Sys2Proof.Machine.execReadEntry s
  | .withdrawEntry => Sys2Proof.Machine.execWithdrawEntry s
  | .releaseEntry => Sys2Proof.Machine.execReleaseEntry s
  | .loadDeparture => Sys2Proof.Machine.execLoadDeparture s
  | .readBay => Sys2Proof.Machine.execReadBay s
  | .readJob => Sys2Proof.Machine.execReadJob s
  | .readInventory => Sys2Proof.Machine.execReadInventory s
  | .clearBlock => Sys2Proof.Machine.execClearBlock s
  | .readResume => Sys2Proof.Machine.execReadResume s
  | .readCounters => Sys2Proof.Machine.execReadCounters s
  | .setNoticeMask => Sys2Proof.Machine.execSetNoticeMask s
  | .resetBay => Sys2Proof.Machine.execResetBay s
  | .resetBridge => Sys2Proof.Machine.execResetBridge s
  | .sendResponse => Sys2Proof.Machine.execSendResponse s
  | .sendNotice => Sys2Proof.Machine.execSendNotice s
  | .sendStreamStatus => Sys2Proof.Machine.execSendStreamStatus s
  | .sendPassUp => Sys2Proof.Machine.execSendPassUp s
  | .secondEvent => Sys2Proof.Machine.execSecondEvent s
  | .holdLimitExpiry slot => Sys2Proof.Machine.execHoldLimitExpiry slot s
  | .openTimerExpiry bay channel => Sys2Proof.Machine.execOpenTimerExpiry bay channel s
  | .receiptTimeout bay channel => Sys2Proof.Machine.execReceiptTimeout bay channel s
  | .closeTimerExpiry bay channel => Sys2Proof.Machine.execCloseTimerExpiry bay channel s
  | .activationFirstExpiry bay => Sys2Proof.Machine.execActivationFirstExpiry bay s
  | .activationSecondExpiry bay => Sys2Proof.Machine.execActivationSecondExpiry bay s
  | .switchTimerExpiry bay => Sys2Proof.Machine.execSwitchTimerExpiry bay s
  | .switchFallbackExpiry bay => Sys2Proof.Machine.execSwitchFallbackExpiry bay s
  | .forcedPeriodEnd bay => Sys2Proof.Machine.execForcedPeriodEnd bay s
  | .capsResend bay => Sys2Proof.Machine.execCapsResend bay s
  | .watchdogTwoPeriods bay => Sys2Proof.Machine.execWatchdogTwoPeriods bay s
  | .watchdogEightPeriods bay => Sys2Proof.Machine.execWatchdogEightPeriods bay s
  | .intakeTimerExpiry bay => Sys2Proof.Machine.execIntakeTimerExpiry bay s
  | .holdingTimerExpiry bay => Sys2Proof.Machine.execHoldingTimerExpiry bay s
  | .signalDetect bay => Sys2Proof.Machine.execSignalDetect bay s
  | .signalAtNewRate bay => Sys2Proof.Machine.execSignalAtNewRate bay s
  | .signalAtFallbackRate bay => Sys2Proof.Machine.execSignalAtFallbackRate bay s
  | .signalLost bay => Sys2Proof.Machine.execSignalLost bay s
  | .bayFrameError bay bytes => Sys2Proof.Machine.execBayFrameError bay bytes s
  | .frameCutShort bay => Sys2Proof.Machine.execFrameCutShort bay s
  | .agentCaps bay maxRate => Sys2Proof.Machine.execAgentCaps bay maxRate s
  | .hello bay frame => Sys2Proof.Machine.execHello bay frame s
  | .heartbeat bay vehicleState => Sys2Proof.Machine.execHeartbeat bay vehicleState s
  | .inventory bay items => Sys2Proof.Machine.execInventory bay items s
  | .openAck bay frame => Sys2Proof.Machine.execOpenAck bay frame s
  | .receipt bay frame => Sys2Proof.Machine.execReceipt bay frame s
  | .closeResult bay frame => Sys2Proof.Machine.execCloseResult bay frame s
  | .unitReport bay frame => Sys2Proof.Machine.execUnitReport bay frame s
  | .passUp bay body => Sys2Proof.Machine.execPassUp bay body s
  | .sendCaps bay => Sys2Proof.Machine.execSendCaps bay s
  | .sendRetrain bay => Sys2Proof.Machine.execSendRetrain bay s
  | .sendChannelOpen bay => Sys2Proof.Machine.execSendChannelOpen bay s
  | .sendChannelClose bay => Sys2Proof.Machine.execSendChannelClose bay s
  | .sendActivate bay => Sys2Proof.Machine.execSendActivate bay s
  | .sendRevert bay => Sys2Proof.Machine.execSendRevert bay s
  | .sendInventoryRequest bay => Sys2Proof.Machine.execSendInventoryRequest bay s
  | .sendBlock bay => Sys2Proof.Machine.execSendBlock bay s
  | .sendPassDown bay => Sys2Proof.Machine.execSendPassDown bay s

end Sys2Proof.Machine
end

