-- ==== Sys2Proof/Machine/Step.lean ====
section
/-! DEFINITION. One step of the bridge: the command at the front of the queue, or, when none waits,
one microsecond of the reference time base. -/

namespace Sys2Proof.Machine

/-- One step: the command at the front, with the queue's rest, or an idle step (log 1). -/
def step (s : State) : Host.Outcome State Fault Refusal :=
  match s.pending with
  | [] => .next s.idle
  | c :: rest => exec c { s with pending := rest }

/-- The state with the command that a word spells at the front of its queue. No word spells one
(log 26). -/
def State.withFetchWord (s : State) (nbits w : Nat) : State :=
  match decodeTableWord nbits w with
  | none => s
  | some c => { s with pending := c :: s.pending }

end Sys2Proof.Machine
end

