-- ==== Sys2Proof/Safety.lean ====
section
/-! DEFINITION. The terms the claims use: what holds of every state that a run reaches, and what a
command leaves as it was. -/

namespace Sys2Proof.Machine

/-! ## Invariants -/

/-- The pool's promise: the occupied slots and the credits held by all streams never exceed 128
(02 R40). -/
def State.poolPromise (s : State) : Prop := s.occupied + s.totalHeld ≤ Config.poolSlots

/-- The queues of the uplink port, the management unit and the notice queue are within their bounds
(08 R145, R148, R156). -/
def State.queuesBounded (s : State) : Prop :=
  s.uplink.responses.length ≤ Config.responses ∧ s.uplink.passUps.length ≤ Config.passUpFrames ∧
    s.mgmt.queue.length ≤ Config.requests ∧ s.notices.queue.length ≤ Config.noticeSlots

/-- The configuration values lie in the ranges of 08's table. -/
def State.configInRange (s : State) : Prop :=
  ∀ p : Parameter, (s.settingRange p).1 ≤ s.setting p ∧ s.setting p ≤ (s.settingRange p).2

/-! ## Frames -/

/-- The tables and values that no bay, clock or uplink traffic changes: configuration, manifest,
departures, straps with the number of their reads, and the cause of the last reset. -/
def State.sameLoads (s t : State) : Prop :=
  t.config = s.config ∧ t.manifest = s.manifest ∧ t.departures = s.departures ∧
    t.straps = s.straps ∧ t.strapReads = s.strapReads ∧ t.resetCause = s.resetCause ∧
    t.resetHeld = s.resetHeld

/-- The uplink side: port, management unit and the order of due statuses. -/
def State.sameUplink (s t : State) : Prop :=
  t.uplink = s.uplink ∧ t.mgmt = s.mgmt ∧ t.due = s.due

/-- The blocks' side: streams, pool and resume records. -/
def State.sameBlocks (s t : State) : Prop :=
  t.streams = s.streams ∧ t.pool = s.pool ∧ t.resume = s.resume

/-- Everything outside the bays, the queue of waiting commands included. -/
def State.sameButBays (s t : State) : Prop :=
  t.pending = s.pending ∧ t.clock = s.clock ∧ s.sameLoads t ∧ s.sameUplink t ∧ s.sameBlocks t ∧
    t.notices = s.notices ∧ t.counters = s.counters

/-- Every bay but one. -/
def State.sameOtherBays (s t : State) (b : BayId) : Prop := ∀ a, a ≠ b → t.bay a = s.bay a

/-- A bay but for its port and its counters. -/
def Bay.sameButPort (x y : Bay) : Prop :=
  y.ctl = x.ctl ∧ y.deadline = x.deadline ∧ y.activation = x.activation ∧
    y.inventory = x.inventory ∧ y.truncated = x.truncated ∧ y.jobs = x.jobs ∧
    y.endOrder = x.endOrder ∧ y.channels = x.channels ∧ y.openCounter = x.openCounter ∧
    y.txQueue = x.txQueue ∧ y.maxRate = x.maxRate

/-! ## Valid frames (06 R116, R117) -/

/-- The qualifier count after a valid frame: it rises by 1 up to the threshold. -/
def countAfter (threshold count : Nat) : Nat := if count < threshold then count + 1 else count

/-- A valid frame on a bay's link is taken in TRAINED and gains no qualification. -/
def State.hears (s : State) (b : BayId) : Prop :=
  (s.bay b).port.phase = .trained ∧
    ((s.bay b).port.qualified = true ∨
      countAfter s.config.threshold (s.bay b).port.qualCount < s.config.threshold)

/-- A bay whose port has taken a valid frame that gains no qualification. -/
def Bay.heard (x : Bay) (threshold : Nat) : Bay :=
  { x with port := { x.port with watchdog := 0,
                                 qualCount := countAfter threshold x.port.qualCount },
           counters := x.counters.modify BayCounter.validFrames.index satInc }

/-- The next valid frame on a bay's link brings the count of an unqualified port in TRAINED to the
threshold, a lowered one and one of 0 among them (06 R117). -/
def State.qualifiesNext (s : State) (b : BayId) : Prop :=
  (s.bay b).port.phase = .trained ∧ (s.bay b).port.qualified = false ∧
    s.config.threshold ≤ (s.bay b).port.qualCount + 1

/-- A bay whose port has gained its qualification by a valid frame: the count stands at the threshold,
or where it stood above a lowered one. -/
def Bay.gained (x : Bay) (threshold : Nat) : Bay :=
  { x with port := { x.port with watchdog := 0, qualCount := max threshold x.port.qualCount,
                                 qualified := true },
           counters := x.counters.modify BayCounter.qualificationsGained.index satInc }

/-- A valid frame of the agent on a bay's link, of any of its nine kinds and within its kind's bounds
(06 R115, R116). -/
def validFrameOn (b : BayId) (i : Instr) : Prop :=
  (∃ code, i = .agentCaps b code) ∨ (∃ h, i = .hello b h) ∨ (∃ v, i = .heartbeat b v) ∨
    (∃ items, i = .inventory b items ∧ items.length ≤ 64) ∨ (∃ f, i = .openAck b f) ∨
    (∃ f, i = .receipt b f ∧ 1 ≤ f.sequences.length ∧ f.sequences.length ≤ 8) ∨
    (∃ f, i = .closeResult b f ∧ f.items.length ≤ 64) ∨ (∃ f, i = .unitReport b f) ∨
    ∃ body, i = .passUp b body ∧ 1 ≤ body.length ∧ body.length ≤ 1024

/-! ## Requests (08 R149) -/

/-- The management unit may execute the request at the head of its queue: no reset is in progress,
it has not halted, and the link is DOWN or a response can be queued (08 R149). -/
def State.serves (s : State) (q : QueuedRequest) (rest : List QueuedRequest) : Prop :=
  s.resetHeld = false ∧ s.mgmt.halted = false ∧ s.mgmt.queue = q :: rest ∧
    (s.uplink.up = false ∨ s.uplink.responses.length < Config.responses)

/-- The state once the request at the head has been taken from the queue. -/
def State.taken (s : State) (rest : List QueuedRequest) : State :=
  { s with mgmt := { s.mgmt with queue := rest } }

/-- The state once the response to a request is placed: at the queue's tail when the link is UP, and
discarded and counted when it is DOWN (08 R149). -/
def State.replied (s : State) (q : QueuedRequest) (code : Code) (body : List Byte) : State :=
  if s.uplink.up then
    { s with uplink := { s.uplink with responses := s.uplink.responses ++
        [⟨q.src, s.config.protocolType, q.request.kind, q.tag, code, body⟩] } }
  else { s with counters := s.counters.modify BridgeCounter.responsesDiscarded.index satInc }

/-! ## Deadlines (04 R84, R85) -/

/-- The deadline state of a bay as a recomputation at the clock of `s` leaves it: the service time
and the probe stay, R is the remaining work, N the estimate in whole seconds rounded up, and S and
the urgency follow from the pull-out time where the bay has one. -/
def State.deadlineNow (s : State) (b : BayId) : Deadline :=
  let x := s.bay b
  let n := min ((x.remainingWork * x.deadline.serviceTime + 999999) / 1000000) 4294967295
  match s.clock.valid, s.pullOut x.ctl.vehicle with
  | true, some p =>
    if x.remainingWork = 0 then
      { x.deadline with urgency := 0, remaining := 0, estimate := n, slack := none }
    else
      let slack : Int := ((p.toNat - s.clock.seconds.toNat : Nat) : Int) - n - s.config.guardTime
      { x.deadline with
        urgency := if slack ≤ 0 then 3 else if slack < s.config.th2 then 2
          else if slack < s.config.th1 then 1 else 0,
        remaining := x.remainingWork, estimate := n, slack := some slack }
  | _, _ => { x.deadline with urgency := 0, remaining := x.remainingWork, estimate := n, slack := none }

/-- A LATE notice that a recomputation at the clock of `s` posts for a bay: its urgency becomes 3 and
was not 3 (04 R86). -/
def State.lateNow (s : State) (b : BayId) : Option Notice :=
  let d := s.deadlineNow b
  match d.slack, s.pullOut (s.bay b).ctl.vehicle with
  | some slack, some p =>
    if d.urgency = 3 ∧ (s.bay b).deadline.urgency ≠ 3 then
      some (.late b (s.bay b).ctl.vehicle p s.clock.seconds d.remaining d.estimate slack)
    else none
  | _, _ => none

/-- A bay with one counter incremented. -/
def Bay.counted (x : Bay) (c : BayCounter) : Bay :=
  { x with counters := x.counters.modify c.index satInc }

/-! ## Resume records (07 R137, R140, R141) -/

/-- The offsets of a job that its bay holds queued or in flight, in the order of log 28. -/
def Bay.givenUp (x : Bay) (p : Place) (j : Job) : List Nat :=
  (x.txQueue.filter (·.place = p)).map (·.offset) ++
    (x.channels.filter (·.job = some p)).flatMap fun ch => ch.inFlight.map fun f =>
      j.offsetOf f.sequence

/-- A gap list once an offset has been made needed (03 R60, R62). -/
def gapsNeeding (gaps : List Gap) (d : Nat) : List Gap :=
  if inGaps gaps d then gaps else (addRange gaps ⟨d, d⟩).1

/-- The resume records that a bay's jobs leave at its teardown or at a reset, in ascending record
place: one for each job in QUEUED, OPENING, RECEIVING or CLOSING with a cursor above 0, its queued
and in-flight offsets needed again, when the bay holds a vehicle (07 R137, R140). -/
def State.savedRecords (s : State) (b : BayId) : List ResumeRecord :=
  match (s.bay b).ctl.vehicle with
  | none => []
  | some v =>
    ((s.bay b).jobList.filter fun pj => pj.2.resumable).map fun pj =>
      { vehicle := v, identity := pj.2.identity, start := pj.2.start, cursor := pj.2.cursor,
        gaps := ((s.bay b).givenUp pj.1 pj.2).foldl gapsNeeding pj.2.gaps,
        created := s.clock.seconds }

/-- The place a resume record is written to: that of the record of the same vehicle and image, else
the lowest vacant one, else that of the record written earliest (07 R141). -/
def ResumeTable.placeFor (t : ResumeTable) (r : ResumeRecord) : Option ResumeId :=
  (t.lookup r.vehicle r.identity).or ((t.places.find Option.isNone).or t.order.head?)

/-- The resume table once a record has been written: it is then the latest written (07 R141). -/
def ResumeTable.written (t : ResumeTable) (r : ResumeRecord) : ResumeTable :=
  match t.placeFor r with
  | none => t
  | some p => { places := t.places.set p (some r), order := t.order.filter (· ≠ p) ++ [p] }

/-! ## Activation (05 R90, R91) -/

/-- The activation window is open: start and end are the same, or the clock is valid and the second
of day lies from the start up to the end, over midnight when the start is the later (05 R91). -/
def State.windowNow (s : State) : Prop :=
  let t := s.clock.seconds.toNat % 86400
  s.config.windowStart = s.config.windowEnd ∨
    (s.clock.valid = true ∧
      ((s.config.windowStart < s.config.windowEnd ∧ s.config.windowStart ≤ t ∧
          t < s.config.windowEnd) ∨
        (s.config.windowEnd < s.config.windowStart ∧
          (s.config.windowStart ≤ t ∨ t < s.config.windowEnd))))

/-- A member of a bay's job meets the conditions 1 to 3 and 6 of 05 R90, which do not look at the bay
state and the vehicle state. -/
def State.mayActivate (s : State) (b : BayId) (j : Job) (m : Member) : Prop :=
  m.state = .staged ∧ j.live = true ∧
    (∃ r, (s.bay b).unit? m.unit = some r ∧ r.standby = some j.identity.target) ∧
    (∃ i, m.link = some i ∧ (s.entry i).active = true ∧
      ((s.entry i).fields.policy = .immediate ∨ (s.entry i).released = true)) ∧
    s.windowNow

/-- Every IDLE activation controller's choice in a bay: a member that may be activated, with the
lowest unit address among those that may, and the place and record of its job (05 R92). -/
def State.choice (s : State) (b : BayId) (p : Place) (j : Job) (m : Member) : Prop :=
  s.job b p = some j ∧ m ∈ j.members ∧ s.mayActivate b j m ∧
    ∀ q k n, s.job b q = some k → n ∈ k.members → s.mayActivate b k n →
      m.unit < n.unit ∨ (q = p ∧ n = m)

/-- What the activation controller of a bay shows once the activation of a unit has ended while its
job goes on: it is IDLE, or in SERVING SELECTED again; with the vehicle PARKED there, and no member of
that unit left STAGED, it is SELECTED with the choice that the bay then offers, its ACTIVATE waiting,
and IDLE where no member may be activated (05 R92, R99 step 5). -/
def State.selectsNext (s t : State) (b : BayId) (u : UnitAddr) : Prop :=
  ((t.bay b).activation = .idle ∨
    ((s.bay b).ctl.state = .serving ∧ (s.bay b).ctl.vehicleState = some .parked ∧
      ∃ d, (t.bay b).activation = .selected d false)) ∧
  ((s.bay b).ctl.state = .serving → (s.bay b).ctl.vehicleState = some .parked →
    (∀ p j m, s.job b p = some j → m ∈ j.members → m.unit = u → m.state ≠ .staged) →
    (∀ p j m, s.choice b p j m →
      (t.bay b).activation = .selected ⟨m.unit, p, j.identity.target⟩ false ∧
        ControlFrame.activate m.unit j.identity.target ∈ (t.bay b).port.control) ∧
    ((∀ p j m, s.job b p = some j → m ∈ j.members → ¬ s.mayActivate b j m) →
      (t.bay b).activation = .idle))

/-! ## Withholding and returning (03 R69, R70, 02 R41 to R43) -/

/-- What the streams show when a bay has left SERVING: an unsatisfied OPEN stream of one of its
RECEIVING jobs that no other bay's job wants is satisfied, its credit revoked, its resume point at the
carousel position, its age 0 and its STREAM STATUS due, and STREAM SATISFIED is posted where the mask
lets it and the notice queue has room for all that one step can post (02 R42). -/
def State.withheld (s t : State) (b : BayId) : Prop :=
  ∀ (p : Place) (j : Job), s.job b p = some j → j.state = .receiving →
    (s.stream j.stream).isOpen = true → (s.stream j.stream).satisfied = false →
    (∀ a, a ≠ b → ∀ q k, s.job a q = some k → k.stream = j.stream → (s.bay a).jobWants k = false) →
    t.stream j.stream = { s.stream j.stream with
      limit := (s.stream j.stream).accepted, resume := (s.stream j.stream).position, age := 0,
      satisfied := true } ∧
    j.stream ∈ t.due ∧
    (s.notices.mask.getLsbD 6 = true → s.notices.queue.length + 17 ≤ 32 →
      ⟨s.clock.seconds, s.clock.valid, .streamSatisfied j.stream (s.stream j.stream).accepted
        (s.stream j.stream).position⟩ ∈ t.notices.queue)

/-- What a bay shows when it has returned to SERVING: no job is deferred; an OPEN stream of which a
RECEIVING job wants blocks is not satisfied, and one that was has age 0 and its STREAM STATUS due
(02 R43); no QUEUED job waits beside a free channel (03 R54); and where every unit already has a job,
the builder changes nothing: the inventory stays, and every job that was not QUEUED stays but for its
deferred flag. -/
def State.returned (s t : State) (b : BayId) : Prop :=
  (∀ p j, t.job b p = some j → j.deferred = false) ∧
  (∀ p j, s.job b p = some j → j.state = .receiving → (s.stream j.stream).isOpen = true →
    (j.cursor < j.identity.length ∨ j.gaps ≠ []) →
    (t.stream j.stream).satisfied = false ∧
      ((s.stream j.stream).satisfied = true →
        (t.stream j.stream).age = 0 ∧ j.stream ∈ t.due)) ∧
  ((∀ c ch, t.channel b c = some ch → ch.job ≠ none) ∨
    ∀ p j, t.job b p = some j → j.state ≠ .queued) ∧
  ((∀ r ∈ (s.bay b).inventory, r.job ≠ none) →
    (t.bay b).inventory = (s.bay b).inventory ∧
      ∀ p j, s.job b p = some j → j.state ≠ .queued →
        t.job b p = some { j with deferred := false }) ∧
  t.pool = s.pool

/-! ## Work lists (01 R17, R19 to R21) -/

/-- The disposition of a unit that is not blocked, by its governing entry (01 R17). -/
def State.dispositionOf (s : State) (u : UnitRecord) : Disposition :=
  match s.governing u.key with
  | none => .unmanaged
  | some i =>
    if u.running = (s.entry i).fields.target then .current
    else if (s.entry i).fields.target < u.running ∧ (s.entry i).fields.downgrade = false then .held
    else if u.standby = some (s.entry i).fields.target then .stageReady
    else .needsImage

/-! ## Blocks offered and resume points (02 R34, R35, R45, 03 R63, R71) -/

/-- A bay's job in place p, holding channel c, takes the block of sequence n at offset d (03 R63): the
bay is SERVING with room in its queue, the job is RECEIVING the stream, the first of the bay that is,
and the offset is not yet covered, or lies in a gap range and is neither queued nor in flight. -/
def State.takesBlock (s : State) (b : BayId) (st : StreamId) (n : Nat) (p : Place) (c : ChannelId)
    (d : Nat) : Prop :=
  (s.bay b).ctl.state = .serving ∧ (s.bay b).txQueue.length < 32 ∧
    ∃ j, s.job b p = some j ∧ j.stream = st ∧ j.state = .receiving ∧ j.channel = some c ∧
      (∀ q k, q < p → s.job b q = some k → k.stream = st → k.state ≠ .receiving) ∧
      d = j.offsetOf n ∧
      (j.cursor ≤ d ∨
        ((∃ g ∈ j.gaps, g.first ≤ d ∧ d ≤ g.last) ∧
          (∀ e ∈ (s.bay b).txQueue, e.place = p → e.offset ≠ d) ∧
          ∀ ch, s.channel b c = some ch → ∀ f ∈ ch.inFlight, j.offsetOf f.sequence ≠ d))

/-- n is the ring distance from the carousel position of a stream to the nearest point of some wanted
range: 0 when the position lies inside the range, and otherwise the distance to its first sequence
(03 R71). -/
def State.wantedAhead (s : State) (st : StreamId) (n : Nat) : Prop :=
  ∃ (b : BayId) (p : Place) (j : Job) (first last : Nat),
    (s.bay b).ctl.state = .serving ∧ s.job b p = some j ∧ j.stream = st ∧ j.state = .receiving ∧
      ((first = j.cursor ∧ last = j.identity.length - 1 ∧ j.cursor < j.identity.length) ∨
        (⟨first, last⟩ : Gap) ∈ j.gaps) ∧
      n = if first ≤ j.offsetOf (s.stream st).position ∧ j.offsetOf (s.stream st).position ≤ last
        then 0
        else ringDist j.identity.length (s.stream st).position (j.sequenceOf first)

/-- A stream is judged (02 R42, R43, R45): it is satisfied exactly when no job wants its blocks, and
its resume point is the nearest wanted sequence ahead of the carousel position, or the position itself
when none is wanted. -/
def State.judged (s : State) (st : StreamId) : Prop :=
  ((s.stream st).satisfied = true ↔ ∀ n, ¬ s.wantedAhead st n) ∧
    ((∀ n, ¬ s.wantedAhead st n) → (s.stream st).resume = (s.stream st).position) ∧
    ∀ n, s.wantedAhead st n → (∀ m, s.wantedAhead st m → n ≤ m) →
      (s.stream st).resume = ((s.stream st).position + n) % (s.stream st).length

/-! ## Receipts (03 R66) -/

/-- What a RECEIPT has come to so far: the job's gap ranges, its channel's in-flight list and credit,
and how many sequences have been applied, found duplicate, or had their split declined. -/
structure Receipted where
  gaps : List Gap
  flights : List Flight
  credit : Nat
  applied : Nat
  duplicates : Nat
  declined : Nat
deriving DecidableEq, Repr

/-- One sequence of a RECEIPT judged, by the first case that holds: in flight, late, or otherwise
(03 R66). -/
def Receipted.take (j : Job) (x : Receipted) (q : Half) : Receipted :=
  let r := removeOffset x.gaps (j.offsetOf q.toNat)
  let declined := x.declined + if r.2 then 1 else 0
  if ∃ f ∈ x.flights, f.sequence = q.toNat then
    { x with gaps := r.1, flights := removeFlight q.toNat x.flights, credit := x.credit + 1,
             applied := x.applied + 1, declined := declined }
  else if q.toNat < j.identity.length ∧ ∃ g ∈ x.gaps, g.first ≤ j.offsetOf q.toNat ∧
      j.offsetOf q.toNat ≤ g.last then
    { x with gaps := r.1, applied := x.applied + 1, declined := declined }
  else { x with duplicates := x.duplicates + 1 }

/-- All the sequences of a RECEIPT judged in frame order, from the job and its channel as they
stand. -/
def receiptOf (j : Job) (ch : Channel) (sequences : List Half) : Receipted :=
  sequences.foldl (Receipted.take j)
    { gaps := j.gaps, flights := ch.inFlight, credit := ch.credit, applied := 0, duplicates := 0,
      declined := 0 }

/-! ## The end of a job (03 R51) -/

/-- The outcome of a job whose members are all terminal: FAILED with the check-failed mark, else
COMPLETE when all are DONE, CANCELLED when all are CANCELLED, and PARTIAL otherwise. -/
def Job.endsAs (j : Job) : JobState :=
  if j.checkFailed then .failed
  else if ∀ m ∈ j.members, m.state = .done then .complete
  else if ∀ m ∈ j.members, m.state = .cancelled then .cancelled
  else .partialDone

end Sys2Proof.Machine
end

