-- ==== Sys2Proof/Certificates/Slice0/Obligations.lean ====
section
/-! DEFINITION. The statements about the bridge: what each command does, in the rules' own terms, and what
every step keeps. -/

open Sys2Proof Sys2Proof.Machine

/-! ## The machine -/

/-- One step takes the command at the front of the queue and runs it with the queue's rest: the
model's form of a command's arrival. -/
def Obligations.StepTakesFront : Prop :=
  ∀ (c : Instr) (rest : List Instr) (s : State),
    step { s with pending := c :: rest } = exec c { s with pending := rest }

/-- 04 R76 with log 1: on an empty queue a step is one microsecond of the reference time base. Away
from a millisecond tick it only counts the microsecond and clears the lines, which is the model's
choice (logs 1 and 7). -/
def Obligations.IdleMicrosecond : Prop :=
  ∀ s : State, s.pending = [] → s.clock.phase + 1 < 1000 →
    step s = .next { s with
      clock := { s.clock with usec := s.clock.usec + 1, phase := s.clock.phase + 1 },
      uplink := { s.uplink with line := none },
      bays := s.bays.map fun x => { x with port := { x.port with line := none } } }

/-- 02 R40, 08: after reset the pool's promise holds, every queue is within its bound and every
configuration value within its range. -/
def Obligations.InvariantsAtReset : Prop :=
  State.reset.poolPromise ∧ State.reset.queuesBounded ∧ State.reset.configInRange

/-- 02 R40: the number of occupied pool slots plus the credits held by all streams never exceeds
128: every step keeps it, whatever the state and the command. -/
def Obligations.PoolPromiseKept : Prop :=
  ∀ s t : State, s.poolPromise → step s = .next t → t.poolPromise

/-- 08 R145, R148, R151, R156: every step keeps the response, PASS-UP, request and notice queues
within 8, 16, 4 and 32, and every configuration value within its range. -/
def Obligations.BoundsKept : Prop :=
  (∀ s t : State, s.queuesBounded → step s = .next t → t.queuesBounded) ∧
  (∀ s t : State, s.configInRange → step s = .next t → t.configInRange)

/-! ## Power, reset and uplink -/

/-- 08 R164, R158: power-on completes with every table at its power-on value, the bridge number read
from the straps, and the one notice BRIDGE START of cause POWER-ON queued, stamped with the invalid
clock. The queue of waiting commands and the number of strap readings are the model's own (logs 4
and 5), and so are four values that no rule gives here: no signal detected (log 12, DESIGN CHOICE),
the tick count and the microseconds since the last tick at 0 (log 20, DESIGN CHOICE), and the switch
attempts and the watchdog age of every port at 0 (log 30, DESIGN CHOICE). -/
def Obligations.PowerOnCompletes : Prop :=
  ∀ (s : State) (straps : BitVec 4),
    exec (.powerOnComplete straps) s = .next { State.reset with
      pending := s.pending, straps := straps, strapReads := s.strapReads,
      uplink := { State.reset.uplink with bridgeNumber := straps },
      notices := { State.reset.notices with
        queue := [⟨0, false, .bridgeStart .powerOn straps false 0⟩] } }

/-- 08 R164, 07 R140, R141: the reset pin driven low clears the bridge to its power-on values, with
every port in FORCED, except the yard clock's seconds, sub-count and validity, the physical link,
and the resume table, into which the jobs of every bay holding a vehicle are written as R141 places
them; the frame on the line is cut off. Its release completes the reset: bridge number from the
straps, cause PIN, 100 ms of FORCED started on every port, and BRIDGE START posted. Five clauses are
the model's: the switch attempts and the watchdog age of every port at 0, which 06 R108 leaves open
(log 30, DESIGN CHOICE), the tick count, a field of the model, going on (log 20, DESIGN CHOICE), the
order in which a full gap list takes the offsets needed again (log 28, DESIGN CHOICE), the signal
level that a port keeps (log 12, DESIGN CHOICE), and the link state and beenUp taken from the
physical level at the release, with the state held while the pin is low (logs 13 and 22, DEDUCED).
-/
def Obligations.ResetPin : Prop :=
  ∀ s : State,
    (s.resetHeld = false →
      ∃ t, exec .resetPinAsserted s = .next t ∧
        (∀ b, t.bay b = { Bay.initial with port := { Port.initial with
          phase := .forced, signal := (s.bay b).port.signal } }) ∧
        t.resetHeld = true ∧ t.clock = { s.clock with usec := 0 } ∧
        t.config = State.reset.config ∧ t.manifest = State.reset.manifest ∧
        t.streams = State.reset.streams ∧ t.due = [] ∧ t.pool = State.reset.pool ∧
        t.departures = State.reset.departures ∧ t.mgmt = State.reset.mgmt ∧
        t.notices = State.reset.notices ∧ t.counters = State.reset.counters ∧
        t.uplink.line = none ∧ t.uplink.server = none ∧ t.uplink.responses = [] ∧
        t.uplink.passUps = [] ∧ t.uplink.up = s.uplink.up ∧
        t.uplink.physical = s.uplink.physical ∧
        t.resume = (allBays.flatMap s.savedRecords).foldl ResumeTable.written s.resume) ∧
    (∀ straps : BitVec 4, s.resetHeld = true →
      exec (.resetPinReleased straps) s = .next (({ s with
        resetHeld := false, resetCause := .pin, straps := straps,
        uplink := { s.uplink with up := s.uplink.physical, beenUp := s.uplink.physical,
                                  bridgeNumber := straps },
        bays := s.bays.map fun x => { Bay.initial with port := { Port.initial with
          phase := .forced, signal := x.port.signal,
          forcedTimer := some ⟨s.clock.ticks, 100⟩ } } } : State).post
        (.bridgeStart .pin straps false s.resumeOccupied)))

/-- 08 R162: the first link since the reset only comes UP; a recovery also posts BRIDGE START with
the recovery indication and makes every OPEN stream's STREAM STATUS due (that a coming UP is a
recovery once the link has been up since the last reset is log 13, DEDUCED). A loss empties the
line, counting a frame cut, discards and counts every response, and counts a link loss; nothing else
changes. -/
def Obligations.UplinkLink : Prop :=
  ∀ s : State, s.resetHeld = false →
    (s.uplink.up = false → s.uplink.beenUp = false →
      exec .uplinkLinkUp s = .next { s with uplink := { s.uplink with
        physical := true, up := true, beenUp := true } }) ∧
    (s.uplink.up = false → s.uplink.beenUp = true →
      ∃ t, exec .uplinkLinkUp s = .next t ∧
        t.uplink = { s.uplink with physical := true, up := true } ∧
        t.notices = (s.post (.bridgeStart s.resetCause s.uplink.bridgeNumber true
          s.resumeOccupied)).notices ∧
        (∀ st, st ∈ t.due ↔ st ∈ s.due ∨ (s.stream st).isOpen = true) ∧
        { t with uplink := s.uplink, notices := s.notices, due := s.due, counters := s.counters } =
          s) ∧
    (s.uplink.up = true → s.mgmt.halted = false →
      ∃ t, exec .uplinkLinkDown s = .next t ∧
        t.uplink = { s.uplink with physical := false, up := false, line := none, responses := [] } ∧
        t.bridgeCounter .linkLosses = satInc (s.bridgeCounter .linkLosses) ∧
        t.bridgeCounter .responsesDiscarded =
          Nat.repeat satInc s.uplink.responses.length (s.bridgeCounter .responsesDiscarded) ∧
        t.bridgeCounter .framesCutAtLoss =
          (if s.uplink.line.isSome then satInc (s.bridgeCounter .framesCutAtLoss)
            else s.bridgeCounter .framesCutAtLoss) ∧
        { t with uplink := s.uplink, counters := s.counters } = s)

/-- 08 R146: an uplink frame that fails a test is counted by the first test it fails, in the order
check sequence, destination, protocol type, kind, length, and changes nothing else. That a new
protocol type is the one of test 3 from the execution of the write that stores it, while its
response still waits, is the model's choice (log 36, DESIGN CHOICE). -/
def Obligations.UplinkRejectionsCounted : Prop :=
  ∀ (s : State) (f : EthFrame), s.uplink.up = true → s.resetHeld = false →
    (f.checkGood = false →
      exec (.uplinkFrameRejected f) s = .next (s.count .uplinkFrameCheckErrors)) ∧
    (f.checkGood = true → f.dest ≠ s.station → f.dest ≠ BitVec.allOnes 48 →
      exec (.uplinkFrameRejected f) s = .next (s.count .uplinkNotAddressed)) ∧
    (f.checkGood = true → (f.dest = s.station ∨ f.dest = BitVec.allOnes 48) →
      (f.type ≠ s.config.protocolType →
        exec (.uplinkFrameRejected f) s = .next (s.count .uplinkOtherType)) ∧
      (f.type = s.config.protocolType →
        ((byteAt f.body 0 ≠ 1 ∧ byteAt f.body 0 ≠ 2 ∧ byteAt f.body 0 ≠ 3) →
          exec (.uplinkFrameRejected f) s = .next (s.count .yfpUnknownKinds)) ∧
        (((byteAt f.body 0 = 1 ∧ blockFits f.body = false) ∨
            (byteAt f.body 0 = 3 ∧ passDownFits f.body = false)) →
          exec (.uplinkFrameRejected f) s = .next (s.count .yfpLengthErrors))))

/-- 02 R30 to R33: a valid BLOCK is dropped and counted when its stream number is above 15, its
stream is CLOSED, its CRC is wrong, its sequence or payload length does not fit, or its stream holds
no credit. Only a wrong CRC below L moves the carousel, and an unfit frame on a stream with credit
spends one. -/
def Obligations.BlocksDropped : Prop :=
  ∀ (s : State) (f : BlockFrame), s.uplink.up = true → s.resetHeld = false → f.fits = true →
    (16 ≤ f.stream.toNat → exec (.block f) s =
      .next ((s.count .validUplinkFrames).count .blocksForNoStream)) ∧
    (∀ st : StreamId, f.stream.toNat = st.val →
      ((s.stream st).isOpen = false → exec (.block f) s =
        .next ((s.count .validUplinkFrames).countStream st .droppedClosed)) ∧
      ((s.stream st).isOpen = true → crc32 f.payload ≠ f.crc →
        ∃ t, exec (.block f) s = .next t ∧
          t.streamCounter st .droppedCrc = satInc (s.streamCounter st .droppedCrc) ∧
          (t.stream st).position = (if f.sequence.toNat < (s.stream st).length
            then (f.sequence.toNat + 1) % (s.stream st).length else (s.stream st).position) ∧
          (t.stream st).accepted = (if (s.stream st).held = 0 then (s.stream st).accepted
            else (s.stream st).accepted + 1) ∧
          t.bays = s.bays ∧ t.pool = s.pool ∧ t.uplink = s.uplink ∧ t.resume = s.resume) ∧
      ((s.stream st).isOpen = true → crc32 f.payload = f.crc →
        ((s.stream st).length ≤ f.sequence.toNat ∨
          f.payload.length ≠ (if f.sequence.toNat + 1 = (s.stream st).length
            then (s.stream st).lastLength else 1024)) →
        ∃ t, exec (.block f) s = .next t ∧
          t.streamCounter st .droppedCrc = satInc (s.streamCounter st .droppedCrc) ∧
          (t.stream st).position = (s.stream st).position ∧
          (t.stream st).accepted = (if (s.stream st).held = 0 then (s.stream st).accepted
            else (s.stream st).accepted + 1) ∧
          t.bays = s.bays ∧ t.pool = s.pool ∧ t.uplink = s.uplink ∧ t.resume = s.resume) ∧
      ((s.stream st).isOpen = true → crc32 f.payload = f.crc →
        f.sequence.toNat < (s.stream st).length →
        f.payload.length = (if f.sequence.toNat + 1 = (s.stream st).length
          then (s.stream st).lastLength else 1024) → (s.stream st).held = 0 →
        exec (.block f) s =
          .next ((s.count .validUplinkFrames).countStream st .droppedUncredited)))

/-- 02 R34, R35, R36, R42, R43, R45, 03 R63, R71: a BLOCK that fits, on a stream holding credit,
spends one credit, moves the carousel past its sequence and is counted. When no bay takes it, it is
passed unused and the pool stays. A bay takes it exactly when it is SERVING with room in its queue
and a job of it in RECEIVING finds the offset not yet covered, or in a gap range and neither queued
nor in flight. Otherwise it fills a free slot, with the taking bays as delivery set, each of which
puts it at its queue's tail and moves its job's cursor past the block's offset, what the cursor
passes over becoming a gap. The stream is then judged: it is satisfied exactly when no job wants its
blocks, its resume point is the nearest wanted sequence ahead of the new carousel position, and its
STREAM STATUS is due when the two differ. That the slot is the lowest free one is the model's
choice, which 02 R35 leaves open (log 18, DESIGN CHOICE). -/
def Obligations.BlockAccepted : Prop :=
  ∀ (s : State) (f : BlockFrame) (st : StreamId), s.uplink.up = true → s.resetHeld = false →
    f.fits = true → f.stream.toNat = st.val → (s.stream st).isOpen = true →
    crc32 f.payload = f.crc → f.sequence.toNat < (s.stream st).length →
    f.payload.length = (if f.sequence.toNat + 1 = (s.stream st).length
      then (s.stream st).lastLength else 1024) → (s.stream st).held ≠ 0 →
    ((∀ b p c d, ¬ s.takesBlock b st f.sequence.toNat p c d) →
      ∃ t, exec (.block f) s = .next t ∧
        (t.stream st).accepted = (s.stream st).accepted + 1 ∧
        (t.stream st).position = (f.sequence.toNat + 1) % (s.stream st).length ∧
        t.streamCounter st .accepted = satInc (s.streamCounter st .accepted) ∧
        t.streamCounter st .passedUnused = satInc (s.streamCounter st .passedUnused) ∧
        t.pool = s.pool ∧ t.bays = s.bays ∧ t.uplink = s.uplink ∧ t.resume = s.resume ∧
        t.judged st ∧
        ((t.stream st).resume ≠ (t.stream st).position → st ∈ t.due) ∧ s.sameLoads t) ∧
    (∀ (b₀ : BayId) (p₀ : Place) (c₀ : ChannelId) (d₀ : Nat) (sl : SlotId),
      s.takesBlock b₀ st f.sequence.toNat p₀ c₀ d₀ → s.freeSlot = some sl →
      ∃ t, exec (.block f) s = .next t ∧
        (t.stream st).accepted = (s.stream st).accepted + 1 ∧
        (t.stream st).position = (f.sequence.toNat + 1) % (s.stream st).length ∧
        t.streamCounter st .accepted = satInc (s.streamCounter st .accepted) ∧
        (∃ x, t.pool.get sl = some x ∧ x.stream = st ∧ x.sequence = f.sequence.toNat ∧
          x.payload = f.payload ∧ x.arrival = s.clock.ticks ∧
          ∀ b, b ∈ x.delivery ↔ ∃ p c d, s.takesBlock b st f.sequence.toNat p c d) ∧
        (∀ k, k ≠ sl → t.pool.get k = s.pool.get k) ∧
        (∀ b, (∀ p c d, ¬ s.takesBlock b st f.sequence.toNat p c d) → t.bay b = s.bay b) ∧
        (∀ b p c d, s.takesBlock b st f.sequence.toNat p c d →
          (t.bay b).txQueue = (s.bay b).txQueue ++ [⟨sl, p, c, d⟩] ∧
          (∀ j, s.job b p = some j → t.job b p = some { j with
            cursor := max j.cursor (d + 1),
            gaps := if j.cursor < d then (addRange j.gaps ⟨j.cursor, d - 1⟩).1 else j.gaps }) ∧
          (∀ q, q ≠ p → t.job b q = s.job b q) ∧
          (t.bay b).channels = (s.bay b).channels ∧ (t.bay b).ctl = (s.bay b).ctl ∧
          (t.bay b).port = (s.bay b).port ∧ (t.bay b).inventory = (s.bay b).inventory) ∧
        t.judged st ∧
        ((t.stream st).resume ≠ (t.stream st).position → st ∈ t.due) ∧
        t.uplink = s.uplink ∧ t.resume = s.resume ∧ s.sameLoads t)

/-- 08 R147, R148, 10: a REQUEST makes its source the learned server address and is judged: too
short for a kind and a tag, of an unknown kind or of a wrong length it is answered MALFORMED with an
empty body; with four requests waiting BUSY; otherwise it is queued at the tail and counted. The
answer echoes kind and tag; that of a frame too short carries tag 0, and kind 0 when the frame
carries no kind. That a kind which such a frame does carry is echoed is log 15 (DEDUCED). The answer
is queued with the link UP and fewer than 8 responses waiting. -/
def Obligations.RequestJudged : Prop :=
  ∀ (s : State) (f : RequestFrame), s.uplink.up = true → s.resetHeld = false →
    ((4 ≤ f.length.toNat ∧ f.length.toNat ≤ f.bytes.length) →
      argumentBytes (byteAt f.bytes 0) = some (f.length.toNat - 4) →
      (s.mgmt.queue.length < 4 →
        ∃ r : Request, r.kind = byteAt f.bytes 0 ∧
          readRequest (byteAt f.bytes 0) ((f.bytes.take f.length.toNat).drop 4) = some r ∧
          exec (.requestArrival f) s = .next { s with
            uplink := { s.uplink with server := some f.src },
            mgmt := { s.mgmt with queue := s.mgmt.queue ++ [⟨f.src, halfAt f.bytes 2, r⟩] },
            counters := (s.counters.modify BridgeCounter.validUplinkFrames.index satInc).modify
              BridgeCounter.requestsReceived.index satInc }) ∧
      (4 ≤ s.mgmt.queue.length → s.uplink.responses.length < 8 →
        exec (.requestArrival f) s = .next { s with
          uplink := { s.uplink with
            server := some f.src,
            responses := s.uplink.responses ++ [⟨f.src, s.config.protocolType, byteAt f.bytes 0,
              halfAt f.bytes 2, .busy, []⟩] },
          counters := (s.counters.modify BridgeCounter.validUplinkFrames.index satInc).modify
            BridgeCounter.answeredBusy.index satInc })) ∧
    ((4 ≤ f.length.toNat ∧ f.length.toNat ≤ f.bytes.length) →
      argumentBytes (byteAt f.bytes 0) ≠ some (f.length.toNat - 4) →
      s.uplink.responses.length < 8 →
      exec (.requestArrival f) s = .next { s with
        uplink := { s.uplink with
          server := some f.src,
          responses := s.uplink.responses ++ [⟨f.src, s.config.protocolType, byteAt f.bytes 0,
            halfAt f.bytes 2, .malformed, []⟩] },
        counters := (s.counters.modify BridgeCounter.validUplinkFrames.index satInc).modify
          BridgeCounter.answeredMalformed.index satInc }) ∧
    ((f.length.toNat < 4 ∨ f.bytes.length < f.length.toNat) → s.uplink.responses.length < 8 →
      exec (.requestArrival f) s = .next { s with
        uplink := { s.uplink with
          server := some f.src,
          responses := s.uplink.responses ++ [⟨f.src, s.config.protocolType,
            (match f.bytes.take f.length.toNat with | [] => 0 | k :: _ => k), 0, .malformed,
            []⟩] },
        counters := (s.counters.modify BridgeCounter.validUplinkFrames.index satInc).modify
          BridgeCounter.answeredMalformed.index satInc })

/-- 08 R160, R161, 06 R126: a PASS-DOWN for a bay above 15 is dropped and counted; its body joins
the bay's queue when the bay state is INTAKE, SERVING, HOLDING or DEPARTING and fewer than eight
wait, and is otherwise dropped and counted. A PASS-UP is queued with the bay number, the vehicle id
of the moment and its body when fewer than sixteen wait, and otherwise dropped and counted. Nothing
else changes. -/
def Obligations.PassThroughQueued : Prop :=
  (∀ (s : State) (f : PassDownFrame), s.uplink.up = true → s.resetHeld = false →
    1 ≤ f.body.length → f.body.length ≤ 1024 →
    (16 ≤ f.bay.toNat → exec (.passDown f) s =
      .next ((s.count .validUplinkFrames).count .passDownNoBay)) ∧
    (∀ b : BayId, f.bay.toNat = b.val →
      (((s.bay b).ctl.state = .intake ∨ (s.bay b).ctl.state = .serving ∨
          (s.bay b).ctl.state = .holding ∨ (s.bay b).ctl.state = .departing) →
        (s.bay b).port.passDown.length < 8 →
        exec (.passDown f) s = .next ((s.count .validUplinkFrames).setBay b { s.bay b with
          port := { (s.bay b).port with passDown := (s.bay b).port.passDown ++ [f.body] } })) ∧
      (((s.bay b).ctl.state = .vacant ∨ (s.bay b).ctl.state = .training ∨
          (s.bay b).ctl.state = .qualifying ∨ 8 ≤ (s.bay b).port.passDown.length) →
        exec (.passDown f) s = .next ((s.count .validUplinkFrames).setBay b
          ((s.bay b).counted .passDownDropped))))) ∧
  (∀ (s : State) (b : BayId) (body : List Byte), s.hears b → 1 ≤ body.length →
    body.length ≤ 1024 →
    (s.uplink.passUps.length < 16 → exec (.passUp b body) s = .next
      { s.setBay b ((s.bay b).heard s.config.threshold) with
        uplink := { s.uplink with
          passUps := s.uplink.passUps ++ [⟨b, (s.bay b).ctl.vehicle, body⟩] } }) ∧
    (16 ≤ s.uplink.passUps.length → exec (.passUp b body) s = .next (s.setBay b
      (((s.bay b).heard s.config.threshold).counted .passUpDropped))))

/-- 08 R147, R157, R159, 02 R46: with the link UP the oldest response goes first, to its own
request's source; then, with the server address known, the head notice with its number and the lost
indication, the earliest due STREAM STATUS read from the stream as it stands, and the oldest PASS-
UP. Each leaves its queue, stands on the line with the station address as source, and is counted;
nothing else changes. That a response carries the protocol type in force when it was placed, and
every other frame the one in force when it is built, is the model's deduction (log 14, DEDUCED). -/
def Obligations.UplinkFramesSent : Prop :=
  ∀ s : State, s.uplink.up = true → s.resetHeld = false →
    (∀ (r : Response) (rest : List Response), s.uplink.responses = r :: rest →
      s.mgmt.halted = false →
      exec .sendResponse s = .next { s with
        uplink := { s.uplink with
          responses := rest,
          line := some ⟨r.dest, s.station, r.protocolType, .response r.kind r.tag r.code r.body⟩ },
        counters := s.counters.modify BridgeCounter.responsesSent.index satInc }) ∧
    (∀ a : Address, s.uplink.responses = [] → s.uplink.server = some a →
      (∀ (n : PostedNotice) (rest : List PostedNotice), s.notices.queue = n :: rest →
        exec .sendNotice s = .next { s with
          notices := { s.notices with
            queue := rest, lost := false, number := s.notices.number + 1 },
          uplink := { s.uplink with line := some ⟨a, s.station, s.config.protocolType,
            .notice n s.notices.number s.notices.lost⟩ },
          counters := s.counters.modify BridgeCounter.noticesSent.index satInc }) ∧
      (s.notices.queue = [] →
        (∀ (st : StreamId) (rest : List StreamId), s.due = st :: rest →
          exec .sendStreamStatus s = .next { s with
            due := rest,
            uplink := { s.uplink with line := some ⟨a, s.station, s.config.protocolType,
              .streamStatus st (s.stream st).limit (s.stream st).accepted (s.stream st).resume
                (s.stream st).satisfied⟩ },
            counters := s.counters.modify BridgeCounter.statusFramesSent.index satInc }) ∧
        (∀ (f : PassUp) (rest : List PassUp), s.due = [] → s.uplink.passUps = f :: rest →
          exec .sendPassUp s = .next (({ s with
            uplink := { s.uplink with
              passUps := rest,
              line := some ⟨a, s.station, s.config.protocolType, .passUp f⟩ } } : State).setBay f.bay
            ((s.bay f.bay).counted .passUpForwarded)))))

/-! ## Requests -/

/-- 01 R7, R11, 03 R72, 07 R143, 08 R149, R150, R152, R153: the seven requests that only read change
nothing but the request queue and the response, which carries DONE with a body of the items of their
rule, and NO SUCH with an empty body where their bay, place, entry or record does not exist. READ
CONFIG of an unknown parameter is answered MALFORMED and counted, and that of the maximum rate of a
bay above 15 NO SUCH. The bodies are the model's functions of the state: where the rules leave a
form open they hold its choices, as are the L of a stream never opened shown as 0xFFFF, one byte for
the frame count of a transmit class, the record place as job reference, and start ticks mod 2^32
(log 17, DESIGN CHOICE), and that READ CONFIG of a bridge-wide parameter repeats the bay byte of its
request is theirs too (log 37, DESIGN CHOICE). -/
def Obligations.ReadsOnlyAnswer : Prop :=
  ∀ (s : State) (q : QueuedRequest) (rest : List QueuedRequest), s.serves q rest →
    (q.request = .readStatus →
      exec .readStatus s = .next ((s.taken rest).replied q .done (s.taken rest).statusBody)) ∧
    (∀ (code bay : Byte) (p : Parameter), q.request = .readConfig code bay →
      namedParameter code bay = .parameter p →
      exec .readConfig s = .next ((s.taken rest).replied q .done
        (u8 code.toNat ++ u8 bay.toNat ++ u32 (s.setting p)))) ∧
    (∀ code bay : Byte, q.request = .readConfig code bay →
      (namedParameter code bay = .unknown → exec .readConfig s =
        .next (((s.taken rest).count .answeredMalformed).replied q .malformed [])) ∧
      (namedParameter code bay = .noBay → exec .readConfig s =
        .next ((s.taken rest).replied q .noSuch []))) ∧
    (∀ x : Byte, q.request = .readEntry x →
      (∀ i : EntryId, x.toNat = i.val →
        exec .readEntry s = .next ((s.taken rest).replied q .done (s.entryBody i))) ∧
      (64 ≤ x.toNat → exec .readEntry s = .next ((s.taken rest).replied q .noSuch []))) ∧
    (∀ x : Byte, q.request = .readBay x →
      (∀ b : BayId, x.toNat = b.val →
        exec .readBay s = .next ((s.taken rest).replied q .done (s.bayBody b))) ∧
      (16 ≤ x.toNat → exec .readBay s = .next ((s.taken rest).replied q .noSuch []))) ∧
    (∀ x y : Byte, q.request = .readJob x y →
      (∀ (b : BayId) (p : Place), x.toNat = b.val → y.toNat = p.val →
        exec .readJob s = .next ((s.taken rest).replied q .done (s.jobBody b p))) ∧
      ((16 ≤ x.toNat ∨ 8 ≤ y.toNat) →
        exec .readJob s = .next ((s.taken rest).replied q .noSuch []))) ∧
    (∀ x : Byte, q.request = .readInventory x →
      (∀ b : BayId, x.toNat = b.val →
        exec .readInventory s = .next ((s.taken rest).replied q .done (s.inventoryBody b))) ∧
      (16 ≤ x.toNat → exec .readInventory s = .next ((s.taken rest).replied q .noSuch []))) ∧
    (∀ x : Byte, q.request = .readResume x →
      (∀ p : ResumeId, x.toNat = p.val →
        exec .readResume s = .next ((s.taken rest).replied q .done (s.resumeBody p))) ∧
      (32 ≤ x.toNat → exec .readResume s = .next ((s.taken rest).replied q .noSuch [])))

/-- 08 R151, 04 R85, 02 R39, R40: WRITE CONFIG stores the value clamped into the parameter's range
and answers with the value stored; a th1 below the stored th2 lowers th2 to it, and no other value
changes. A stream window that rises makes the grant arbiter evaluate: it grants until no capacity is
spare or no stream is wanting; a wanting stream's limit rises, up to the window, its age becomes 0
and its STREAM STATUS is due, and a stream gets nothing while a wanting one of lower effective
priority number, or of an equal one and a lower stream number, is short of the window; a stream that
is not wanting only has its age at 0. An unknown parameter is answered MALFORMED and counted, and a
bay above 15 NO SUCH. That the answer of a bridge-wide parameter repeats the bay byte of the request
is the model's choice (log 37, DESIGN CHOICE). -/
def Obligations.ConfigWritten : Prop :=
  ∀ (s : State) (q : QueuedRequest) (rest : List QueuedRequest) (code bay : Byte) (value : Word),
    s.serves q rest → q.request = .writeConfig code bay value →
    (∀ p, namedParameter code bay = .parameter p →
      ∃ (u : State) (body : List Byte), exec .writeConfig s = .next (u.replied q .done body) ∧
        u.setting p = max (s.settingRange p).1 (min (s.settingRange p).2 value.toNat) ∧
        (p ≠ .th1 → body = u8 code.toNat ++ u8 bay.toNat ++ u32 (u.setting p)) ∧
        (p = .th1 → body = u8 code.toNat ++ u8 bay.toNat ++ u32 (u.setting .th1) ++
          u32 (u.setting .th2) ∧ u.setting .th2 = min (s.setting .th2) (u.setting .th1)) ∧
        (∀ r, r ≠ p → (p = .th1 → r ≠ .th2) → u.setting r = s.setting r) ∧
        u.manifest = s.manifest ∧ u.departures = s.departures ∧ u.clock = s.clock ∧
        u.resume = s.resume ∧ u.mgmt.queue = rest ∧ u.uplink = s.uplink ∧
        (p = .streamWindow → s.setting .streamWindow < u.setting .streamWindow →
          u.pool = s.pool ∧ u.bays = s.bays ∧
          (u.spare = 0 ∨ ∀ x, (u.stream x).wanting (u.setting .streamWindow) = false) ∧
          (∀ x, (s.stream x).wanting (u.setting .streamWindow) = false →
            u.stream x = { s.stream x with age := 0 }) ∧
          (∀ x, (s.stream x).wanting (u.setting .streamWindow) = true →
            ∃ n, (s.stream x).held + n ≤ u.setting .streamWindow ∧
              u.stream x = { s.stream x with
                limit := (s.stream x).limit + BitVec.ofNat 16 n,
                age := if n = 0 then (s.stream x).age else 0 } ∧
              (n ≠ 0 → x ∈ u.due)) ∧
          (∀ x y, (s.stream x).wanting (u.setting .streamWindow) = true →
            (s.stream y).wanting (u.setting .streamWindow) = true →
            (s.priority x < s.priority y ∨ (s.priority x = s.priority y ∧ x < y)) →
            (u.stream y).limit ≠ (s.stream y).limit →
            (u.stream x).held = u.setting .streamWindow))) ∧
    (namedParameter code bay = .unknown → exec .writeConfig s =
      .next (((s.taken rest).count .answeredMalformed).replied q .malformed [])) ∧
    (namedParameter code bay = .noBay → exec .writeConfig s =
      .next ((s.taken rest).replied q .noSuch []))

/-- 02 R27, R28, R29: OPEN STREAM sets a CLOSED entry to the stored values, satisfied, with no
credit and every position 0, and makes its status due; SET LEVEL stores the level of an OPEN one;
CLOSE STREAM of an OPEN stream that no entry and no pending replacement names takes the queued
entries of its blocks out of the bays' queues, their offsets needed again and no detachment counted,
frees its slots and ends its credit and its due status. The executed request leaves the request
queue. In the wrong stream state each is answered WRONG STATE and changes nothing, and NO SUCH for a
stream above 15. -/
def Obligations.StreamRequests : Prop :=
  (∀ (s : State) (q : QueuedRequest) (rest : List QueuedRequest) (x : Byte) (st : StreamId),
    s.serves q rest → x.toNat = st.val →
    (∀ (level : Byte) (lengthLess1 last : Half),
      q.request = .openStream x level lengthLess1 last →
      ((s.stream st).isOpen = false →
        exec .openStream s = .next (((((s.taken rest).modStream st fun y =>
          { y with isOpen := true, length := lengthLess1.toNat + 1,
                   lastLength := max 1 (min 1024 last.toNat), level := min 7 level.toNat,
                   position := 0, accepted := 0, limit := 0, satisfied := true, resume := 0,
                   age := 0 }).makeDue st)).replied q .done
            (u16 lengthLess1.toNat ++ u16 (max 1 (min 1024 last.toNat)) ++
              u8 (min 7 level.toNat)))) ∧
      ((s.stream st).isOpen = true →
        exec .openStream s = .next ((s.taken rest).replied q .wrongState []))) ∧
    (∀ level : Byte, q.request = .setLevel x level →
      ((s.stream st).isOpen = true →
        exec .setLevel s = .next (((s.taken rest).modStream st fun y =>
          { y with level := min 7 level.toNat }).replied q .done (u8 (min 7 level.toNat)))) ∧
      ((s.stream st).isOpen = false →
        exec .setLevel s = .next ((s.taken rest).replied q .wrongState []))) ∧
    (q.request = .closeStream x →
      ((s.stream st).isOpen = true → s.streamNamed st = false →
        ∃ u : State, exec .closeStream s = .next (u.replied q .done []) ∧
          (u.stream st).isOpen = false ∧ (u.stream st).satisfied = false ∧
          (u.stream st).age = 0 ∧ (u.stream st).held = 0 ∧ st ∉ u.due ∧
          (∀ k y, u.pool.get k = some y → y.stream ≠ st) ∧
          (∀ k, (∀ y, s.pool.get k = some y → y.stream ≠ st) → u.pool.get k = s.pool.get k) ∧
          (∀ r, r ≠ st → (u.stream r).isOpen = (s.stream r).isOpen) ∧
          (∀ b, (u.bay b).txQueue = (s.bay b).txQueue.filter (fun e =>
              match s.pool.get e.slot with
              | none => true
              | some y => !(decide (y.stream = st) && y.delivery.contains b)) ∧
            (∀ e ∈ (s.bay b).txQueue, ∀ y, s.pool.get e.slot = some y → y.stream = st →
              b ∈ y.delivery → ∀ j, s.job b e.place = some j →
              ∃ k, u.job b e.place = some k ∧ inGaps k.gaps e.offset = true ∧
                { k with gaps := [] } = { j with gaps := [] }) ∧
            u.bayCounter b .blocksDetached = s.bayCounter b .blocksDetached ∧
            (u.bay b).channels = (s.bay b).channels ∧ (u.bay b).ctl = (s.bay b).ctl ∧
            (u.bay b).port = (s.bay b).port ∧ (u.bay b).inventory = (s.bay b).inventory) ∧
          u.mgmt = { s.mgmt with queue := rest } ∧
          s.sameLoads u ∧ u.resume = s.resume ∧ u.uplink = s.uplink) ∧
      (((s.stream st).isOpen = false ∨ s.streamNamed st = true) →
        exec .closeStream s = .next ((s.taken rest).replied q .wrongState [])))) ∧
  (∀ (s : State) (q : QueuedRequest) (rest : List QueuedRequest) (x : Byte), s.serves q rest →
    16 ≤ x.toNat →
    (∀ (level : Byte) (lengthLess1 last : Half), q.request = .openStream x level lengthLess1 last →
      exec .openStream s = .next ((s.taken rest).replied q .noSuch [])) ∧
    (∀ level : Byte, q.request = .setLevel x level →
      exec .setLevel s = .next ((s.taken rest).replied q .noSuch [])) ∧
    (q.request = .closeStream x →
      exec .closeStream s = .next ((s.taken rest).replied q .noSuch [])))

/-- 01 R4, R5, R9: WRITE ENTRY to a stream that is not OPEN is answered WRONG STATE, and one that
ties the stream to another image CONFLICT; while jobs are live on an ACTIVE entry the write is
stored as its pending replacement, and otherwise the entry is ACTIVE with the written fields, not
released and without replacement. RELEASE ENTRY sets the released flag of an ACTIVE entry alone and
is WRONG STATE on an EMPTY one. An index above 63 or a stream above 15 is NO SUCH. The executed
request leaves the request queue. -/
def Obligations.EntriesWrittenAndReleased : Prop :=
  (∀ (s : State) (q : QueuedRequest) (rest : List QueuedRequest) (x : Byte) (i : EntryId),
    s.serves q rest → x.toNat = i.val →
    (∀ (y flags : Byte) (st : StreamId) (base mask target check : Word) (f : EntryFields),
      q.request = .writeEntry x y flags base mask target check → y.toNat = st.val →
      f = { base := base.setWidth 24, mask := mask.setWidth 24, target := target,
            downgrade := flags.getLsbD 0, stream := st, check := check,
            policy := if flags.getLsbD 1 then .released else .immediate } →
      ((s.stream st).isOpen = false →
        exec .writeEntry s = .next ((s.taken rest).replied q .wrongState [])) ∧
      ((s.stream st).isOpen = true → s.writeConflicts i f = true →
        exec .writeEntry s = .next ((s.taken rest).replied q .conflict [])) ∧
      ((s.stream st).isOpen = true → s.writeConflicts i f = false →
        (s.entry i).active = true → s.liveCount i ≠ 0 →
        exec .writeEntry s = .next (((s.taken rest).modEntry i fun e =>
          { e with replacement := some f }).replied q .done (u8 1))) ∧
      ((s.stream st).isOpen = true → s.writeConflicts i f = false →
        ((s.entry i).active = false ∨ s.liveCount i = 0) →
        ∃ u : State, exec .writeEntry s = .next (u.replied q .done (u8 0)) ∧
          u.manifest = s.manifest.set i
            { active := true, fields := f, released := false, replacement := none } ∧
          u.streams = s.streams ∧ u.pool = s.pool ∧ u.config = s.config ∧
          u.departures = s.departures ∧ u.mgmt = { s.mgmt with queue := rest } ∧
          u.uplink = s.uplink ∧ u.clock = s.clock)) ∧
    (q.request = .releaseEntry x →
      ((s.entry i).active = true →
        ∃ u : State, exec .releaseEntry s = .next (u.replied q .done []) ∧
          u.manifest = s.manifest.modify i (fun e => { e with released := true }) ∧
          (∀ b, (u.bay b).jobs = (s.bay b).jobs ∧ (u.bay b).inventory = (s.bay b).inventory) ∧
          u.streams = s.streams ∧ u.pool = s.pool ∧ u.config = s.config ∧
          u.departures = s.departures ∧ u.mgmt = { s.mgmt with queue := rest } ∧
          u.uplink = s.uplink ∧ u.clock = s.clock) ∧
      ((s.entry i).active = false →
        exec .releaseEntry s = .next ((s.taken rest).replied q .wrongState [])))) ∧
  (∀ (s : State) (q : QueuedRequest) (rest : List QueuedRequest) (x : Byte), s.serves q rest →
    (q.request = .releaseEntry x → 64 ≤ x.toNat →
      exec .releaseEntry s = .next ((s.taken rest).replied q .noSuch [])) ∧
    (∀ (y flags : Byte) (base mask target check : Word),
      q.request = .writeEntry x y flags base mask target check →
      (64 ≤ x.toNat ∨ 16 ≤ y.toNat) →
        exec .writeEntry s = .next ((s.taken rest).replied q .noSuch [])))

/-- 01 R8: WITHDRAW ENTRY of an ACTIVE entry leaves it EMPTY with its fields kept, without pending
replacement and not released, linked by no member of any job, and answers with the number of units
it cancelled. A unit of a live job that a link of the entry names in PENDING or STAGED becomes
CANCELLED in its job, and every other member keeps its state, one in ACTIVATING or REVERTING among
them; in a bay that is not SERVING, or has places for every job that the builder could create, the
jobs stand where they stood, new members only behind the old ones. One of an EMPTY entry is answered
WRONG STATE, and one of an index above 63 NO SUCH. -/
def Obligations.EntryWithdrawn : Prop :=
  (∀ (s : State) (q : QueuedRequest) (rest : List QueuedRequest) (x : Byte) (i : EntryId),
    s.serves q rest → q.request = .withdrawEntry x → x.toNat = i.val →
    ((s.entry i).active = true →
      ∃ u : State, exec .withdrawEntry s = .next (u.replied q .done (u32 (s.withdrawCount i))) ∧
        u.entry i = { s.entry i with active := false, released := false, replacement := none } ∧
        (∀ b p j m, u.job b p = some j → m ∈ j.members → m.link ≠ some i) ∧
        (∀ b p j, s.job b p = some j → j.live = true →
          ((s.bay b).ctl.state ≠ .serving ∨
            (s.bay b).inventory.length + (s.bay b).jobList.length ≤ 8) →
          ∃ k, u.job b p = some k ∧
            (k.members.take j.members.length).map (fun m => (m.unit, m.state)) =
              j.members.map fun m => (m.unit,
                if m.state.terminal = false ∧ ∃ n ∈ j.members, n.unit = m.unit ∧
                    n.link = some i ∧ (n.state = .pending ∨ n.state = .staged)
                then .cancelled else m.state)) ∧
        u.liveCount i = 0 ∧ u.config = s.config ∧ u.departures = s.departures ∧
        u.mgmt = { s.mgmt with queue := rest } ∧ u.uplink = s.uplink ∧ u.clock = s.clock) ∧
    ((s.entry i).active = false →
      exec .withdrawEntry s = .next ((s.taken rest).replied q .wrongState []))) ∧
  (∀ (s : State) (q : QueuedRequest) (rest : List QueuedRequest) (x : Byte),
    s.serves q rest → q.request = .withdrawEntry x → 64 ≤ x.toNat →
    exec .withdrawEntry s = .next ((s.taken rest).replied q .noSuch []))

/-- 04 R78: LOAD DEPARTURE takes the first case that applies: vehicle 0 changes nothing; a pull-out
time of 0 empties the vehicle's slot; a vehicle already held gets the new time in its slot; another
goes into the lowest vacant slot, and a full table is answered CONFLICT. Every answer carries the
vehicle's slot and the named slot's content as they then stand. A slot number above 63 is NO SUCH.
The bytes of a slot's content, a vehicle id of 0 and an absent pull-out time for an empty one, are
the model's choice of form (log 17, DESIGN CHOICE). -/
def Obligations.DepartureLoaded : Prop :=
  (∀ (s : State) (q : QueuedRequest) (rest : List QueuedRequest) (x : Byte) (i : DepartureId)
      (vehicle pullOut : Word),
    s.serves q rest → q.request = .loadDeparture x vehicle pullOut → x.toNat = i.val →
    (∀ (d : Table 64 (Option Departure)) (code : Code) (slot : Option DepartureId),
      ((vehicle = 0 ∧ d = s.departures ∧ code = .done ∧ slot = none) ∨
        (vehicle ≠ 0 ∧ s.departureOf vehicle = none ∧ pullOut = 0 ∧ d = s.departures ∧
          code = .done ∧ slot = none) ∨
        (∃ k, vehicle ≠ 0 ∧ s.departureOf vehicle = some k ∧ pullOut ≠ 0 ∧
          d = s.departures.set k (some ⟨vehicle, pullOut⟩) ∧ code = .done ∧ slot = some k) ∨
        (vehicle ≠ 0 ∧ s.departureOf vehicle = none ∧ pullOut ≠ 0 ∧
          s.departures.find Option.isNone = none ∧ d = s.departures ∧ code = .conflict ∧
          slot = none) ∨
        (∃ k, vehicle ≠ 0 ∧ s.departureOf vehicle = none ∧ pullOut ≠ 0 ∧
          s.departures.find Option.isNone = some k ∧
          d = s.departures.set k (some ⟨vehicle, pullOut⟩) ∧ code = .done ∧ slot = some k)) →
      exec .loadDeparture s = .next (({ s.taken rest with departures := d } : State).replied q code
        (optionalField u8 0 (slot.map Fin.val) ++ departureField (d.get i)))) ∧
    (∀ k, vehicle ≠ 0 → s.departureOf vehicle = some k → pullOut = 0 →
      (∀ r e, s.departures.get r = some e → e.vehicle = vehicle → r = k) →
      exec .loadDeparture s = .next (({ s.taken rest with
        departures := s.departures.set k none } : State).replied q .done
        (optionalField u8 0 none ++ departureField ((s.departures.set k none).get i))))) ∧
  (∀ (s : State) (q : QueuedRequest) (rest : List QueuedRequest) (x : Byte)
      (vehicle pullOut : Word), s.serves q rest → q.request = .loadDeparture x vehicle pullOut →
    64 ≤ x.toNat → exec .loadDeparture s = .next ((s.taken rest).replied q .noSuch []))

/-- 01 R23, 08 R154, R155: CLEAR BLOCK clears one held unit's blocked flag and keeps every unit's
versions; READ COUNTERS answers with the counters as they were and, with the clear indication,
zeroes the group alone, NO SUCH above 15 and MALFORMED for no group; SET NOTICE MASK stores the
mask. The executed request leaves the request queue. -/
def Obligations.BlockCountersAndMask : Prop :=
  ∀ (s : State) (q : QueuedRequest) (rest : List QueuedRequest), s.serves q rest →
    (∀ (x y : Byte) (b : BayId) (unit : UnitAddr) (r : UnitRecord),
      q.request = .clearBlock x y → x.toNat = b.val → y.toNat = unit.val →
      (s.bay b).unit? unit = some r →
      ∃ u : State, exec .clearBlock s = .next (u.replied q .done []) ∧
        (u.bay b).inventory.map (fun k => (k.unit, k.cls, k.revision, k.running, k.standby,
            k.blocked)) =
          (s.bay b).inventory.map (fun k => (k.unit, k.cls, k.revision, k.running, k.standby,
            if k.unit = unit then false else k.blocked)) ∧
        s.sameOtherBays u b ∧ u.streams = s.streams ∧ u.pool = s.pool ∧ u.uplink = s.uplink ∧
        u.mgmt = { s.mgmt with queue := rest } ∧ s.sameLoads u ∧ u.clock = s.clock) ∧
    (∀ (group number clear : Byte), q.request = .readCounters group number clear →
      (∀ b : BayId, group = 0 → number.toNat = b.val →
        exec .readCounters s = .next ((if clear.getLsbD 0 then (s.taken rest).setBay b
            { s.bay b with counters := Table.fill 66 0 } else s.taken rest).replied q .done
          (countersBody group number (clear.getLsbD 0) (s.bay b).counters.cells))) ∧
      (∀ st : StreamId, group = 1 → number.toNat = st.val →
        exec .readCounters s = .next ((if clear.getLsbD 0 then (s.taken rest).modStream st
            fun k => { k with counters := Table.fill 5 0 } else s.taken rest).replied q .done
          (countersBody group number (clear.getLsbD 0) (s.stream st).counters.cells))) ∧
      (group = 2 →
        exec .readCounters s = .next ((if clear.getLsbD 0 then
            { s.taken rest with counters := Table.fill 22 0 } else s.taken rest).replied q .done
          (countersBody group number (clear.getLsbD 0) s.counters.cells))) ∧
      ((group = 0 ∨ group = 1) → 16 ≤ number.toNat →
        exec .readCounters s = .next ((s.taken rest).replied q .noSuch [])) ∧
      (3 ≤ group.toNat → exec .readCounters s =
        .next (((s.taken rest).count .answeredMalformed).replied q .malformed []))) ∧
    (∀ mask : Byte, q.request = .setNoticeMask mask →
      exec .setNoticeMask s = .next (({ s.taken rest with
        notices := { s.notices with mask := mask.setWidth 7 } } : State).replied q .done
          (u8 (mask.setWidth 7).toNat)))

/-- 07 R137, R138, R141, 06 R122: RESET BAY answers with the bay state before the drop; a bay whose
port is in PROBING, SWITCHING or TRAINED and that is not VACANT is torn down, a resume record of
each of its unfinished transfers counted and, where no pending replacement lets a builder take
records up again in the same step, standing in the resume table as R141 places it, its port cleared
and FORCED for 100 ms, and a forced drop is counted; in DOWN nothing changes, and in FORCED the 100
ms start again. A bay number above 15 is NO SUCH. The order in which a full gap list takes the
offsets needed again is the model's (log 28, DESIGN CHOICE). -/
def Obligations.BayReset : Prop :=
  (∀ (s : State) (q : QueuedRequest) (rest : List QueuedRequest) (x : Byte) (b : BayId),
    s.serves q rest → q.request = .resetBay x → x.toNat = b.val →
    (((s.bay b).port.phase = .probing ∨ (s.bay b).port.phase = .switching ∨
        (s.bay b).port.phase = .trained) → (s.bay b).ctl.state ≠ .vacant →
      ∃ u : State, exec .resetBay s = .next (u.replied q .done (u8 (s.bay b).ctl.state.code)) ∧
        (u.bay b).port = { Port.initial with
          phase := .forced, watchdog := (s.bay b).port.watchdog,
          signal := (s.bay b).port.signal, forcedTimer := some ⟨s.clock.ticks, 100⟩ } ∧
        (u.bay b).ctl = Controller.initial ∧ (u.bay b).jobs = Table.fill 8 none ∧
        (u.bay b).inventory = [] ∧ (u.bay b).channels = [] ∧ (u.bay b).txQueue = [] ∧
        (u.bay b).activation = .idle ∧
        u.bayCounter b .dropsForced = satInc (s.bayCounter b .dropsForced) ∧
        u.bayCounter b .teardowns = satInc (s.bayCounter b .teardowns) ∧
        u.bayCounter b .resumeRecordsWritten = Nat.repeat satInc (s.savedRecords b).length
          (s.bayCounter b .resumeRecordsWritten) ∧
        ((∀ i, (s.entry i).replacement = none) →
          u.resume = (s.savedRecords b).foldl ResumeTable.written s.resume) ∧
        (u.bay b).maxRate = (s.bay b).maxRate ∧ u.config = s.config ∧
        u.departures = s.departures ∧ u.mgmt = { s.mgmt with queue := rest } ∧ u.uplink = s.uplink ∧
        u.clock = s.clock) ∧
    ((s.bay b).port.phase = .down →
      exec .resetBay s = .next ((s.taken rest).replied q .done (u8 (s.bay b).ctl.state.code))) ∧
    ((s.bay b).port.phase = .forced →
      exec .resetBay s = .next (((s.taken rest).setBay b { s.bay b with
        port := { (s.bay b).port with forcedTimer := some ⟨s.clock.ticks, 100⟩ } }).replied q .done
          (u8 (s.bay b).ctl.state.code)))) ∧
  (∀ (s : State) (q : QueuedRequest) (rest : List QueuedRequest) (x : Byte),
    s.serves q rest → q.request = .resetBay x → 16 ≤ x.toNat →
    exec .resetBay s = .next ((s.taken rest).replied q .noSuch []))

/-- 08 R163, R164: with the link UP, RESET BRIDGE answers DONE and only halts the management unit;
the reset begins and completes when its response is built, or is removed at a link loss, or at once
when the link is DOWN. It leaves the power-on values with the ports in FORCED for 100 ms, the yard
clock's seconds, sub-count and validity kept, the resume records of every bay holding a vehicle
written, cause REQUEST, the link UP or DOWN as it was, the response, when built, whole on the line,
and BRIDGE START posted with the bridge number. That number is what the straps show at that moment,
a free value of the model of which the statement says nothing more (log 5, DESIGN CHOICE); the kept
signal levels are log 12's, the switch attempts and the watchdog age of every port at 0, which 06
R108 leaves open, log 30's (DESIGN CHOICE), the tick count's going on log 20's (DESIGN CHOICE), the
protocol type that the sent response was given when it was placed log 14's (DEDUCED), the order of
offsets needed again in a full gap list log 28's, and the link state taken afresh log 13's. That a
link loss takes its count, as it takes all its other steps, before the reset that it begins, so that
every counter is 0 afterwards, is log 35's (DESIGN CHOICE). -/
def Obligations.BridgeResetByRequest : Prop :=
  (∀ (s : State) (q : QueuedRequest) (rest : List QueuedRequest), s.serves q rest →
    q.request = .resetBridge → s.uplink.up = true →
    exec .resetBridge s = .next (({ s.taken rest with
      mgmt := { queue := rest, halted := true } } : State).replied q .done [])) ∧
  (∀ (s : State) (i : Instr) (up : Bool) (line : Option UplinkFrame),
    ((i = .resetBridge ∧ up = false ∧ s.uplink.up = false ∧ s.uplink.physical = false ∧
        line = s.uplink.line ∧
        ∃ (q : QueuedRequest) (rest : List QueuedRequest), s.serves q rest ∧
          q.request = .resetBridge) ∨
      (i = .sendResponse ∧ up = true ∧ s.uplink.up = true ∧ s.uplink.physical = true ∧
        s.resetHeld = false ∧
        s.mgmt.halted = true ∧
        ∃ (r : Response) (rest : List Response), s.uplink.responses = r :: rest ∧ r.kind = 0x15 ∧
          r.code = .done ∧
          line = some ⟨r.dest, s.station, r.protocolType, .response r.kind r.tag r.code r.body⟩) ∨
      (i = .uplinkLinkDown ∧ up = false ∧ s.uplink.up = true ∧ s.resetHeld = false ∧
        s.mgmt.halted = true ∧
        line = none)) →
    ∃ t, exec i s = .next t ∧
      t.uplink.line = line ∧ t.uplink.up = up ∧ t.pending = s.pending ∧
      t.uplink.responses = [] ∧ t.uplink.passUps = [] ∧ t.uplink.server = none ∧
      t.uplink.bridgeNumber = Config.strapPins s.strapReads ∧
      t.straps = Config.strapPins s.strapReads ∧ t.clock = { s.clock with usec := 0 } ∧
      t.mgmt = State.reset.mgmt ∧ t.resetCause = .request ∧ t.resetHeld = false ∧
      t.config = State.reset.config ∧ t.manifest = State.reset.manifest ∧
      t.streams = State.reset.streams ∧ t.due = [] ∧ t.pool = State.reset.pool ∧
      t.departures = State.reset.departures ∧ t.counters = State.reset.counters ∧
      t.resume = (allBays.flatMap s.savedRecords).foldl ResumeTable.written s.resume ∧
      t.notices = { State.reset.notices with
        queue := [⟨s.clock.seconds, s.clock.valid,
          .bridgeStart .request (Config.strapPins s.strapReads) false t.resumeOccupied⟩] } ∧
      (∀ b, t.bay b = { Bay.initial with port := { Port.initial with
        phase := .forced, signal := (s.bay b).port.signal,
        forcedTimer := some ⟨s.clock.ticks, 100⟩ } }))

/-! ## Time and expiries -/

/-- 04 R74, R75, R84, R85, R86, 07 R142: a second event, whether the sub-count's passing or a SET
CLOCK, stores the new clock, recomputes every bay's R, N, S and urgency at it, by the first case of
R85 that applies, posts a LATE for each bay whose urgency becomes 3 and was not, counting a late
entry, and removes the resume records that have reached the hold time; SET CLOCK sets seconds and
sub-count, clamped to 999, the clock is then valid, and DONE carries the stored values. Streams,
pool, jobs and inventories stay. While a reset is in progress only the clock changes. Three clauses
are the model's: SECOND_EVENT sets the sub-count to 0 whatever it was (log 3, DESIGN CHOICE), and
with the reset pin low it does nothing else (log 22, DEDUCED); the bays' LATE notices come in
ascending bay (log 8, DESIGN CHOICE). -/
def Obligations.SecondEventRecomputes : Prop :=
  (∀ s : State, s.resetHeld = false →
    ∃ t, exec .secondEvent s = .next t ∧
      t.clock = { s.clock with sub := 0, seconds := s.clock.seconds + 1 } ∧
      (∀ b, (t.bay b).deadline = State.deadlineNow { s with clock := t.clock } b) ∧
      (∀ b, t.bayCounter b .lateEntries =
        if (State.lateNow { s with clock := t.clock } b).isSome
        then satInc (s.bayCounter b .lateEntries) else s.bayCounter b .lateEntries) ∧
      t.notices = ((allBays.filterMap (State.lateNow { s with clock := t.clock })).foldl
        State.post { s with clock := t.clock }).notices ∧
      (∀ p, t.resume.places.get p = (s.resume.places.get p).filter fun r =>
        decide ((t.clock.seconds - r.created).toNat < 60 * s.config.resumeHold)) ∧
      (∀ b, (t.bay b).jobs = (s.bay b).jobs ∧ (t.bay b).inventory = (s.bay b).inventory ∧
        (t.bay b).ctl = (s.bay b).ctl ∧ (t.bay b).channels = (s.bay b).channels ∧
        (t.bay b).txQueue = (s.bay b).txQueue) ∧
      s.sameLoads t ∧ s.sameUplink t ∧ t.streams = s.streams ∧ t.pool = s.pool) ∧
  (∀ s : State, s.resetHeld = true →
    exec .secondEvent s = .next
      { s with clock := { s.clock with sub := 0, seconds := s.clock.seconds + 1 } }) ∧
  (∀ (s : State) (q : QueuedRequest) (rest : List QueuedRequest) (seconds : Word) (sub : Half),
    s.serves q rest → q.request = .setClock seconds sub →
    ∃ u : State, exec .setClock s = .next (u.replied q .done
        (u32 seconds.toNat ++ u16 (min 999 sub.toNat))) ∧
      u.clock = { s.clock with seconds := seconds, sub := min 999 sub.toNat, valid := true } ∧
      (∀ b, (u.bay b).deadline = State.deadlineNow { s with clock := u.clock } b) ∧
      (∀ b, u.bayCounter b .lateEntries =
        if (State.lateNow { s with clock := u.clock } b).isSome
        then satInc (s.bayCounter b .lateEntries) else s.bayCounter b .lateEntries) ∧
      u.notices = ((allBays.filterMap (State.lateNow { s with clock := u.clock })).foldl
        State.post { s with clock := u.clock }).notices ∧
      (∀ p, u.resume.places.get p = (s.resume.places.get p).filter fun r =>
        decide ((u.clock.seconds - r.created).toNat < 60 * s.config.resumeHold)) ∧
      (∀ b, (u.bay b).jobs = (s.bay b).jobs ∧ (u.bay b).inventory = (s.bay b).inventory ∧
        (u.bay b).ctl = (s.bay b).ctl ∧ (u.bay b).channels = (s.bay b).channels ∧
        (u.bay b).txQueue = (s.bay b).txQueue) ∧
      s.sameLoads u ∧ u.uplink = s.uplink ∧ u.mgmt.queue = rest ∧ u.streams = s.streams ∧
      u.pool = s.pool)

/-- 02 R36, R38: when the hold limit of a slot's block expires, every bay of its delivery set loses
its queued entries of the slot, each of them needed again by its job, and counts a block detached;
the slot is free, and every other slot and every other bay stay. -/
def Obligations.HoldLimitDetaches : Prop :=
  ∀ (s : State) (sl : SlotId) (x : Slot), s.pool.get sl = some x → x.delivery.Nodup →
    ∃ t, exec (.holdLimitExpiry sl) s = .next t ∧
      t.pool.get sl = none ∧ (∀ k, k ≠ sl → t.pool.get k = s.pool.get k) ∧
      (∀ b, b ∉ x.delivery → t.bay b = s.bay b) ∧
      (∀ b, b ∈ x.delivery →
        (t.bay b).txQueue = (s.bay b).txQueue.filter (fun e => decide (e.slot ≠ sl)) ∧
        t.bayCounter b .blocksDetached = satInc (s.bayCounter b .blocksDetached) ∧
        (∀ e ∈ (s.bay b).txQueue, e.slot = sl → ∀ j, s.job b e.place = some j →
          ∃ k, t.job b e.place = some k ∧ inGaps k.gaps e.offset = true ∧
            { k with gaps := [] } = { j with gaps := [] }) ∧
        (t.bay b).channels = (s.bay b).channels ∧ (t.bay b).ctl = (s.bay b).ctl ∧
        (t.bay b).inventory = (s.bay b).inventory ∧ (t.bay b).port = (s.bay b).port) ∧
      s.sameLoads t ∧ t.uplink = s.uplink ∧ t.mgmt = s.mgmt ∧ t.resume = s.resume ∧
      t.clock = s.clock

/-- 03 R65, 04 R82, R83: a receipt timeout takes the oldest in-flight entry out of its channel's
list, gives the credit back, makes its offset needed again and is counted. When the entry is the
bay's probe, T rises by an eighth of the way to 65,535 and the probe is removed; otherwise T and the
probe stay. Where the offset lies in a gap range already, no range changes and no stream is judged
(02 R41, R45). -/
def Obligations.ReceiptTimeoutNeeds : Prop :=
  ∀ (s : State) (b : BayId) (c : ChannelId) (p : Place) (j : Job) (ch : Channel) (f : Flight)
      (rest : List Flight), s.held? b c = some (p, j, ch) → ch.inFlight = f :: rest →
    ∃ t, exec (.receiptTimeout b c) s = .next t ∧
      t.channel b c = some { ch with inFlight := rest, credit := ch.credit + 1 } ∧
      (∃ k, t.job b p = some k ∧ inGaps k.gaps (j.offsetOf f.sequence) = true ∧
        { k with gaps := [] } = { j with gaps := [] }) ∧
      (∀ q, q ≠ p → t.job b q = s.job b q) ∧
      (inGaps j.gaps (j.offsetOf f.sequence) = true →
        (t.bay b).jobs = (s.bay b).jobs ∧ t.streams = s.streams ∧ t.due = s.due) ∧
      t.bayCounter b .receiptTimeouts = satInc (s.bayCounter b .receiptTimeouts) ∧
      (∀ pr, (s.bay b).deadline.probe = some pr → pr.channel = c → pr.sequence = f.sequence →
        (s.bay b).deadline.serviceTime ≤ 65535 →
        (t.bay b).deadline = { (s.bay b).deadline with
          probe := none,
          serviceTime := (s.bay b).deadline.serviceTime +
            (65535 - (s.bay b).deadline.serviceTime) / 8 } ∧
        t.bayCounter b .probeTimeouts = satInc (s.bayCounter b .probeTimeouts)) ∧
      ((∀ pr, (s.bay b).deadline.probe = some pr → pr.channel ≠ c ∨ pr.sequence ≠ f.sequence) →
        (t.bay b).deadline = (s.bay b).deadline) ∧
      (t.bay b).txQueue = (s.bay b).txQueue ∧ (t.bay b).inventory = (s.bay b).inventory ∧
      (t.bay b).ctl = (s.bay b).ctl ∧ (t.bay b).port = (s.bay b).port ∧
      s.sameOtherBays t b ∧ s.sameLoads t ∧ t.pool = s.pool ∧ t.resume = s.resume ∧
      t.uplink = s.uplink ∧ t.mgmt = s.mgmt

/-- 03 R57: the open timer's first expiry places the CHANNEL OPEN once more with the same tag and
start sequence, unless it still waits unsent, and changes nothing else; its second frees the channel
and returns the job to QUEUED with its deferred flag set and its progress kept, and counts an open
failure. -/
def Obligations.OpenTimerExpires : Prop :=
  ∀ (s : State) (b : BayId) (c : ChannelId) (p : Place) (j : Job) (ch : Channel) (timer : Timer),
    s.held? b c = some (p, j, ch) → j.state = .opening → ch.openTimer = some timer →
    (ch.openExpired = false →
      (∀ f ∈ (s.bay b).port.control, ControlFrame.opens c f = false) →
      exec (.openTimerExpiry b c) s = .next (s.setBay b { s.bay b with
        channels := (s.bay b).channels.modify c.val fun y =>
          { y with openTimer := none, openExpired := true },
        port := { (s.bay b).port with control := (s.bay b).port.control ++
          [.channelOpen c j.tag j.identity (s.stream j.stream).lastLength j.start] } })) ∧
    (ch.openExpired = false →
      (∃ f ∈ (s.bay b).port.control, ControlFrame.opens c f = true) →
      exec (.openTimerExpiry b c) s = .next (s.setBay b { s.bay b with
        channels := (s.bay b).channels.modify c.val fun y =>
          { y with openTimer := none, openExpired := true } })) ∧
    (ch.openExpired = true → ch.inFlight = [] →
      ∃ t, exec (.openTimerExpiry b c) s = .next t ∧
        t.job b p = some { j with state := .queued, channel := none, deferred := true } ∧
        t.bayCounter b .openFailures = satInc (s.bayCounter b .openFailures) ∧
        (t.bay b).ctl = (s.bay b).ctl ∧ (t.bay b).inventory = (s.bay b).inventory ∧
        (t.bay b).txQueue = (s.bay b).txQueue ∧ s.sameOtherBays t b ∧ s.sameLoads t ∧
        s.sameBlocks t ∧ s.sameUplink t)

/-- 05 R96, R97, R99, R101: the activation timer's first expiry takes the member and the controller
to REVERTING and places a REVERT to the previous running version; nothing else changes. Its second
ends the activation FAULT: the record is blocked with its versions as they were and loses its job
reference, an INVENTORY REQUEST waits, the outcome is counted, and UNIT RESULT is posted; the job,
in STAGED, in CLOSING, or in its transfer with a PENDING member left (03 R53), goes on while another
of its members is not terminal, staged ones among them; the controller is then IDLE, or in SERVING
with the vehicle PARKED already SELECTED again with the lowest unit that may be activated.
ActivationDone says what follows when no member of the job is left to judge. -/
def Obligations.ActivationTimerExpires : Prop :=
  ∀ (s : State) (b : BayId) (t : ActTarget) (previous : Version) (timer : Timer),
    ((s.bay b).activation = .activating t previous timer →
      exec (.activationFirstExpiry b) s = .next (s.setBay b { s.bay b with
        activation := .reverting t previous none,
        jobs := (s.bay b).jobs.modify t.place (Option.map fun j =>
          j.modMember t.unit fun m => { m with state := .reverting }),
        port := { (s.bay b).port with
          control := (s.bay b).port.control ++ [.revert t.unit previous] },
        counters := (s.bay b).counters.modify BayCounter.activationTimeouts.index satInc })) ∧
    (∀ (r : UnitRecord) (j : Job), (s.bay b).activation = .reverting t previous (some timer) →
      (s.bay b).unit? t.unit = some r →
      s.job b t.place = some j → j.live = true → (∃ m, j.member? t.unit = some m) →
      (∃ m ∈ j.members, m.unit ≠ t.unit ∧ m.state.terminal = false) →
      (j.state = .staged ∨ j.state = .closing ∨
        ∃ m ∈ j.members, m.unit ≠ t.unit ∧ m.state = .pending) →
      ∃ s', exec (.activationSecondExpiry b) s = .next s' ∧
        s.selectsNext s' b t.unit ∧
        (∀ m, j.member? t.unit = some m →
          s'.notices = (s.post (.unitResult b (s.bay b).ctl.vehicle t.unit .fault .secondExpiry
            t.target previous none none m.link)).notices) ∧
        (s'.bay b).unit? t.unit = some { r with blocked := true, job := none } ∧
        s'.job b t.place = some (j.modMember t.unit fun m => { m with state := .fault }) ∧
        (∃ own, ControlFrame.inventoryRequest own ∈ (s'.bay b).port.control) ∧
        s'.bayCounter b .outcomesFault = satInc (s.bayCounter b .outcomesFault) ∧
        s'.bayCounter b .activationTimeouts = satInc (s.bayCounter b .activationTimeouts) ∧
        (s'.bay b).ctl = (s.bay b).ctl ∧ (s'.bay b).txQueue = (s.bay b).txQueue ∧
        s.sameOtherBays s' b ∧ s.sameLoads s' ∧ s.sameBlocks s' ∧ s.sameUplink s')

/-! ## Bay links -/

/-- 06 R110, 07 R129, R139: signal detect in DOWN takes the port to PROBING at line rate 0 with no
switch attempts, a clear qualifier, watchdog age 0 and a CAPS placed, and a VACANT bay enters
TRAINING and posts BAY STATE; at the end of the 100 ms of FORCED a port with signal does the same,
and one without enters DOWN. Nothing else changes. -/
def Obligations.TrainingStarts : Prop :=
  (∀ (s : State) (b : BayId),
    (s.bay b).port.phase = .down → (s.bay b).ctl.state = .vacant →
    exec (.signalDetect b) s = .next ((s.setBay b { s.bay b with
      port := { (s.bay b).port with
        phase := .probing, lineRate := 0, switchAttempts := 0, qualified := false, qualCount := 0,
        watchdog := 0, linkFrame := some .caps, signal := true, capsAge := none,
        switchTimer := none, fallbackTimer := none, forcedTimer := none },
      ctl := { (s.bay b).ctl with state := .training } }).post
      (.bayState b .vacant .training .trainingBegun (s.bay b).ctl.vehicle 0 0 false))) ∧
  (∀ (s : State) (b : BayId) (timer : Timer),
    (s.bay b).port.phase = .forced → (s.bay b).port.forcedTimer = some timer →
    ((s.bay b).port.signal = false →
      exec (.forcedPeriodEnd b) s = .next (s.setBay b { s.bay b with
        port := { (s.bay b).port with phase := .down, forcedTimer := none } })) ∧
    ((s.bay b).port.signal = true → (s.bay b).ctl.state = .vacant →
      exec (.forcedPeriodEnd b) s = .next ((s.setBay b { s.bay b with
        port := { (s.bay b).port with
          phase := .probing, lineRate := 0, switchAttempts := 0, qualified := false,
          qualCount := 0, watchdog := 0, linkFrame := some .caps, capsAge := none,
          switchTimer := none, fallbackTimer := none, forcedTimer := none },
        ctl := { (s.bay b).ctl with state := .training } }).post
        (.bayState b .vacant .training .trainingBegun (s.bay b).ctl.vehicle 0 0 false))))

/-- 06 R111: a CAPS is placed again when a heartbeat period has passed since the last one was sent
without an answer. The agent's CAPS in PROBING gives the agent maximum, a value above 3 being taken
as 3, and when the smaller of it and the bay's maximum is above 0 and fewer than two attempts have
been made, a RETRAIN to that rate is placed. It also stops the resending of CAPS and sets the
watchdog age to 0; that it restarts the watchdog, as 06 R119 has every valid frame do, is the
model's deduction (log 11, DEDUCED). Beyond that nothing changes. -/
def Obligations.CapsExchanged : Prop :=
  (∀ (s : State) (b : BayId) (age : Nat),
    (s.bay b).port.phase = .probing → (s.bay b).port.capsAge = some age →
    exec (.capsResend b) s = .next (s.setBay b { s.bay b with
      port := { (s.bay b).port with linkFrame := some .caps, capsAge := none } })) ∧
  (∀ (s : State) (b : BayId) (code : Byte) (m : RateCode),
    (s.bay b).port.phase = .probing → m.val = min code.toNat 3 → min m (s.bay b).maxRate ≠ 0 →
    (s.bay b).port.switchAttempts < 2 →
    exec (.agentCaps b code) s = .next (s.setBay b { s.bay b with
      port := { (s.bay b).port with
        agentMax := some m, watchdog := 0, capsAge := none,
        linkFrame := some (.retrain (min m (s.bay b).maxRate)) } }))

/-- 06 R112: the expiry of the switch timer counts a switch failure, returns the line rate to 0,
discards the link frame and waits a further 200 ms; signal at the new rate places a CAPS, and signal
at 10 Mb/s within the wait takes the port to PROBING with its attempts kept. Nothing else changes.
That signal found at the new rate once more in the same switch places another CAPS is the model's
choice (log 11). -/
def Obligations.SwitchingEvents : Prop :=
  ∀ (s : State) (b : BayId) (timer : Timer), (s.bay b).port.phase = .switching →
    ((s.bay b).port.switchTimer = some timer →
      exec (.switchTimerExpiry b) s = .next (s.setBay b { s.bay b with
        port := { (s.bay b).port with
          lineRate := 0, linkFrame := none, switchTimer := none,
          fallbackTimer := some ⟨s.clock.ticks, 200⟩ },
        counters := (s.bay b).counters.modify BayCounter.switchFailures.index satInc }) ∧
      exec (.signalAtNewRate b) s = .next (s.setBay b { s.bay b with
        port := { (s.bay b).port with signal := true, linkFrame := some .caps } })) ∧
    ((s.bay b).port.fallbackTimer = some timer →
      exec (.signalAtFallbackRate b) s = .next (s.setBay b { s.bay b with
        port := { (s.bay b).port with
          phase := .probing, lineRate := 0, qualified := false, qualCount := 0, watchdog := 0,
          linkFrame := some .caps, signal := true, capsAge := none, switchTimer := none,
          fallbackTimer := none, forcedTimer := none } }))

/-- 06 R111 to R113, 07 R129, R130: training ends at rate 0 on an agent's CAPS in PROBING when the
chosen rate is 0 or two attempts have been made, and at the new rate on one in SWITCHING before the
switch timer expires. The port enters TRAINED with that trained rate and line rate, the trainings at
that rate are counted, and a bay in TRAINING enters QUALIFYING. With a threshold above 0 the port is
then unqualified; with a threshold of 0 it is qualified at once, and a bay without pending HELLO or
vehicle goes on to INTAKE. That a link frame still waiting is dropped here is the model's deduction,
which R113 does not list (log 11, DEDUCED). -/
def Obligations.TrainingEnds : Prop :=
  ∀ (s : State) (b : BayId) (code : Byte) (m : RateCode) (r : RateCode),
    m.val = min code.toNat 3 → (s.bay b).ctl.state = .training →
    (((s.bay b).port.phase = .probing ∧
        (min m (s.bay b).maxRate = 0 ∨ 2 ≤ (s.bay b).port.switchAttempts) ∧ r = 0) ∨
      ((s.bay b).port.phase = .switching ∧ (s.bay b).port.switchTimer.isSome ∧
        r = (s.bay b).port.lineRate)) →
    (s.config.threshold ≠ 0 →
      exec (.agentCaps b code) s = .next ((s.setBay b { s.bay b with
        port := { (s.bay b).port with
          phase := .trained, lineRate := r, trainedRate := some r, agentMax := some m,
          qualified := false, qualCount := 0, watchdog := 0, linkFrame := none, capsAge := none,
          switchTimer := none, fallbackTimer := none },
        ctl := { (s.bay b).ctl with state := .qualifying },
        counters := (s.bay b).counters.modify (trainingCounter r).index satInc }).post
        (.bayState b .training .qualifying (.trainingDone r) (s.bay b).ctl.vehicle 0 0 false))) ∧
    (s.config.threshold = 0 → (s.bay b).ctl.pendingHello = none → (s.bay b).ctl.vehicle = none →
      (s.bay b).ctl.intakeTimer = none →
      exec (.agentCaps b code) s = .next (((s.setBay b { s.bay b with
        port := { (s.bay b).port with
          phase := .trained, lineRate := r, trainedRate := some r, agentMax := some m,
          qualified := true, qualCount := 0, watchdog := 0, linkFrame := none, capsAge := none,
          switchTimer := none, fallbackTimer := none },
        ctl := { (s.bay b).ctl with
          state := .intake, intakeTimer := some ⟨s.clock.ticks, 10000⟩ },
        counters := ((s.bay b).counters.modify (trainingCounter r).index satInc).modify
          BayCounter.qualificationsGained.index satInc }).post
        (.bayState b .training .qualifying (.trainingDone r) none 0 0 false)).post
        (.bayState b .qualifying .intake .qualified none 0 0 false)))

/-- 06 R115: a frame failing the frame check, of a kind the agent does not send, or of a wrong
length is counted by the first test it fails, and under DISCARD nothing else changes; in DOWN and
FORCED nothing is judged at all. A frame cut short is counted, and nothing else changes; that it is
counted in every port phase, DOWN and FORCED among them, is the model's choice (log 21, DESIGN
CHOICE), and so is the frame check error of a frame under 4 bytes (log 31, DESIGN CHOICE). -/
def Obligations.FrameErrorsCounted : Prop :=
  (∀ (s : State) (b : BayId) (bytes : List Byte) (c : BayCounter),
    ((judgeBayFrame bytes = .checkError ∧ c = .frameCheckErrors) ∨
      (judgeBayFrame bytes = .unknownKind ∧ c = .unknownKindErrors) ∨
      (judgeBayFrame bytes = .lengthError ∧ c = .lengthErrors)) →
    (((s.bay b).port.phase = .probing ∨ (s.bay b).port.phase = .switching ∨
        ((s.bay b).port.phase = .trained ∧ s.config.errorMode = .discard)) →
      exec (.bayFrameError b bytes) s = .next (s.setBay b { s.bay b with
        counters := (s.bay b).counters.modify c.index satInc })) ∧
    (((s.bay b).port.phase = .down ∨ (s.bay b).port.phase = .forced) →
      exec (.bayFrameError b bytes) s = .next s)) ∧
  (∀ (s : State) (b : BayId),
    exec (.frameCutShort b) s = .next (s.setBay b { s.bay b with
      counters := (s.bay b).counters.modify BayCounter.framesCutShort.index satInc }))

/-- 06 R115, test 1: the first test a frame fails is the frame check, whatever its kind and length:
a frame is judged further exactly when its last four bytes are the 32-bit check of the bytes before
them. That a frame of fewer than 4 bytes fails this test is the model's choice (log 31, DESIGN
CHOICE). -/
def Obligations.CheckJudgedFirst : Prop :=
  ∀ bytes : List Byte,
    (judgeBayFrame bytes ≠ .checkError ↔
      ∃ body, bytes = body ++ [BitVec.ofNat 8 ((crc32 body).toNat / 16777216),
        BitVec.ofNat 8 ((crc32 body).toNat / 65536), BitVec.ofNat 8 ((crc32 body).toNat / 256),
        BitVec.ofNat 8 (crc32 body).toNat])

/-- 06 R115, R118, R120: under RELATCH a frame error, whether of the frame check, of an unknown kind
or of the length, and in either mode two heartbeat periods without a valid frame, take the
qualification of a qualified port in TRAINED away: the count is 0, the error and the losses are
counted, and a bay in INTAKE goes back to QUALIFYING with a BAY STATE notice. That a frame of fewer
than 4 bytes is a frame check error is the model's choice (log 31, DESIGN CHOICE). -/
def Obligations.QualificationLostInIntake : Prop :=
  ∀ (s : State) (b : BayId),
    (s.bay b).port.phase = .trained → (s.bay b).port.qualified = true →
    (s.bay b).ctl.state = .intake →
    (∀ (bytes : List Byte) (c : BayCounter),
      ((judgeBayFrame bytes = .checkError ∧ c = .frameCheckErrors) ∨
        (judgeBayFrame bytes = .unknownKind ∧ c = .unknownKindErrors) ∨
        (judgeBayFrame bytes = .lengthError ∧ c = .lengthErrors)) →
      s.config.errorMode = .relatch →
      exec (.bayFrameError b bytes) s = .next ((s.setBay b { s.bay b with
        port := { (s.bay b).port with qualified := false, qualCount := 0 },
        ctl := { (s.bay b).ctl with state := .qualifying },
        counters := (((s.bay b).counters.modify c.index satInc).modify
          BayCounter.relatches.index satInc).modify BayCounter.qualificationsLost.index satInc }).post
        (.bayState b .intake .qualifying .qualificationLost (s.bay b).ctl.vehicle 0 0 false))) ∧
    exec (.watchdogTwoPeriods b) s = .next ((s.setBay b { s.bay b with
      port := { (s.bay b).port with qualified := false, qualCount := 0 },
      ctl := { (s.bay b).ctl with state := .qualifying },
      counters := ((s.bay b).counters.modify BayCounter.watchdogLosses.index satInc).modify
        BayCounter.qualificationsLost.index satInc }).post
      (.bayState b .intake .qualifying .qualificationLost (s.bay b).ctl.vehicle 0 0 false))

/-- 06 R118, R120, 07 R136, 03 R69, 02 R41, R42: a SERVING or DEPARTING bay whose qualified port
goes two heartbeat periods without a valid frame, or under RELATCH receives a frame error of any
sort, loses its qualification and enters HOLDING with its holding timer started, its queue of blocks
empty, and the error, the loss and a holding entry counted. From SERVING, a stream that no other
bay's job wants is satisfied with its credit revoked; from DEPARTING, with no block queued, no
stream changes, since the bay's jobs counted no longer. Its channels, and every job but for its gap
list, stay as they were, and so does every other bay. That streams are judged before the queue is
given up is the model's choice (log 8, DESIGN CHOICE), and so is the frame check error of a frame
under 4 bytes (log 31, DESIGN CHOICE). -/
def Obligations.QualificationLossHolds : Prop :=
  ∀ (s : State) (b : BayId) (i : Instr) (n : BayCounter),
    (s.bay b).port.phase = .trained → (s.bay b).port.qualified = true →
    ((s.bay b).ctl.state = .serving ∨ (s.bay b).ctl.state = .departing) →
    ((i = .watchdogTwoPeriods b ∧ n = .watchdogLosses) ∨
      (∃ bytes, i = .bayFrameError b bytes ∧ s.config.errorMode = .relatch ∧ n = .relatches ∧
        (judgeBayFrame bytes = .checkError ∨ judgeBayFrame bytes = .unknownKind ∨
          judgeBayFrame bytes = .lengthError))) →
    ∃ t, exec i s = .next t ∧
      (t.bay b).ctl = { (s.bay b).ctl with
        state := .holding,
        holdingTimer := some ⟨s.clock.ticks, s.config.holdingTime * 1000⟩ } ∧
      (t.bay b).port = { (s.bay b).port with qualified := false, qualCount := 0 } ∧
      (t.bay b).txQueue = [] ∧ (t.bay b).channels = (s.bay b).channels ∧
      (∀ p, ((t.bay b).jobs.get p).map (fun j => { j with gaps := [] }) =
        ((s.bay b).jobs.get p).map fun j => { j with gaps := [] }) ∧
      (t.bay b).inventory = (s.bay b).inventory ∧ (t.bay b).activation = (s.bay b).activation ∧
      t.bayCounter b n = satInc (s.bayCounter b n) ∧
      t.bayCounter b .qualificationsLost = satInc (s.bayCounter b .qualificationsLost) ∧
      (∀ bytes c, i = .bayFrameError b bytes →
        ((judgeBayFrame bytes = .checkError ∧ c = .frameCheckErrors) ∨
          (judgeBayFrame bytes = .unknownKind ∧ c = .unknownKindErrors) ∨
          (judgeBayFrame bytes = .lengthError ∧ c = .lengthErrors)) →
        t.bayCounter b c = satInc (s.bayCounter b c)) ∧
      t.bayCounter b .holdingEntries = satInc (s.bayCounter b .holdingEntries) ∧
      ((s.bay b).ctl.state = .serving → s.withheld t b) ∧
      ((s.bay b).ctl.state = .departing → (s.bay b).txQueue = [] →
        (t.bay b).jobs = (s.bay b).jobs ∧ s.sameBlocks t ∧ t.due = s.due) ∧
      s.sameOtherBays t b ∧ s.sameLoads t ∧ t.resume = s.resume ∧ t.uplink = s.uplink

/-- 06 R122, 07 R137, R141: a drop of the link, by loss of signal in PROBING or TRAINED, by want of
signal at 10 Mb/s after a switch failure, by eight silent heartbeat periods, at the intake time or
at the holding time, clears the port, enters DOWN for a lost signal and FORCED for 100 ms otherwise,
and tears down a bay that is not VACANT: no vehicle, no jobs, no inventory, no channels, an IDLE
activation controller, and a teardown counted. A resume record of each of its unfinished transfers
is counted and, where no pending replacement lets a builder take records up again in the same step,
stands in the resume table as R141 places it; the order in which a full gap list takes the offsets
needed again is the model's (log 28, DESIGN CHOICE). -/
def Obligations.LinkDropTearsDown : Prop :=
  ∀ (s : State) (b : BayId) (i : Instr) (down : Bool),
    (s.bay b).ctl.state ≠ .vacant →
    ((i = .signalLost b ∧ down = true ∧
        ((s.bay b).port.phase = .probing ∨ (s.bay b).port.phase = .trained)) ∨
      (i = .switchFallbackExpiry b ∧ down = true ∧ (s.bay b).port.phase = .switching ∧
        (s.bay b).port.fallbackTimer.isSome) ∨
      (i = .watchdogEightPeriods b ∧ down = false ∧
        ((s.bay b).port.phase = .probing ∨ (s.bay b).port.phase = .trained)) ∨
      (i = .intakeTimerExpiry b ∧ down = false ∧ (s.bay b).ctl.intakeTimer.isSome ∧
        (s.bay b).port.phase = .trained) ∨
      (i = .holdingTimerExpiry b ∧ down = false ∧ (s.bay b).ctl.holdingTimer.isSome ∧
        (s.bay b).port.phase = .trained)) →
    ∃ t, exec i s = .next t ∧
      (t.bay b).port = { Port.initial with
        phase := if down then .down else .forced,
        watchdog := (s.bay b).port.watchdog,
        signal := if down then false else (s.bay b).port.signal,
        forcedTimer := if down then none else some ⟨s.clock.ticks, 100⟩ } ∧
      (t.bay b).ctl = Controller.initial ∧ (t.bay b).jobs = Table.fill 8 none ∧
      (t.bay b).inventory = [] ∧ (t.bay b).truncated = false ∧ (t.bay b).channels = [] ∧
      (t.bay b).txQueue = [] ∧ (t.bay b).activation = .idle ∧
      (t.bay b).deadline = { Deadline.initial with
        serviceTime := (s.bay b).deadline.serviceTime } ∧
      t.bayCounter b .teardowns = satInc (s.bayCounter b .teardowns) ∧
      t.bayCounter b .resumeRecordsWritten = Nat.repeat satInc (s.savedRecords b).length
        (s.bayCounter b .resumeRecordsWritten) ∧
      ((∀ i, (s.entry i).replacement = none) →
        t.resume = (s.savedRecords b).foldl ResumeTable.written s.resume) ∧
      t.config = s.config ∧ t.departures = s.departures ∧ t.uplink = s.uplink ∧
      t.mgmt = s.mgmt ∧ t.clock = s.clock

/-! ## The agent's frames -/

/-- 06 R113, R116: a CAPS in TRAINED is a valid frame that is only counted; nothing else changes. In
DOWN and FORCED no frame is judged at all, and in PROBING and SWITCHING a frame of any other kind
than CAPS that is valid only restarts the watchdog and is counted (06 R110, R114). -/
def Obligations.FramesOutsideService : Prop :=
  ∀ (s : State) (b : BayId),
    (∀ code, s.hears b → exec (.agentCaps b code) s =
      .next (s.setBay b (((s.bay b).heard s.config.threshold).counted .capsOutsideTraining))) ∧
    (∀ (h : HelloFrame) (v : Byte) (items : List InventoryItem) (f : OpenAckFrame)
        (g : ReceiptFrame) (k : CloseResultFrame) (u : UnitReportFrame) (body : List Byte)
        (i : Instr),
      (i = .hello b h ∨ i = .heartbeat b v ∨ i = .inventory b items ∨ i = .openAck b f ∨
        i = .receipt b g ∨ i = .closeResult b k ∨ i = .unitReport b u ∨ i = .passUp b body) →
      (((s.bay b).port.phase = .down ∨ (s.bay b).port.phase = .forced) → exec i s = .next s) ∧
      (((s.bay b).port.phase = .probing ∨ (s.bay b).port.phase = .switching) →
        items.length ≤ 64 → 1 ≤ g.sequences.length → g.sequences.length ≤ 8 →
        k.items.length ≤ 64 → 1 ≤ body.length → body.length ≤ 1024 →
        exec i s = .next (s.setBay b (({ s.bay b with
          port := { (s.bay b).port with watchdog := 0 } } : Bay).counted
            .framesDiscardedInTraining)))) ∧
    (∀ code, ((s.bay b).port.phase = .down ∨ (s.bay b).port.phase = .forced) →
      exec (.agentCaps b code) s = .next s)

/-- 06 R117, 07 R129 to R131, R136, 03 R70: a valid frame of any kind that brings the count of an
unqualified port in TRAINED to the threshold qualifies it first, and is then taken in the state so
reached; a threshold lowered below the count, and one of 0, is reached at once (that the count then
stays as it was is log 34, DESIGN CHOICE). A bay in QUALIFYING enters INTAKE: its intake timer of 10
s starts, or keeps the start it had; a pending HELLO of a vehicle that no other bay holds is
processed and becomes absent, with the items, channels and INVENTORY REQUEST of R131, the PASS-DOWN
frames of another vehicle held before being flushed; and with a vehicle held an INVENTORY REQUEST
waits. A CAPS is then counted, and a HEARTBEAT discarded where no vehicle is held. A bay in HOLDING
stops its holding timer and enters DEPARTING when its vehicle has announced its departure, without a
channel assigned, and SERVING otherwise: deferred flags are cleared, a stream that a RECEIVING job
wants is no longer satisfied, and free channels are given to QUEUED jobs. That DEPARTING so entered
counts a departure announced is the model's deduction (log 27, DEDUCED). -/
def Obligations.QualificationGained : Prop :=
  ∀ (s : State) (b : BayId), s.qualifiesNext b →
    ((s.bay b).ctl.state = .qualifying →
      ∀ (x y : Bay) (c : Controller) (w : List ControlFrame) (u : State),
        c = { (s.bay b).ctl with
          state := .intake,
          intakeTimer := some ((s.bay b).ctl.intakeTimer.getD ⟨s.clock.ticks, 10000⟩) } →
        x = { (s.bay b).gained s.config.threshold with ctl := c } →
        (((∃ own, ControlFrame.inventoryRequest own ∈ (s.bay b).port.control) ∧
            w = (s.bay b).port.control) ∨
          ((∀ own, ControlFrame.inventoryRequest own ∉ (s.bay b).port.control) ∧
            w = (s.bay b).port.control ++ [.inventoryRequest false])) →
        ((c.pendingHello = none ∧ c.vehicle = none ∧ y = x) ∨
          (c.pendingHello = none ∧ c.vehicle ≠ none ∧
            y = { x with port := { x.port with control := w } }) ∨
          (∃ (h : HelloFrame) (v : VehicleState) (z : Bay), c.pendingHello = some h ∧
            readVehicleState h.vehicleState = some v ∧
            (∀ a, a ≠ b → (s.bay a).ctl.vehicle ≠ some h.vehicle) ∧
            z = { x with
              ctl := { c with
                pendingHello := none, vehicle := some h.vehicle, announced := some h.period,
                period := max 100 (min 2000 h.period.toNat), vehicleState := some v,
                channelCount := some (max 1 (min 4 h.channels.toNat)),
                credits := some (max 1 (min 16 h.credits.toNat)) },
              channels := List.replicate (max 1 (min 4 h.channels.toNat))
                { job := none, credit := max 1 (min 16 h.credits.toNat), inFlight := [], tag := 0,
                  openTimer := none, openExpired := false, closeTimer := none },
              port := { x.port with control := w },
              counters := x.counters.modify BayCounter.hellosProcessed.index satInc } ∧
            (((c.vehicle = none ∨ c.vehicle = some h.vehicle) ∧ y = z) ∨
              (c.vehicle ≠ none ∧ c.vehicle ≠ some h.vehicle ∧
                y = { z with
                  port := { z.port with passDown := [] },
                  counters := z.counters.modify BayCounter.passDownFlushed.index
                    (Nat.repeat satInc (s.bay b).port.passDown.length) })))) →
        u = (s.setBay b y).post
          (.bayState b .qualifying .intake .qualified (s.bay b).ctl.vehicle 0 0 false) →
        (∀ i, validFrameOn b i → exec i s = exec i u) ∧ u.hears b ∧
        (∀ code, exec (.agentCaps b code) s = .next (u.setBay b
          ((y.heard s.config.threshold).counted .capsOutsideTraining))) ∧
        (∀ v, y.ctl.vehicle = none → exec (.heartbeat b v) s = .next (u.setBay b
          ((y.heard s.config.threshold).counted .heartbeatsDiscarded)))) ∧
    ((s.bay b).ctl.state = .holding →
      ∃ u, (∀ i, validFrameOn b i → exec i s = exec i u) ∧ u.hears b ∧
        (∀ code, exec (.agentCaps b code) s = .next (u.setBay b
          (((u.bay b).heard s.config.threshold).counted .capsOutsideTraining))) ∧
        (u.bay b).port.qualified = true ∧ (u.bay b).port.phase = .trained ∧
        (u.bay b).port.qualCount = max s.config.threshold (s.bay b).port.qualCount ∧
        (u.bay b).port.watchdog = 0 ∧
        u.bayCounter b .qualificationsGained = satInc (s.bayCounter b .qualificationsGained) ∧
        ((s.bay b).ctl.vehicleState = some .departing →
          (u.bay b).ctl = { (s.bay b).ctl with state := .departing, holdingTimer := none } ∧
          (u.bay b).txQueue = [] ∧ (u.bay b).channels = (s.bay b).channels ∧
          u.bayCounter b .departuresAnnounced = satInc (s.bayCounter b .departuresAnnounced)) ∧
        ((s.bay b).ctl.vehicleState ≠ some .departing →
          (u.bay b).ctl = { (s.bay b).ctl with state := .serving, holdingTimer := none } ∧
          s.returned u b) ∧
        s.sameOtherBays u b ∧ s.sameLoads u ∧ u.uplink = s.uplink ∧ u.mgmt = s.mgmt)

/-- 07 R131, R132, R135: a HELLO of vehicle 0 or of an unknown vehicle state is discarded, as is one
of another vehicle on a bay in SERVING, HOLDING or DEPARTING; one in QUALIFYING is kept as the
pending HELLO; and one of the vehicle that the bay holds updates the announced period, the period in
force and the vehicle state, and is counted as repeated: in HOLDING, in DEPARTING showing DEPARTING,
and in SERVING showing SERVICE nothing else changes, and in SERVING showing PARKED the activation
controller then looks. DepartureAnnounced says what one does that takes a bay to DEPARTING or back.
-/
def Obligations.HelloKeptOrRepeated : Prop :=
  (∀ (s : State) (b : BayId) (h : HelloFrame), s.hears b →
    ((h.vehicle = 0 ∨ readVehicleState h.vehicleState = none ∨
        (((s.bay b).ctl.state = .serving ∨ (s.bay b).ctl.state = .holding ∨
          (s.bay b).ctl.state = .departing) ∧ (s.bay b).ctl.vehicle ≠ some h.vehicle)) →
      exec (.hello b h) s = .next (s.setBay b
        (((s.bay b).heard s.config.threshold).counted .hellosDiscarded))) ∧
    (h.vehicle ≠ 0 → readVehicleState h.vehicleState ≠ none →
      (s.bay b).ctl.state = .qualifying →
      exec (.hello b h) s = .next (s.setBay b { (s.bay b).heard s.config.threshold with
        ctl := { (s.bay b).ctl with pendingHello := some h } }))) ∧
  (∀ (s : State) (b : BayId) (h : HelloFrame) (v : VehicleState) (t : State), s.hears b →
    h.vehicle ≠ 0 → readVehicleState h.vehicleState = some v →
    (s.bay b).ctl.vehicle = some h.vehicle →
    t = s.setBay b ({ (s.bay b).heard s.config.threshold with
      ctl := { (s.bay b).ctl with
        announced := some h.period, period := max 100 (min 2000 h.period.toNat),
        vehicleState := some v } }.counted .hellosRepeated) →
    (((s.bay b).ctl.state = .holding ∨
        ((s.bay b).ctl.state = .departing ∧ v = .departing) ∨
        ((s.bay b).ctl.state = .serving ∧ v = .service)) →
      exec (.hello b h) s = .next t) ∧
    ((s.bay b).ctl.state = .serving → v = .parked → exec (.hello b h) s = .next (t.look b)))

/-- 07 R131, 03 R54: a HELLO processed in INTAKE, of a vehicle that no other bay holds, stores the
vehicle, its period as announced and clamped into 100 to 2000 ms, and its state; it sets up 1 to 4
free channels with 1 to 16 credits each and tag 0, and places an INVENTORY REQUEST when none waits.
-/
def Obligations.HelloProcessed : Prop :=
  ∀ (s : State) (b : BayId) (h : HelloFrame) (v : VehicleState), s.hears b →
    h.vehicle ≠ 0 → readVehicleState h.vehicleState = some v → (s.bay b).ctl.state = .intake →
    (∀ a, a ≠ b → (s.bay a).ctl.vehicle ≠ some h.vehicle) → (s.bay b).ctl.vehicle = none →
    (s.bay b).port.control = [] →
    exec (.hello b h) s = .next (s.setBay b ({ (s.bay b).heard s.config.threshold with
      ctl := { (s.bay b).ctl with
        vehicle := some h.vehicle, announced := some h.period,
        period := max 100 (min 2000 h.period.toNat), vehicleState := some v,
        channelCount := some (max 1 (min 4 h.channels.toNat)),
        credits := some (max 1 (min 16 h.credits.toNat)) },
      channels := List.replicate (max 1 (min 4 h.channels.toNat))
        { job := none, credit := max 1 (min 16 h.credits.toNat), inFlight := [], tag := 0,
          openTimer := none, openExpired := false, closeTimer := none },
      port := { ((s.bay b).heard s.config.threshold).port with
        control := [.inventoryRequest false] } }.counted .hellosProcessed))

/-- 07 R130, R131, R133: before a HELLO is processed in INTAKE, on its arrival there or as the
pending HELLO at the entry into INTAKE that a valid frame's qualification brings, another bay that
holds its vehicle is torn down by a forced drop, its port in FORCED, and counted; the vehicle ends
up on the bay of the HELLO. -/
def Obligations.DuplicateVehicleMoves : Prop :=
  ∀ (s : State) (a b : BayId) (h : HelloFrame) (i : Instr), a ≠ b →
    ((i = .hello b h ∧ s.hears b ∧ (s.bay b).ctl.state = .intake) ∨
      (∃ code, i = .agentCaps b code ∧ s.qualifiesNext b ∧ (s.bay b).ctl.state = .qualifying ∧
        (s.bay b).ctl.pendingHello = some h)) →
    h.vehicle ≠ 0 → readVehicleState h.vehicleState ≠ none →
    (s.bay a).ctl.vehicle = some h.vehicle → (s.bay a).ctl.state ≠ .vacant →
    (s.bay a).port.phase = .trained →
    ∃ t, exec i s = .next t ∧
      (t.bay a).ctl = Controller.initial ∧ (t.bay a).port.phase = .forced ∧
      (t.bay a).jobs = Table.fill 8 none ∧ (t.bay b).ctl.vehicle = some h.vehicle ∧
      t.bayCounter a .duplicateTeardowns = satInc (s.bayCounter a .duplicateTeardowns)

/-- 07 R135, 05 R90, R91, R92: a HEARTBEAT of an unknown vehicle state, or on a bay without a
vehicle or in VACANT or TRAINING, is discarded; taken in INTAKE, QUALIFYING or HOLDING, or showing
DEPARTING in DEPARTING or SERVICE in SERVING, it only stores its state. One showing PARKED in
SERVING stores it, and an IDLE activation controller then selects, among the members that are STAGED
in a live job, whose unit holds the target on standby and whose entry is ACTIVE and lets its units
be activated, in an open window, the one with the lowest unit address, and places its ACTIVATE;
without such a member, or out of IDLE, it does nothing more. -/
def Obligations.HeartbeatStored : Prop :=
  ∀ (s : State) (b : BayId) (code : Byte), s.hears b →
    ((readVehicleState code = none ∨ (s.bay b).ctl.vehicle = none ∨
        (s.bay b).ctl.state = .vacant ∨ (s.bay b).ctl.state = .training) →
      exec (.heartbeat b code) s = .next (s.setBay b
        (((s.bay b).heard s.config.threshold).counted .heartbeatsDiscarded))) ∧
    (∀ v, readVehicleState code = some v → (s.bay b).ctl.vehicle ≠ none →
      ((s.bay b).ctl.state = .intake ∨ (s.bay b).ctl.state = .qualifying ∨
        (s.bay b).ctl.state = .holding ∨
        ((s.bay b).ctl.state = .departing ∧ v = .departing) ∨
        ((s.bay b).ctl.state = .serving ∧ v = .service) ∨
        ((s.bay b).ctl.state = .serving ∧ v = .parked ∧ ((s.bay b).activation ≠ .idle ∨
          ∀ p j m, s.job b p = some j → m ∈ j.members → ¬ s.mayActivate b j m))) →
      exec (.heartbeat b code) s = .next (s.setBay b { (s.bay b).heard s.config.threshold with
        ctl := { (s.bay b).ctl with vehicleState := some v } })) ∧
    (∀ p j m, readVehicleState code = some .parked → (s.bay b).ctl.vehicle ≠ none →
      (s.bay b).ctl.state = .serving → (s.bay b).activation = .idle → s.choice b p j m →
      exec (.heartbeat b code) s = .next (s.setBay b { (s.bay b).heard s.config.threshold with
        ctl := { (s.bay b).ctl with vehicleState := some .parked },
        activation := .selected ⟨m.unit, p, j.identity.target⟩ false,
        port := { ((s.bay b).heard s.config.threshold).port with
          control := (s.bay b).port.control ++ [.activate m.unit j.identity.target] } }))

/-- 07 R132, R135, 03 R69, R70, 02 R41 to R43: a HEARTBEAT, or a repeated HELLO, showing DEPARTING
takes a SERVING bay to DEPARTING: the departure is counted, the queue of blocks is empty, channels
with their in-flight lists stay, every job keeps everything but its gap list, and a stream that no
other bay's job wants is satisfied with its credit revoked. One showing PARKED or SERVICE takes a
DEPARTING bay back to SERVING: deferred flags are cleared, a stream that a RECEIVING job wants is no
longer satisfied, and free channels are given to QUEUED jobs. That streams are judged before the
queue is given up is the model's choice (log 8, DESIGN CHOICE), as is the order in which a full gap
list takes the offsets needed again (log 28, DESIGN CHOICE). -/
def Obligations.DepartureAnnounced : Prop :=
  ∀ (s : State) (b : BayId) (i : Instr) (c : Controller) (v : VehicleState), s.hears b →
    ((∃ code, i = .heartbeat b code ∧ readVehicleState code = some v ∧
        (s.bay b).ctl.vehicle ≠ none ∧
        c = { (s.bay b).ctl with vehicleState := some v }) ∨
      (∃ h, i = .hello b h ∧ h.vehicle ≠ 0 ∧ readVehicleState h.vehicleState = some v ∧
        (s.bay b).ctl.vehicle = some h.vehicle ∧
        c = { (s.bay b).ctl with
          announced := some h.period, period := max 100 (min 2000 h.period.toNat),
          vehicleState := some v })) →
    ((s.bay b).ctl.state = .serving → v = .departing →
      ∃ t, exec i s = .next t ∧
        (t.bay b).ctl = { c with state := .departing } ∧
        (t.bay b).txQueue = [] ∧ (t.bay b).channels = (s.bay b).channels ∧
        (∀ p, ((t.bay b).jobs.get p).map (fun j => { j with gaps := [] }) =
          ((s.bay b).jobs.get p).map fun j => { j with gaps := [] }) ∧
        (t.bay b).inventory = (s.bay b).inventory ∧ (t.bay b).activation = (s.bay b).activation ∧
        t.bayCounter b .departuresAnnounced = satInc (s.bayCounter b .departuresAnnounced) ∧
        s.withheld t b ∧
        s.sameOtherBays t b ∧ s.sameLoads t ∧ t.uplink = s.uplink ∧ t.mgmt = s.mgmt) ∧
    ((s.bay b).ctl.state = .departing → v ≠ .departing →
      ∃ t, exec i s = .next t ∧
        (t.bay b).ctl = { c with state := .serving } ∧ s.returned t b ∧
        s.sameOtherBays t b ∧ s.sameLoads t ∧ t.uplink = s.uplink ∧ t.mgmt = s.mgmt)

/-- 07 R134, 01 R12 to R15, R17, R19 to R21, 03 R54, R55, 07 R143, 04 R80: an INVENTORY in INTAKE
with a vehicle held completes intake: the bay is SERVING, or DEPARTING when the vehicle has
announced its departure; the intake timer stops, the inventory holds the frame's admitted units with
their class, revision and versions, none of them blocked, each with the disposition that R17 gives
it, T is set from the trained rate, and the intake is counted. On a bay without jobs that holds a
free channel 0, a single unit that needs its image gets a job in place 0, restored from the resume
record of its vehicle and image where there is one, which then leaves the table; the job opens on
channel 0, at the carousel position of the moment unless it has progress, and its CHANNEL OPEN
waits. A single unit that is STAGE-READY gets a STAGED job with all of its image confirmed, and one
of any other disposition none. An INVENTORY in SERVING refreshes: the inventory holds the frame's
units with the frame's versions, the blocked flag being kept where address, class and revision are
known and clear otherwise; entries ignored are counted; a unit that the frame no longer shows is in
no job any more but as an ended member, when its record carried its job reference; and an activation
under way of a unit that vanishes or changes key is abandoned. -/
def Obligations.IntakeCompletes : Prop :=
  (∀ (s : State) (b : BayId) (items : List InventoryItem), s.hears b →
    items.length ≤ 64 → (s.bay b).ctl.state = .intake → (s.bay b).ctl.vehicle ≠ none →
    ((s.bay b).ctl.vehicleState ≠ some .departing → ∀ r, (s.bay b).port.trainedRate = some r →
      ∃ t, exec (.inventory b items) s = .next t ∧
        (t.bay b).ctl = { (s.bay b).ctl with state := .serving, intakeTimer := none } ∧
        (t.bay b).truncated = (admitItems items).truncated ∧
        (t.bay b).inventory.map (fun u =>
            (u.unit, u.cls, u.revision, u.running, u.standby, u.blocked)) =
          (admitItems items).unitList.map (fun ux => (ux.1, ux.2.cls, ux.2.revision,
            ux.2.running, itemStandby ux.2, false)) ∧
        (∀ u ∈ (t.bay b).inventory, u.disposition = s.dispositionOf u) ∧
        (t.bay b).deadline.serviceTime = rateServiceTime r ∧
        t.bayCounter b .intakesCompleted = satInc (s.bayCounter b .intakesCompleted) ∧
        s.sameOtherBays t b ∧ s.sameLoads t ∧ t.streams = s.streams ∧ t.pool = s.pool ∧
        t.uplink = s.uplink) ∧
    ((s.bay b).ctl.vehicleState = some .departing →
      ∃ t, exec (.inventory b items) s = .next t ∧
        (t.bay b).ctl = { (s.bay b).ctl with state := .departing, intakeTimer := none } ∧
        t.bayCounter b .intakesCompleted = satInc (s.bayCounter b .intakesCompleted) ∧
        t.bayCounter b .departuresAnnounced = satInc (s.bayCounter b .departuresAnnounced) ∧
        s.sameOtherBays t b ∧ s.sameLoads t ∧ t.uplink = s.uplink)) ∧
  (∀ (s : State) (b : BayId) (x : InventoryItem) (u : UnitAddr) (v : Word) (ch : Channel)
      (others : List Channel) (r : UnitRecord), s.hears b → (s.bay b).ctl.state = .intake →
    (s.bay b).ctl.vehicle = some v → (s.bay b).ctl.vehicleState ≠ some .departing →
    (∀ p, s.job b p = none) → (s.bay b).channels = ch :: others → ch.job = none →
    x.unit.toNat = u.val →
    r = { unit := u, cls := x.cls, revision := x.revision, running := x.running,
          standby := if x.standbyPresent then some x.standby else none,
          disposition := s.dispositionOf (newRecord (u, x)), blocked := false, job := none } →
    ∃ t, exec (.inventory b [x]) s = .next t ∧ (∀ p, p ≠ 0 → t.job b p = none) ∧
      (∀ (i : EntryId) (g : EntryFields) (ident : Identity), s.governing r.key = some i →
        g = (s.entry i).fields → ident = ⟨(s.stream g.stream).length, g.check, g.target⟩ →
        (r.disposition = .needsImage →
          (∀ (start cursor : Nat) (gaps : List Gap) (table : ResumeTable),
            ((s.resume.lookup v ident = none ∧ start = (s.stream g.stream).position ∧
                cursor = 0 ∧ gaps = [] ∧ table = s.resume) ∨
              (∃ q k, s.resume.lookup v ident = some q ∧ s.resume.places.get q = some k ∧
                start = (if k.cursor = 0 ∧ k.gaps = [] then (s.stream g.stream).position
                  else k.start) ∧
                cursor = k.cursor ∧ gaps = k.gaps ∧
                table = { places := s.resume.places.set q none,
                          order := s.resume.order.filter (· ≠ q) })) →
            t.job b 0 = some { stream := g.stream, identity := ident,
                               members := [⟨u, .pending, some i⟩], state := .opening,
                               channel := some 0, tag := (s.bay b).openCounter + 1, start := start,
                               cursor := cursor, gaps := gaps, attempts := 1, deferred := false,
                               checkFailed := false, endTime := none } ∧
              t.resume = table ∧
              t.channel b 0 = some { job := some 0, credit := (s.bay b).creditsPer,
                                     inFlight := [], tag := (s.bay b).openCounter + 1,
                                     openTimer := none, openExpired := false,
                                     closeTimer := none } ∧
              (t.bay b).port.control = (s.bay b).port.control ++
                [.channelOpen 0 ((s.bay b).openCounter + 1) ident (s.stream g.stream).lastLength
                  start]) ∧
          (t.bay b).inventory = [{ r with job := some 0 }]) ∧
        (r.disposition = .stageReady →
          t.job b 0 = some { stream := g.stream, identity := ident,
                             members := [⟨u, .staged, some i⟩], state := .staged,
                             channel := none, tag := 0, start := 0, cursor := ident.length,
                             gaps := [], attempts := 1, deferred := false,
                             checkFailed := false, endTime := none } ∧
            (t.bay b).inventory = [{ r with job := some 0 }])) ∧
      (r.disposition ≠ .needsImage → r.disposition ≠ .stageReady →
        t.job b 0 = none ∧ (t.bay b).inventory = [r])) ∧
  (∀ (s : State) (b : BayId) (items : List InventoryItem), s.hears b → items.length ≤ 64 →
    (s.bay b).ctl.state = .serving →
    ∃ t, exec (.inventory b items) s = .next t ∧
      (t.bay b).ctl = (s.bay b).ctl ∧
      (t.bay b).truncated = (admitItems items).truncated ∧
      (t.bay b).inventory.map (fun u =>
          (u.unit, u.cls, u.revision, u.running, u.standby, u.blocked)) =
        (admitItems items).unitList.map (fun ux => (ux.1, ux.2.cls, ux.2.revision, ux.2.running,
          itemStandby ux.2, match (s.bay b).unit? ux.1 with
            | some r => decide (r.cls = ux.2.cls ∧ r.revision = ux.2.revision) && r.blocked
            | none => false)) ∧
      t.bayCounter b .inventoryEntriesDiscarded =
        Nat.repeat satInc (admitItems items).ignored (s.bayCounter b .inventoryEntriesDiscarded) ∧
      (∀ u, (∀ ux ∈ (admitItems items).unitList, ux.1 ≠ u) →
        (∀ p j, s.job b p = some j → ∀ m ∈ j.members, m.unit = u → m.state.terminal = false →
          ∃ r ∈ (s.bay b).inventory, r.unit = u ∧ r.job = some p) →
        ∀ p j, t.job b p = some j → ∀ m ∈ j.members, m.unit = u → m.state.terminal = true) ∧
      (∀ (a : ActTarget) (r : UnitRecord),
        ((∃ previous timer, (s.bay b).activation = .activating a previous timer) ∨
          (∃ previous timer, (s.bay b).activation = .reverting a previous timer)) →
        r ∈ (s.bay b).inventory → r.unit = a.unit → r.job ≠ none →
        (∀ ux ∈ (admitItems items).unitList, ux.1 = a.unit →
          ux.2.cls ≠ r.cls ∨ ux.2.revision ≠ r.revision) →
        t.bayCounter b .activationsAbandoned = satInc (s.bayCounter b .activationsAbandoned)) ∧
      t.config = s.config ∧ t.departures = s.departures ∧ t.uplink = s.uplink ∧ t.mgmt = s.mgmt)

/-- 01 R16, 03 R56, R66, R67, 05 R94: valid frames that find nothing to act on are counted and
change nothing else: an OPEN ACK or CLOSE RESULT whose channel carries no such transfer, a RECEIPT
for no job, an INVENTORY in QUALIFYING, HOLDING or DEPARTING or in INTAKE before a vehicle is held,
and a UNIT REPORT in a bay state that takes none or of a unit the inventory does not hold. -/
def Obligations.FramesDiscardedCounted : Prop :=
  (∀ (s : State) (b : BayId), s.hears b →
    (∀ f : OpenAckFrame, (∀ c p j, s.answered b f.channel f.tag = some (c, p, j) →
        j.state ≠ .opening) →
      exec (.openAck b f) s = .next (s.setBay b
        (((s.bay b).heard s.config.threshold).counted .staleControlAnswers))) ∧
    (∀ f : CloseResultFrame, f.items.length ≤ 64 →
      (∀ c p j, s.answered b f.channel f.tag = some (c, p, j) → j.state ≠ .closing) →
      exec (.closeResult b f) s = .next (s.setBay b
        (((s.bay b).heard s.config.threshold).counted .staleControlAnswers))) ∧
    (∀ f : ReceiptFrame, 1 ≤ f.sequences.length → f.sequences.length ≤ 8 →
      s.answered b f.channel f.tag = none →
      exec (.receipt b f) s = .next (s.setBay b
        (((s.bay b).heard s.config.threshold).counted .receiptsForNoJob)))) ∧
  (∀ (s : State) (b : BayId) (items : List InventoryItem), s.hears b → items.length ≤ 64 →
    ((s.bay b).ctl.state = .qualifying ∨ (s.bay b).ctl.state = .holding ∨
      (s.bay b).ctl.state = .departing ∨
      ((s.bay b).ctl.state = .intake ∧ (s.bay b).ctl.vehicle = none)) →
    exec (.inventory b items) s = .next (s.setBay b
      (((s.bay b).heard s.config.threshold).counted .inventoryFramesDiscarded))) ∧
  (∀ (s : State) (b : BayId) (f : UnitReportFrame), s.hears b →
    ((s.bay b).ctl.state.takesReports = false ∨
      ∀ r ∈ (s.bay b).inventory, r.unit.val ≠ f.unit.toNat) →
    exec (.unitReport b f) s = .next (s.setBay b
      (((s.bay b).heard s.config.threshold).counted .unitReportsDiscarded)))

/-- 03 R56: an accepted OPEN ACK of a job in OPENING that still has blocks to receive takes the job
to RECEIVING and stops the open timer, with the job's cursor, gaps, start sequence and members, and
every other job, as they were. -/
def Obligations.OpenAccepted : Prop :=
  ∀ (s : State) (b : BayId) (f : OpenAckFrame) (c : ChannelId) (p : Place) (j : Job), s.hears b →
    s.answered b f.channel f.tag = some (c, p, j) → j.state = .opening → f.refused = false →
    j.cursor < j.identity.length →
    ∃ t, exec (.openAck b f) s = .next t ∧
      t.job b p = some { j with state := .receiving } ∧
      (∀ q, q ≠ p → t.job b q = s.job b q) ∧
      (t.bay b).channels = (s.bay b).channels.modify c.val (fun ch =>
        { ch with openTimer := none, openExpired := false }) ∧
      (t.bay b).ctl = (s.bay b).ctl ∧ (t.bay b).inventory = (s.bay b).inventory ∧
      (t.bay b).txQueue = (s.bay b).txQueue ∧ t.pool = s.pool ∧
      s.sameOtherBays t b ∧ s.sameLoads t ∧ t.uplink = s.uplink ∧ t.resume = s.resume

/-- 03 R56, R57, R58: a refused OPEN ACK frees the job's channel and returns the job to QUEUED with
its deferred flag set, its progress kept, so that no channel is given back to it at once; the
refusal is counted. -/
def Obligations.OpenRefused : Prop :=
  ∀ (s : State) (b : BayId) (f : OpenAckFrame) (c : ChannelId) (p : Place) (j : Job), s.hears b →
    s.answered b f.channel f.tag = some (c, p, j) → j.state = .opening → f.refused = true →
    (∀ ch, s.channel b c = some ch → ch.inFlight = []) →
    ∃ t, exec (.openAck b f) s = .next t ∧
      t.job b p = some { j with state := .queued, channel := none, deferred := true } ∧
      t.bayCounter b .opensRefused = satInc (s.bayCounter b .opensRefused) ∧
      (t.bay b).ctl = (s.bay b).ctl ∧ (t.bay b).inventory = (s.bay b).inventory ∧
      (t.bay b).txQueue = (s.bay b).txQueue ∧ s.sameOtherBays t b ∧ s.sameLoads t ∧
      s.sameBlocks t ∧ s.sameUplink t

/-- 03 R66, R61, 04 R82, R83, 02 R41, R45: the sequences of a RECEIPT are judged in frame order. One
in flight leaves the channel's in-flight list and gives its credit back, one late gives none, and
the offset of either leaves its gap range, unless the split is declined; any other is a duplicate;
each is counted as such. An in-flight sequence that is the bay's probe resolves it: T moves by an
eighth of the way to the round trip shared among the blocks in flight, within 1 to 65,535, rounded
down; without such a sequence T and the probe stay. While the job keeps something to receive it
changes in nothing but its gap ranges, and where those stay too no stream is judged; a RECEIVING job
with its cursor at L that has nothing left enters CLOSING, its CHANNEL CLOSE placed with the units
in PENDING. -/
def Obligations.ReceiptConfirms : Prop :=
  ∀ (s : State) (b : BayId) (channel tag : Byte) (qs : List Half) (c : ChannelId) (p : Place)
      (j : Job) (ch : Channel) (x : Receipted), s.hears b →
    1 ≤ qs.length → qs.length ≤ 8 → s.answered b channel tag = some (c, p, j) →
    s.channel b c = some ch → j.channel = some c → x = receiptOf j ch qs →
    ∃ t, exec (.receipt b ⟨channel, tag, qs⟩) s = .next t ∧
      t.channel b c = some { ch with inFlight := x.flights, credit := x.credit } ∧
      (∀ r, r ≠ p → t.job b r = s.job b r) ∧
      t.bayCounter b .receiptsApplied = Nat.repeat satInc x.applied
        (s.bayCounter b .receiptsApplied) ∧
      t.bayCounter b .duplicateReceipts = Nat.repeat satInc x.duplicates
        (s.bayCounter b .duplicateReceipts) ∧
      t.bayCounter b .declinedSplits = Nat.repeat satInc x.declined
        (s.bayCounter b .declinedSplits) ∧
      (∀ pr, (s.bay b).deadline.probe = some pr → pr.channel = c → 0 < pr.n →
        (∃ q ∈ qs, q.toNat = pr.sequence) → (∃ f ∈ ch.inFlight, f.sequence = pr.sequence) →
        (t.bay b).deadline = { (s.bay b).deadline with
          probe := none, serviceTime := (t.bay b).deadline.serviceTime } ∧
        ((t.bay b).deadline.serviceTime : Int) = (s.bay b).deadline.serviceTime +
          (((max 1 (min 65535 ((s.clock.usec - pr.sent).toNat / pr.n)) : Nat) : Int) -
            (s.bay b).deadline.serviceTime) / 8 ∧
        t.bayCounter b .probeSamples = satInc (s.bayCounter b .probeSamples)) ∧
      ((∀ pr, (s.bay b).deadline.probe = some pr → pr.channel = c →
          (∃ q ∈ qs, q.toNat = pr.sequence) → ∀ f ∈ ch.inFlight, f.sequence ≠ pr.sequence) →
        (t.bay b).deadline = (s.bay b).deadline ∧
          t.bayCounter b .probeSamples = s.bayCounter b .probeSamples) ∧
      ((j.state ≠ .receiving ∨ j.cursor ≠ j.identity.length ∨ x.gaps ≠ [] ∨ x.flights ≠ [] ∨
          ∃ e ∈ (s.bay b).txQueue, e.place = p) →
        t.job b p = some { j with gaps := x.gaps } ∧
        (t.bay b).port = ((s.bay b).heard s.config.threshold).port ∧
        (x.gaps = j.gaps → t.streams = s.streams ∧ t.due = s.due ∧ t.notices = s.notices)) ∧
      (j.state = .receiving → j.cursor = j.identity.length → x.gaps = [] → x.flights = [] →
        (∀ e ∈ (s.bay b).txQueue, e.place ≠ p) →
        t.job b p = some { j with gaps := [], state := .closing } ∧
        (t.bay b).port = { ((s.bay b).heard s.config.threshold).port with
          control := (s.bay b).port.control ++
            [.channelClose c j.tag j.identity.check j.pendingUnits] }) ∧
      (t.bay b).ctl = (s.bay b).ctl ∧ (t.bay b).txQueue = (s.bay b).txQueue ∧
      (t.bay b).inventory = (s.bay b).inventory ∧ t.pool = s.pool ∧
      s.sameOtherBays t b ∧ s.sameLoads t ∧ t.uplink = s.uplink ∧ t.resume = s.resume

/-- 03 R51, R58, R67, 01 R22: a CLOSE RESULT whose check value agrees, with at least one PENDING
member shown written, takes the job to STAGED, in whatever state the bay is: each PENDING member
shown written is STAGED and its record's standby is the target, each other one is STAGE_FAILED with
its record blocked, without standby and without job reference. Out of SERVING, where no channel is
assigned, the channel is then free with full credit. When none of the PENDING members is shown
written and no other member is left to judge, the job ends, out of SERVING, PARTIAL: the end time is
set and the entry links go (that all links go is log 9, DEDUCED). -/
def Obligations.CloseStagesMembers : Prop :=
  (∀ (s : State) (b : BayId) (f : CloseResultFrame) (c : ChannelId) (p : Place) (j : Job)
      (ch : Channel), s.hears b → f.items.length ≤ 64 →
    s.answered b f.channel f.tag = some (c, p, j) → j.state = .closing →
    f.check = j.identity.check → s.channel b c = some ch → ch.inFlight = [] →
    (∀ m ∈ j.members, m.state = .pending ∨ m.state.terminal = true) →
    (∃ m ∈ j.members, m.state = .pending ∧ closeShowsWritten f m.unit = true) →
    ∃ t, exec (.closeResult b f) s = .next t ∧
      t.job b p = some { j with
        state := .staged, channel := none, deferred := false,
        members := j.members.map (fun m => if m.state = .pending
          then { m with state := if closeShowsWritten f m.unit then .staged else .stageFailed }
          else m) } ∧
      ((s.bay b).ctl.state ≠ .serving → t.channel b c = some { ch with
        job := none, credit := (s.bay b).creditsPer, openTimer := none, openExpired := false,
        closeTimer := none }) ∧
      (∀ u r, (s.bay b).unit? u = some r → u ∈ j.pendingUnits →
        (t.bay b).unit? u = some (if closeShowsWritten f u
          then { r with standby := some j.identity.target }
          else { r with standby := none, blocked := true,
                        job := if r.job = some p then none else r.job })) ∧
      (∀ u, u ∉ j.pendingUnits → (t.bay b).unit? u = (s.bay b).unit? u) ∧
      (t.bay b).ctl = (s.bay b).ctl ∧ (t.bay b).txQueue = (s.bay b).txQueue ∧
      s.sameOtherBays t b ∧ s.sameLoads t ∧ s.sameBlocks t ∧ s.sameUplink t) ∧
  (∀ (s : State) (b : BayId) (f : CloseResultFrame) (c : ChannelId) (p : Place) (j : Job),
      s.hears b → f.items.length ≤ 64 →
    s.answered b f.channel f.tag = some (c, p, j) → j.state = .closing → j.checkFailed = false →
    f.check = j.identity.check → (s.bay b).ctl.state ≠ .serving →
    (∀ m ∈ j.members, m.state.terminal = true ∨
      (m.state = .pending ∧ closeShowsWritten f m.unit = false)) →
    (∃ m ∈ j.members, m.state = .pending) →
    ∃ t k, exec (.closeResult b f) s = .next t ∧ t.job b p = some k ∧
      k.state = .partialDone ∧ k.endTime = some s.clock.seconds ∧ k.channel = none ∧
      k.attempts = j.attempts ∧
      k.members = j.members.map (fun m =>
        { m with state := if m.state = .pending then .stageFailed else m.state, link := none }) ∧
      (∀ u r, (s.bay b).unit? u = some r → u ∈ j.pendingUnits →
        (t.bay b).unit? u = some { r with
          standby := none, blocked := true, job := if r.job = some p then none else r.job }) ∧
      (t.bay b).ctl = (s.bay b).ctl)

/-- 03 R51, R67, R68: a CLOSE RESULT whose check value differs, or the close timer's expiry, below
the third attempt starts the transfer again: one attempt more, cursor 0 and no gap ranges, with the
members as they were; the mismatch or the timeout is counted. Out of SERVING the job is QUEUED
without a channel and its channel free; in SERVING it may open at once, at the carousel position of
the moment. At the third attempt the job has failed its check: every PENDING or STAGED member is
STAGE_FAILED, its record blocked, without standby and without job reference, and when no other
member is left to judge the job ends, out of SERVING, FAILED, with its end time set and JOB END
posted (that all links go is log 9, DEDUCED). -/
def Obligations.CloseFailureRetries : Prop :=
  ∀ (s : State) (b : BayId) (c : ChannelId) (p : Place) (j : Job) (ch : Channel) (i : Instr)
      (n : BayCounter), s.held? b c = some (p, j, ch) → j.state = .closing →
    ((i = .closeTimerExpiry b c ∧ ch.closeTimer.isSome ∧ n = .closeTimeouts) ∨
      (∃ f : CloseResultFrame, i = .closeResult b f ∧ s.hears b ∧ f.items.length ≤ 64 ∧
        f.channel.toNat = c.val ∧ f.tag = ch.tag ∧ f.check ≠ j.identity.check ∧
        n = .checkMismatches)) →
    (j.attempts < 3 → j.hasPending = true →
      ∃ t k, exec i s = .next t ∧ t.job b p = some k ∧
        k.attempts = j.attempts + 1 ∧ k.cursor = 0 ∧ k.gaps = [] ∧ k.deferred = false ∧
        k.members = j.members ∧ k.stream = j.stream ∧ k.identity = j.identity ∧
        k.checkFailed = j.checkFailed ∧ k.endTime = j.endTime ∧
        ((s.bay b).ctl.state ≠ .serving → k.state = .queued ∧ k.channel = none ∧
          k.start = j.start ∧ k.tag = j.tag ∧
          t.channel b c = some { ch with
            job := none, credit := (s.bay b).creditsPer, inFlight := [], openTimer := none,
            openExpired := false, closeTimer := none }) ∧
        ((s.bay b).ctl.state = .serving →
          (k.state = .queued ∧ k.channel = none) ∨
          (k.state = .opening ∧ k.channel ≠ none ∧
            k.start = (s.stream j.stream).position)) ∧
        t.bayCounter b n = satInc (s.bayCounter b n) ∧
        (t.bay b).inventory = (s.bay b).inventory ∧ (t.bay b).ctl = (s.bay b).ctl ∧
        (t.bay b).txQueue = (s.bay b).txQueue ∧ s.sameOtherBays t b ∧ s.sameLoads t ∧
        s.sameBlocks t ∧ s.sameUplink t) ∧
    (3 ≤ j.attempts → (s.bay b).ctl.state ≠ .serving →
      (∀ m ∈ j.members, m.state = .pending ∨ m.state = .staged ∨ m.state.terminal = true) →
      ∃ t k, exec i s = .next t ∧ t.job b p = some k ∧
        k.state = .failed ∧ k.checkFailed = true ∧ k.endTime = some s.clock.seconds ∧
        k.channel = none ∧ k.attempts = j.attempts ∧
        k.members = j.members.map (fun m => { m with
          state := if m.state = .pending ∨ m.state = .staged then .stageFailed else m.state,
          link := none }) ∧
        (∀ u r, (s.bay b).unit? u = some r → u ∈ j.waitingUnits →
          (t.bay b).unit? u = some { r with
            standby := none, blocked := true, job := if r.job = some p then none else r.job }) ∧
        (s.notices.mask.getLsbD 3 = true → s.notices.queue.length < 31 →
          (⟨s.clock.seconds, s.clock.valid, .jobEnd b (s.bay b).ctl.vehicle p j.stream .failed
            j.attempts (j.countIn .done) (j.countIn .reverted) (j.countIn .fault)
            (j.countIn .stageFailed + j.countIn .pending + j.countIn .staged)
            (j.countIn .cancelled)⟩ : PostedNotice) ∈ t.notices.queue) ∧
        t.bayCounter b n = satInc (s.bayCounter b n) ∧ (t.bay b).ctl = (s.bay b).ctl)

/-- 05 R98, 01 R22: a UNIT REPORT of a held unit outside any activation, on a bay in HOLDING or
DEPARTING, sets the record's versions as reported and counts a report outside; nothing else changes.
-/
def Obligations.ReportOutsideActivation : Prop :=
  ∀ (s : State) (b : BayId) (f : UnitReportFrame) (u : UnitAddr) (r : UnitRecord), s.hears b →
    ((s.bay b).ctl.state = .holding ∨ (s.bay b).ctl.state = .departing) →
    u.val = f.unit.toNat → (s.bay b).unit? u = some r → (s.bay b).activation = .idle →
    exec (.unitReport b f) s = .next (s.setBay b (({ (s.bay b).heard s.config.threshold with
      inventory := (s.bay b).inventory.map (fun k : UnitRecord => if k.unit = u
        then ({ k with running := f.running,
                       standby := if f.standbyPresent then some f.standby else none } : UnitRecord)
        else k) } : Bay).counted .reportsOutside))

/-- 05 R92, R95, R97, R99, R100, R101, R105, 03 R51, 01 R22: a UNIT REPORT for the unit under
activation ends it, in SERVING, HOLDING and DEPARTING. Of an ACTIVATING controller, one showing the
target is DONE, one showing the previous version REVERTED, and any other FAULT; of a REVERTING
controller, one showing the previous version is REVERTED and any other FAULT. While another member
of the job is not terminal, staged ones among them, the job, in STAGED, in CLOSING, or in its
transfer with a PENDING member left (03 R53), goes on: the member takes the outcome, the record its
versions and, but for DONE, the blocked flag, and loses its job reference, the outcome is counted,
UNIT RESULT is posted, and after a FAULT an INVENTORY REQUEST waits; a REVERT still unsent is
removed; the controller is then IDLE, or in SERVING with the vehicle PARKED already SELECTED again
with the lowest unit that may be activated. An outcome, by a report or by the second expiry, that
leaves the job without a member to judge ends the job: its state is FAILED, COMPLETE or PARTIAL by
03 R51, its end time is set, its queued entries and job references go, the entry links go (that all
go is log 9, DEDUCED), the channel it holds is freed, and out of SERVING stays free with full
credit, and JOB END is posted; in SERVING this is stated of a bay that has a record place for every
job that the builder could create, and the controller may there be SELECTED again. -/
def Obligations.ActivationDone : Prop :=
  (∀ (s : State) (b : BayId) (f : UnitReportFrame) (a : ActTarget) (previous : Version)
      (r : UnitRecord) (j : Job) (m : Member) (outcome : UnitState) (cause : ResultCause)
      (n : BayCounter), s.hears b →
    ((s.bay b).ctl.state = .serving ∨ (s.bay b).ctl.state = .holding ∨
      (s.bay b).ctl.state = .departing) →
    a.unit.val = f.unit.toNat → (s.bay b).unit? a.unit = some r →
    s.job b a.place = some j → j.live = true → j.member? a.unit = some m →
    (∃ k ∈ j.members, k.unit ≠ a.unit ∧ k.state.terminal = false) →
    (j.state = .staged ∨ j.state = .closing ∨
      ∃ k ∈ j.members, k.unit ≠ a.unit ∧ k.state = .pending) →
    (((∃ timer, (s.bay b).activation = .activating a previous timer) ∧
        cause = .reportActivating ∧
        ((f.running = a.target ∧ outcome = .done) ∨
          (f.running ≠ a.target ∧ f.running = previous ∧ outcome = .reverted) ∨
          (f.running ≠ a.target ∧ f.running ≠ previous ∧ outcome = .fault))) ∨
      ((∃ timer, (s.bay b).activation = .reverting a previous timer) ∧
        cause = .reportReverting ∧
        ((f.running = previous ∧ outcome = .reverted) ∨
          (f.running ≠ previous ∧ outcome = .fault)))) →
    ((outcome = .done ∧ n = .outcomesDone) ∨ (outcome = .reverted ∧ n = .outcomesReverted) ∨
      (outcome = .fault ∧ n = .outcomesFault)) →
    ∃ t, exec (.unitReport b f) s = .next t ∧
      t.job b a.place = some (j.modMember a.unit fun k => { k with state := outcome }) ∧
      (outcome = .done → (t.bay b).unit? a.unit = some { r with
        running := a.target, standby := some previous, job := none }) ∧
      (outcome = .reverted → (t.bay b).unit? a.unit = some { r with
        standby := some a.target, blocked := true, job := none }) ∧
      (outcome = .fault → (t.bay b).unit? a.unit = some { r with
        running := f.running, standby := if f.standbyPresent then some f.standby else none,
        blocked := true, job := none }) ∧
      (∀ u, u ≠ a.unit → (t.bay b).unit? u = (s.bay b).unit? u) ∧
      (outcome = .fault → ∃ own, ControlFrame.inventoryRequest own ∈ (t.bay b).port.control) ∧
      (cause = .reportReverting → ∀ v, ControlFrame.revert a.unit v ∉ (t.bay b).port.control) ∧
      s.selectsNext t b a.unit ∧
      t.bayCounter b n = satInc (s.bayCounter b n) ∧
      t.notices = (s.post (.unitResult b (s.bay b).ctl.vehicle a.unit outcome cause a.target
        previous (some f.running) (if f.standbyPresent then some f.standby else none)
        m.link)).notices ∧
      (t.bay b).ctl = (s.bay b).ctl ∧ (t.bay b).txQueue = (s.bay b).txQueue ∧
      s.sameOtherBays t b ∧ s.sameLoads t ∧ s.sameBlocks t ∧ s.sameUplink t) ∧
  (∀ (s : State) (b : BayId) (i : Instr) (a : ActTarget) (previous : Version) (r w : UnitRecord)
      (j k : Job) (m : Member) (outcome : UnitState),
    ((∃ f : UnitReportFrame, i = .unitReport b f ∧ s.hears b ∧ a.unit.val = f.unit.toNat ∧
        (((∃ timer, (s.bay b).activation = .activating a previous timer) ∧
            ((f.running = a.target ∧ outcome = .done) ∨
              (f.running ≠ a.target ∧ f.running = previous ∧ outcome = .reverted) ∨
              (f.running ≠ a.target ∧ f.running ≠ previous ∧ outcome = .fault))) ∨
          ((∃ timer, (s.bay b).activation = .reverting a previous timer) ∧
            ((f.running = previous ∧ outcome = .reverted) ∨
              (f.running ≠ previous ∧ outcome = .fault)))) ∧
        ((outcome = .done ∧ w = { r with running := a.target, standby := some previous }) ∨
          (outcome = .reverted ∧ w = { r with standby := some a.target, blocked := true }) ∨
          (outcome = .fault ∧ w = { r with
            running := f.running, standby := if f.standbyPresent then some f.standby else none,
            blocked := true }))) ∨
      (i = .activationSecondExpiry b ∧ outcome = .fault ∧ w = { r with blocked := true } ∧
        ∃ timer, (s.bay b).activation = .reverting a previous (some timer))) →
    ((s.bay b).ctl.state = .holding ∨ (s.bay b).ctl.state = .departing ∨
      ((s.bay b).ctl.state = .serving ∧
        (s.bay b).inventory.length + (s.bay b).jobList.length ≤ 8)) →
    (s.bay b).unit? a.unit = some r → s.job b a.place = some j → j.live = true →
    (∀ c, j.channel = some c → ∃ ch, s.channel b c = some ch) → j.member? a.unit = some m →
    k = j.modMember a.unit (fun n => { n with state := outcome }) →
    (∀ n ∈ k.members, n.state.terminal = true) →
    ∃ t l u, exec i s = .next t ∧ t.job b a.place = some l ∧
      l.state = k.endsAs ∧ l.endTime = some s.clock.seconds ∧ l.channel = none ∧
      l.members = k.members.map (fun n => { n with link := none }) ∧
      { l with state := j.state, endTime := j.endTime, members := j.members, gaps := j.gaps,
               channel := j.channel, deferred := j.deferred } = j ∧
      (t.bay b).txQueue = (s.bay b).txQueue.filter (fun e => decide (e.place ≠ a.place)) ∧
      (∀ n ∈ (t.bay b).inventory, n.job ≠ some a.place) ∧
      (t.bay b).unit? a.unit = some u ∧
      (u.running, u.standby, u.blocked) = (w.running, w.standby, w.blocked) ∧
      (outcome = .fault → ∃ own, ControlFrame.inventoryRequest own ∈ (t.bay b).port.control) ∧
      ((t.bay b).activation = .idle ∨
        ((s.bay b).ctl.state = .serving ∧ (s.bay b).ctl.vehicleState = some .parked ∧
          ∃ d, (t.bay b).activation = .selected d false)) ∧
      (t.bay b).ctl = (s.bay b).ctl ∧
      ((s.bay b).ctl.state ≠ .serving →
        (j.channel = none → ∀ q, q ≠ a.place → t.job b q = s.job b q) ∧
        (∀ c ch, j.channel = some c → s.channel b c = some ch →
          t.channel b c = some { ch with
            job := none, credit := (s.bay b).creditsPer, inFlight := [], openTimer := none,
            openExpired := false, closeTimer := none } ∧
          ∀ q, q ≠ a.place →
            t.job b q = (s.job b q).map fun n => { n with deferred := false })) ∧
      (s.notices.mask.getLsbD 3 = true → s.notices.queue.length < 29 →
        (⟨s.clock.seconds, s.clock.valid, .jobEnd b (s.bay b).ctl.vehicle a.place j.stream k.endsAs
          j.attempts (k.countIn .done) (k.countIn .reverted) (k.countIn .fault)
          (k.countIn .stageFailed) (k.countIn .cancelled)⟩ : PostedNotice) ∈ t.notices.queue))

/-! ## The bay transmitter -/

/-- 06 R111, R112, R123: in PROBING or SWITCHING a CAPS that waits as the link frame is sent,
carrying the bridge number, the bay and its maximum rate; sending a RETRAIN raises the switch
attempts by 1, takes the port to SWITCHING at the rate it carries, and starts the switch timer of
200 ms. The link frame is then absent, and nothing else changes. That a CAPS carries these values as
they stand when it is sent is the model's deduction, unsafe for the maximum rate after a WRITE
CONFIG made while it waits (log 11, DEDUCED). -/
def Obligations.LinkFramesSent : Prop :=
  (∀ (s : State) (b : BayId),
    ((s.bay b).port.phase = .probing ∨ (s.bay b).port.phase = .switching) →
    (s.bay b).port.linkFrame = some .caps →
    exec (.sendCaps b) s = .next (s.setBay b { s.bay b with
      port := { (s.bay b).port with
        linkFrame := none,
        capsAge := if (s.bay b).port.phase = .probing then some 0 else (s.bay b).port.capsAge,
        line := some (.caps s.uplink.bridgeNumber b (s.bay b).maxRate) } })) ∧
  (∀ (s : State) (b : BayId) (r : RateCode),
    (s.bay b).port.phase = .probing → (s.bay b).port.linkFrame = some (.retrain r) →
    exec (.sendRetrain b) s = .next (s.setBay b { s.bay b with
      port := { (s.bay b).port with
        linkFrame := none, phase := .switching, lineRate := r,
        switchAttempts := (s.bay b).port.switchAttempts + 1, capsAge := none,
        switchTimer := some ⟨s.clock.ticks, 200⟩, line := some (.retrain r) } }))

/-- 03 R55, R66, 06 R123: in TRAINED and qualified, a CHANNEL OPEN at the head of the job control
queue is sent and starts the channel's open timer of the open timeout, and a CHANNEL CLOSE starts
its close timer of the close timeout in seconds; the frame leaves the queue, and nothing else but
the count of control frames changes. -/
def Obligations.ChannelFramesSent : Prop :=
  ∀ (s : State) (b : BayId) (c : ChannelId) (tag : Byte) (rest : List ControlFrame),
    (s.bay b).port.phase = .trained → (s.bay b).port.qualified = true →
    (∀ (i : Identity) (last start : Nat),
      (s.bay b).port.control = .channelOpen c tag i last start :: rest →
      exec (.sendChannelOpen b) s = .next (s.setBay b { s.bay b with
        port := { (s.bay b).port with
          control := rest, line := some (.control (.channelOpen c tag i last start)) },
        channels := (s.bay b).channels.modify c.val fun ch =>
          { ch with openTimer := some ⟨s.clock.ticks, s.config.openTimeout⟩ },
        counters := (s.bay b).counters.modify BayCounter.controlFramesSent.index satInc })) ∧
    (∀ (check : Word) (units : List UnitAddr),
      (s.bay b).port.control = .channelClose c tag check units :: rest →
      exec (.sendChannelClose b) s = .next (s.setBay b { s.bay b with
        port := { (s.bay b).port with
          control := rest, line := some (.control (.channelClose c tag check units)) },
        channels := (s.bay b).channels.modify c.val fun ch =>
          { ch with closeTimer := some ⟨s.clock.ticks, s.config.closeTimeout * 1000⟩ },
        counters := (s.bay b).counters.modify BayCounter.controlFramesSent.index satInc }))

/-- 05 R93, R103, R104: the ACTIVATE of a SELECTED controller is judged once more as the port takes
it. A member still eligible enters ACTIVATING with the frame sent, the unit's running version as the
previous running and the timer started; when the member is no longer eligible, or has become
terminal since its selection, the frame is discarded unsent, the controller returns to IDLE and
looks again. That the selected member's end is held as a mark of the record, whoever stands in the
job by then, is the model's deduction (log 29, DEDUCED). -/
def Obligations.ActivateJudgedAtSending : Prop :=
  ∀ (s : State) (b : BayId) (t : ActTarget) (gone : Bool) (u : UnitAddr) (v : Version)
      (rest : List ControlFrame),
    (s.bay b).port.phase = .trained → (s.bay b).port.qualified = true →
    (s.bay b).port.control = .activate u v :: rest → (s.bay b).activation = .selected t gone →
    (∀ r, (s.bay b).unit? t.unit = some r → s.targetEligible b t = true → gone = false →
      exec (.sendActivate b) s = .next (s.setBay b { s.bay b with
        port := { (s.bay b).port with control := rest, line := some (.control (.activate u v)) },
        activation := .activating t r.running ⟨s.clock.ticks, s.config.activationTimeout * 1000⟩,
        jobs := (s.bay b).jobs.modify t.place (Option.map fun j =>
          j.modMember t.unit fun m => { m with state := .activating }),
        counters := ((s.bay b).counters.modify BayCounter.activationsStarted.index satInc).modify
          BayCounter.controlFramesSent.index satInc })) ∧
    ((s.targetEligible b t = false ∨ gone = true) →
      exec (.sendActivate b) s = .next ((s.setBay b { s.bay b with
        port := { (s.bay b).port with control := rest },
        activation := .idle,
        counters := (s.bay b).counters.modify BayCounter.activationsWithdrawn.index satInc }).look b))

/-- 05 R96, 06 R124: a REVERT sent starts the activation timer again for a full activation timeout
and counts a revert; an INVENTORY REQUEST sent only leaves the queue; nothing else but the count of
control frames changes. -/
def Obligations.RevertAndRequestSent : Prop :=
  ∀ (s : State) (b : BayId) (rest : List ControlFrame),
    (s.bay b).port.phase = .trained → (s.bay b).port.qualified = true →
    (∀ (u : UnitAddr) (v : Version) (t : ActTarget) (previous : Version) (timer : Option Timer),
      (s.bay b).port.control = .revert u v :: rest →
      (s.bay b).activation = .reverting t previous timer →
      exec (.sendRevert b) s = .next (s.setBay b { s.bay b with
        port := { (s.bay b).port with control := rest, line := some (.control (.revert u v)) },
        activation := .reverting t previous
          (some ⟨s.clock.ticks, s.config.activationTimeout * 1000⟩),
        counters := ((s.bay b).counters.modify BayCounter.controlFramesSent.index satInc).modify
          BayCounter.revertsSent.index satInc })) ∧
    (∀ own : Bool, (s.bay b).port.control = .inventoryRequest own :: rest →
      exec (.sendInventoryRequest b) s = .next (s.setBay b { s.bay b with
        port := { (s.bay b).port with
          control := rest, line := some (.control (.inventoryRequest own)) },
        counters := (s.bay b).counters.modify BayCounter.controlFramesSent.index satInc }))

/-- 03 R64, 02 R36, R37, 04 R81, 06 R125: when the transmitter's turn comes to a block, the entry
leaves the queue, its channel's credit falls by 1 and its in-flight list gains the sequence with the
send time (and the tick, the model's own: log 16), the blocks sent rise by 1, the block run count
rises up to 8 while a PASS-DOWN waits, and the frame carries the slot's payload. On a bay without a
probe the block becomes it, with the number of in-flight entries, its own included. The rest of the
bay stays. The bay leaves the slot's delivery set and nothing else of the slot changes, or the slot
is free when it was the last. Every other slot, every other bay, and everything outside streams, due
statuses and pool stay. -/
def Obligations.BlockSent : Prop :=
  ∀ (s : State) (b : BayId) (e : TxEntry) (slot : Slot) (channels : List Channel),
    (s.bay b).txChoice = some (.block e) → s.pool.get e.slot = some slot →
    channels = (s.bay b).channels.modify e.channel.val (fun ch =>
      { ch with credit := ch.credit - 1,
                inFlight := ch.inFlight ++ [⟨slot.sequence, s.clock.usec, s.clock.ticks⟩] }) →
    ∃ t, exec (.sendBlock b) s = .next t ∧
      t.bay b = { s.bay b with
        txQueue := (s.bay b).txQueue.filter (· ≠ e),
        channels := channels,
        deadline := { (s.bay b).deadline with
          probe := match (s.bay b).deadline.probe with
            | some p => some p
            | none => some ⟨e.channel, slot.sequence, s.clock.usec,
                (channels.map fun ch => ch.inFlight.length).sum⟩ },
        port := { (s.bay b).port with
          blockRun := if (s.bay b).port.passDown = [] then (s.bay b).port.blockRun
            else min 8 ((s.bay b).port.blockRun + 1),
          line := some (.block e.channel slot.sequence slot.payload) },
        counters := (s.bay b).counters.modify BayCounter.blocksSent.index satInc } ∧
      t.pool.get e.slot = (if ∀ a ∈ slot.delivery, a = b then none
        else some { slot with delivery := slot.delivery.filter (· ≠ b) }) ∧
      (∀ sl, sl ≠ e.slot → t.pool.get sl = s.pool.get sl) ∧
      s.sameOtherBays t b ∧ s.sameLoads t ∧ t.uplink = s.uplink ∧ t.mgmt = s.mgmt ∧
      t.notices = s.notices ∧ t.counters = s.counters ∧ t.resume = s.resume ∧ t.clock = s.clock

/-- 06 R125, R126: a PASS-DOWN sent leaves its queue, sets the block run count to 0 and is counted;
nothing else changes. -/
def Obligations.PassDownSent : Prop :=
  ∀ (s : State) (b : BayId) (body : List Byte) (rest : List (List Byte)),
    (s.bay b).port.phase = .trained → (s.bay b).port.qualified = true →
    (s.bay b).port.control = [] → (s.bay b).port.passDown = body :: rest →
    ((s.bay b).port.blockRun = 8 ∨ (s.bay b).nextBlock = none) →
    exec (.sendPassDown b) s = .next (s.setBay b { s.bay b with
      port := { (s.bay b).port with
        passDown := rest, blockRun := 0, line := some (.passDown body) },
      counters := (s.bay b).counters.modify BayCounter.passDownSent.index satInc })

/-- 06 R123: which frame the transmitter may take. Outside training and qualification none; in
PROBING and SWITCHING the link frame alone; then the oldest job control frame, the oldest PASS-DOWN
at a block run count of 8, a block whose channel has credit, and the oldest PASS-DOWN. -/
def Obligations.TransmitOrder : Prop :=
  ∀ x : Bay,
    ((x.port.phase = .probing ∨ x.port.phase = .switching) →
      x.txChoice = x.port.linkFrame.map .link) ∧
    ((x.port.phase = .down ∨ x.port.phase = .forced ∨
      (x.port.phase = .trained ∧ x.port.qualified = false)) → x.txChoice = none) ∧
    (x.port.phase = .trained → x.port.qualified = true →
      (∀ f rest, x.port.control = f :: rest → x.txChoice = some (.control f)) ∧
      (x.port.control = [] →
        (∀ e, x.nextBlock = some e → (x.port.passDown = [] ∨ x.port.blockRun ≠ 8) →
          x.txChoice = some (.block e)) ∧
        (∀ body rest, x.port.passDown = body :: rest →
          (x.port.blockRun = 8 ∨ x.nextBlock = none) → x.txChoice = some (.passDown body)) ∧
        (x.nextBlock = none → x.port.passDown = [] → x.txChoice = none)))
end

