-- ==== Sys2Proof/Laws/State.lean ====
section
/-! SUPPORT. What each update of the state changes and what it leaves: one lemma per field per
update, for simp. -/

namespace Sys2Proof.Machine

@[simp] theorem State.setBay_pending (s : State) (b : BayId) (x : Bay) :
    (s.setBay b x).pending = s.pending := rfl
@[simp] theorem State.setBay_clock (s : State) (b : BayId) (x : Bay) :
    (s.setBay b x).clock = s.clock := rfl
@[simp] theorem State.setBay_resetHeld (s : State) (b : BayId) (x : Bay) :
    (s.setBay b x).resetHeld = s.resetHeld := rfl
@[simp] theorem State.setBay_resetCause (s : State) (b : BayId) (x : Bay) :
    (s.setBay b x).resetCause = s.resetCause := rfl
@[simp] theorem State.setBay_straps (s : State) (b : BayId) (x : Bay) :
    (s.setBay b x).straps = s.straps := rfl
@[simp] theorem State.setBay_strapReads (s : State) (b : BayId) (x : Bay) :
    (s.setBay b x).strapReads = s.strapReads := rfl
@[simp] theorem State.setBay_config (s : State) (b : BayId) (x : Bay) :
    (s.setBay b x).config = s.config := rfl
@[simp] theorem State.setBay_manifest (s : State) (b : BayId) (x : Bay) :
    (s.setBay b x).manifest = s.manifest := rfl
@[simp] theorem State.setBay_streams (s : State) (b : BayId) (x : Bay) :
    (s.setBay b x).streams = s.streams := rfl
@[simp] theorem State.setBay_due (s : State) (b : BayId) (x : Bay) :
    (s.setBay b x).due = s.due := rfl
@[simp] theorem State.setBay_pool (s : State) (b : BayId) (x : Bay) :
    (s.setBay b x).pool = s.pool := rfl
@[simp] theorem State.setBay_departures (s : State) (b : BayId) (x : Bay) :
    (s.setBay b x).departures = s.departures := rfl
@[simp] theorem State.setBay_resume (s : State) (b : BayId) (x : Bay) :
    (s.setBay b x).resume = s.resume := rfl
@[simp] theorem State.setBay_uplink (s : State) (b : BayId) (x : Bay) :
    (s.setBay b x).uplink = s.uplink := rfl
@[simp] theorem State.setBay_mgmt (s : State) (b : BayId) (x : Bay) :
    (s.setBay b x).mgmt = s.mgmt := rfl
@[simp] theorem State.setBay_notices (s : State) (b : BayId) (x : Bay) :
    (s.setBay b x).notices = s.notices := rfl
@[simp] theorem State.setBay_counters (s : State) (b : BayId) (x : Bay) :
    (s.setBay b x).counters = s.counters := rfl

@[simp] theorem State.modStream_pending (s : State) (st : StreamId) (f : Stream → Stream) :
    (s.modStream st f).pending = s.pending := rfl
@[simp] theorem State.modStream_clock (s : State) (st : StreamId) (f : Stream → Stream) :
    (s.modStream st f).clock = s.clock := rfl
@[simp] theorem State.modStream_resetHeld (s : State) (st : StreamId) (f : Stream → Stream) :
    (s.modStream st f).resetHeld = s.resetHeld := rfl
@[simp] theorem State.modStream_resetCause (s : State) (st : StreamId) (f : Stream → Stream) :
    (s.modStream st f).resetCause = s.resetCause := rfl
@[simp] theorem State.modStream_straps (s : State) (st : StreamId) (f : Stream → Stream) :
    (s.modStream st f).straps = s.straps := rfl
@[simp] theorem State.modStream_strapReads (s : State) (st : StreamId) (f : Stream → Stream) :
    (s.modStream st f).strapReads = s.strapReads := rfl
@[simp] theorem State.modStream_config (s : State) (st : StreamId) (f : Stream → Stream) :
    (s.modStream st f).config = s.config := rfl
@[simp] theorem State.modStream_manifest (s : State) (st : StreamId) (f : Stream → Stream) :
    (s.modStream st f).manifest = s.manifest := rfl
@[simp] theorem State.modStream_due (s : State) (st : StreamId) (f : Stream → Stream) :
    (s.modStream st f).due = s.due := rfl
@[simp] theorem State.modStream_pool (s : State) (st : StreamId) (f : Stream → Stream) :
    (s.modStream st f).pool = s.pool := rfl
@[simp] theorem State.modStream_departures (s : State) (st : StreamId) (f : Stream → Stream) :
    (s.modStream st f).departures = s.departures := rfl
@[simp] theorem State.modStream_resume (s : State) (st : StreamId) (f : Stream → Stream) :
    (s.modStream st f).resume = s.resume := rfl
@[simp] theorem State.modStream_uplink (s : State) (st : StreamId) (f : Stream → Stream) :
    (s.modStream st f).uplink = s.uplink := rfl
@[simp] theorem State.modStream_mgmt (s : State) (st : StreamId) (f : Stream → Stream) :
    (s.modStream st f).mgmt = s.mgmt := rfl
@[simp] theorem State.modStream_notices (s : State) (st : StreamId) (f : Stream → Stream) :
    (s.modStream st f).notices = s.notices := rfl
@[simp] theorem State.modStream_counters (s : State) (st : StreamId) (f : Stream → Stream) :
    (s.modStream st f).counters = s.counters := rfl
@[simp] theorem State.modStream_bays (s : State) (st : StreamId) (f : Stream → Stream) :
    (s.modStream st f).bays = s.bays := rfl

@[simp] theorem State.modEntry_pending (s : State) (i : EntryId) (f : Entry → Entry) :
    (s.modEntry i f).pending = s.pending := rfl
@[simp] theorem State.modEntry_clock (s : State) (i : EntryId) (f : Entry → Entry) :
    (s.modEntry i f).clock = s.clock := rfl
@[simp] theorem State.modEntry_resetHeld (s : State) (i : EntryId) (f : Entry → Entry) :
    (s.modEntry i f).resetHeld = s.resetHeld := rfl
@[simp] theorem State.modEntry_resetCause (s : State) (i : EntryId) (f : Entry → Entry) :
    (s.modEntry i f).resetCause = s.resetCause := rfl
@[simp] theorem State.modEntry_straps (s : State) (i : EntryId) (f : Entry → Entry) :
    (s.modEntry i f).straps = s.straps := rfl
@[simp] theorem State.modEntry_strapReads (s : State) (i : EntryId) (f : Entry → Entry) :
    (s.modEntry i f).strapReads = s.strapReads := rfl
@[simp] theorem State.modEntry_config (s : State) (i : EntryId) (f : Entry → Entry) :
    (s.modEntry i f).config = s.config := rfl
@[simp] theorem State.modEntry_streams (s : State) (i : EntryId) (f : Entry → Entry) :
    (s.modEntry i f).streams = s.streams := rfl
@[simp] theorem State.modEntry_due (s : State) (i : EntryId) (f : Entry → Entry) :
    (s.modEntry i f).due = s.due := rfl
@[simp] theorem State.modEntry_pool (s : State) (i : EntryId) (f : Entry → Entry) :
    (s.modEntry i f).pool = s.pool := rfl
@[simp] theorem State.modEntry_departures (s : State) (i : EntryId) (f : Entry → Entry) :
    (s.modEntry i f).departures = s.departures := rfl
@[simp] theorem State.modEntry_resume (s : State) (i : EntryId) (f : Entry → Entry) :
    (s.modEntry i f).resume = s.resume := rfl
@[simp] theorem State.modEntry_uplink (s : State) (i : EntryId) (f : Entry → Entry) :
    (s.modEntry i f).uplink = s.uplink := rfl
@[simp] theorem State.modEntry_mgmt (s : State) (i : EntryId) (f : Entry → Entry) :
    (s.modEntry i f).mgmt = s.mgmt := rfl
@[simp] theorem State.modEntry_notices (s : State) (i : EntryId) (f : Entry → Entry) :
    (s.modEntry i f).notices = s.notices := rfl
@[simp] theorem State.modEntry_counters (s : State) (i : EntryId) (f : Entry → Entry) :
    (s.modEntry i f).counters = s.counters := rfl
@[simp] theorem State.modEntry_bays (s : State) (i : EntryId) (f : Entry → Entry) :
    (s.modEntry i f).bays = s.bays := rfl

@[simp] theorem State.count_pending (s : State) (c : BridgeCounter) :
    (s.count c).pending = s.pending := rfl
@[simp] theorem State.count_clock (s : State) (c : BridgeCounter) :
    (s.count c).clock = s.clock := rfl
@[simp] theorem State.count_resetHeld (s : State) (c : BridgeCounter) :
    (s.count c).resetHeld = s.resetHeld := rfl
@[simp] theorem State.count_resetCause (s : State) (c : BridgeCounter) :
    (s.count c).resetCause = s.resetCause := rfl
@[simp] theorem State.count_straps (s : State) (c : BridgeCounter) :
    (s.count c).straps = s.straps := rfl
@[simp] theorem State.count_strapReads (s : State) (c : BridgeCounter) :
    (s.count c).strapReads = s.strapReads := rfl
@[simp] theorem State.count_config (s : State) (c : BridgeCounter) :
    (s.count c).config = s.config := rfl
@[simp] theorem State.count_manifest (s : State) (c : BridgeCounter) :
    (s.count c).manifest = s.manifest := rfl
@[simp] theorem State.count_streams (s : State) (c : BridgeCounter) :
    (s.count c).streams = s.streams := rfl
@[simp] theorem State.count_due (s : State) (c : BridgeCounter) :
    (s.count c).due = s.due := rfl
@[simp] theorem State.count_pool (s : State) (c : BridgeCounter) :
    (s.count c).pool = s.pool := rfl
@[simp] theorem State.count_departures (s : State) (c : BridgeCounter) :
    (s.count c).departures = s.departures := rfl
@[simp] theorem State.count_resume (s : State) (c : BridgeCounter) :
    (s.count c).resume = s.resume := rfl
@[simp] theorem State.count_uplink (s : State) (c : BridgeCounter) :
    (s.count c).uplink = s.uplink := rfl
@[simp] theorem State.count_mgmt (s : State) (c : BridgeCounter) :
    (s.count c).mgmt = s.mgmt := rfl
@[simp] theorem State.count_notices (s : State) (c : BridgeCounter) :
    (s.count c).notices = s.notices := rfl
@[simp] theorem State.count_bays (s : State) (c : BridgeCounter) :
    (s.count c).bays = s.bays := rfl

@[simp] theorem State.makeDue_pending (s : State) (st : StreamId) :
    (s.makeDue st).pending = s.pending := by
  unfold State.makeDue; split <;> rfl
@[simp] theorem State.makeDue_clock (s : State) (st : StreamId) :
    (s.makeDue st).clock = s.clock := by
  unfold State.makeDue; split <;> rfl
@[simp] theorem State.makeDue_resetHeld (s : State) (st : StreamId) :
    (s.makeDue st).resetHeld = s.resetHeld := by
  unfold State.makeDue; split <;> rfl
@[simp] theorem State.makeDue_resetCause (s : State) (st : StreamId) :
    (s.makeDue st).resetCause = s.resetCause := by
  unfold State.makeDue; split <;> rfl
@[simp] theorem State.makeDue_straps (s : State) (st : StreamId) :
    (s.makeDue st).straps = s.straps := by
  unfold State.makeDue; split <;> rfl
@[simp] theorem State.makeDue_strapReads (s : State) (st : StreamId) :
    (s.makeDue st).strapReads = s.strapReads := by
  unfold State.makeDue; split <;> rfl
@[simp] theorem State.makeDue_config (s : State) (st : StreamId) :
    (s.makeDue st).config = s.config := by
  unfold State.makeDue; split <;> rfl
@[simp] theorem State.makeDue_manifest (s : State) (st : StreamId) :
    (s.makeDue st).manifest = s.manifest := by
  unfold State.makeDue; split <;> rfl
@[simp] theorem State.makeDue_streams (s : State) (st : StreamId) :
    (s.makeDue st).streams = s.streams := by
  unfold State.makeDue; split <;> rfl
@[simp] theorem State.makeDue_pool (s : State) (st : StreamId) :
    (s.makeDue st).pool = s.pool := by
  unfold State.makeDue; split <;> rfl
@[simp] theorem State.makeDue_departures (s : State) (st : StreamId) :
    (s.makeDue st).departures = s.departures := by
  unfold State.makeDue; split <;> rfl
@[simp] theorem State.makeDue_resume (s : State) (st : StreamId) :
    (s.makeDue st).resume = s.resume := by
  unfold State.makeDue; split <;> rfl
@[simp] theorem State.makeDue_uplink (s : State) (st : StreamId) :
    (s.makeDue st).uplink = s.uplink := by
  unfold State.makeDue; split <;> rfl
@[simp] theorem State.makeDue_mgmt (s : State) (st : StreamId) :
    (s.makeDue st).mgmt = s.mgmt := by
  unfold State.makeDue; split <;> rfl
@[simp] theorem State.makeDue_notices (s : State) (st : StreamId) :
    (s.makeDue st).notices = s.notices := by
  unfold State.makeDue; split <;> rfl
@[simp] theorem State.makeDue_counters (s : State) (st : StreamId) :
    (s.makeDue st).counters = s.counters := by
  unfold State.makeDue; split <;> rfl
@[simp] theorem State.makeDue_bays (s : State) (st : StreamId) :
    (s.makeDue st).bays = s.bays := by
  unfold State.makeDue; split <;> rfl

@[simp] theorem State.post_pending (s : State) (n : Notice) :
    (s.post n).pending = s.pending := by
  unfold State.post; split
  · split <;> rfl
  · rfl
@[simp] theorem State.post_clock (s : State) (n : Notice) :
    (s.post n).clock = s.clock := by
  unfold State.post; split
  · split <;> rfl
  · rfl
@[simp] theorem State.post_resetHeld (s : State) (n : Notice) :
    (s.post n).resetHeld = s.resetHeld := by
  unfold State.post; split
  · split <;> rfl
  · rfl
@[simp] theorem State.post_resetCause (s : State) (n : Notice) :
    (s.post n).resetCause = s.resetCause := by
  unfold State.post; split
  · split <;> rfl
  · rfl
@[simp] theorem State.post_straps (s : State) (n : Notice) :
    (s.post n).straps = s.straps := by
  unfold State.post; split
  · split <;> rfl
  · rfl
@[simp] theorem State.post_strapReads (s : State) (n : Notice) :
    (s.post n).strapReads = s.strapReads := by
  unfold State.post; split
  · split <;> rfl
  · rfl
@[simp] theorem State.post_config (s : State) (n : Notice) :
    (s.post n).config = s.config := by
  unfold State.post; split
  · split <;> rfl
  · rfl
@[simp] theorem State.post_manifest (s : State) (n : Notice) :
    (s.post n).manifest = s.manifest := by
  unfold State.post; split
  · split <;> rfl
  · rfl
@[simp] theorem State.post_streams (s : State) (n : Notice) :
    (s.post n).streams = s.streams := by
  unfold State.post; split
  · split <;> rfl
  · rfl
@[simp] theorem State.post_due (s : State) (n : Notice) :
    (s.post n).due = s.due := by
  unfold State.post; split
  · split <;> rfl
  · rfl
@[simp] theorem State.post_pool (s : State) (n : Notice) :
    (s.post n).pool = s.pool := by
  unfold State.post; split
  · split <;> rfl
  · rfl
@[simp] theorem State.post_departures (s : State) (n : Notice) :
    (s.post n).departures = s.departures := by
  unfold State.post; split
  · split <;> rfl
  · rfl
@[simp] theorem State.post_resume (s : State) (n : Notice) :
    (s.post n).resume = s.resume := by
  unfold State.post; split
  · split <;> rfl
  · rfl
@[simp] theorem State.post_uplink (s : State) (n : Notice) :
    (s.post n).uplink = s.uplink := by
  unfold State.post; split
  · split <;> rfl
  · rfl
@[simp] theorem State.post_mgmt (s : State) (n : Notice) :
    (s.post n).mgmt = s.mgmt := by
  unfold State.post; split
  · split <;> rfl
  · rfl
@[simp] theorem State.post_bays (s : State) (n : Notice) :
    (s.post n).bays = s.bays := by
  unfold State.post; split
  · split <;> rfl
  · rfl

/-! ## Reading a bay after an update -/

@[simp] theorem State.setBay_bay (s : State) (b : BayId) (x : Bay) : (s.setBay b x).bay b = x := by
  simp [State.bay, State.setBay]

theorem State.setBay_bay_ne (s : State) {a b : BayId} (x : Bay) (h : b ≠ a) :
    (s.setBay b x).bay a = s.bay a := by
  simp [State.bay, State.setBay, h]

@[simp] theorem State.setBay_setBay (s : State) (b : BayId) (x y : Bay) :
    (s.setBay b x).setBay b y = s.setBay b y := by
  simp [State.setBay]

@[simp] theorem State.setBay_self (s : State) (b : BayId) : s.setBay b (s.bay b) = s := by
  simp [State.setBay, State.bay]

@[simp] theorem State.modBay_eq (s : State) (b : BayId) (f : Bay → Bay) :
    s.modBay b f = s.setBay b (f (s.bay b)) := rfl

/-- Every update of a part of a bay is one of `modBay`. -/
@[simp] theorem State.modPort_eq (s : State) (b : BayId) (f : Port → Port) :
    s.modPort b f = s.modBay b fun x => { x with port := f x.port } := rfl

@[simp] theorem State.modCtl_eq (s : State) (b : BayId) (f : Controller → Controller) :
    s.modCtl b f = s.modBay b fun x => { x with ctl := f x.ctl } := rfl

@[simp] theorem State.modDeadline_eq (s : State) (b : BayId) (f : Deadline → Deadline) :
    s.modDeadline b f = s.modBay b fun x => { x with deadline := f x.deadline } := rfl

@[simp] theorem State.setActivation_eq (s : State) (b : BayId) (a : Activation) :
    s.setActivation b a = s.modBay b fun x => { x with activation := a } := rfl

@[simp] theorem State.modInventory_eq (s : State) (b : BayId)
    (f : List UnitRecord → List UnitRecord) :
    s.modInventory b f = s.modBay b fun x => { x with inventory := f x.inventory } := rfl

@[simp] theorem State.modUnit_eq (s : State) (b : BayId) (u : UnitAddr)
    (f : UnitRecord → UnitRecord) :
    s.modUnit b u f = s.modBay b fun x =>
      { x with inventory := x.inventory.map fun r => if r.unit = u then f r else r } := rfl

@[simp] theorem State.setJob_eq (s : State) (b : BayId) (p : Place) (j : Option Job) :
    s.setJob b p j = s.modBay b fun x => { x with jobs := x.jobs.set p j } := rfl

@[simp] theorem State.modJob_eq (s : State) (b : BayId) (p : Place) (f : Job → Job) :
    s.modJob b p f = s.modBay b fun x => { x with jobs := x.jobs.modify p (Option.map f) } := rfl

@[simp] theorem State.modChannel_eq (s : State) (b : BayId) (c : ChannelId)
    (f : Channel → Channel) :
    s.modChannel b c f = s.modBay b fun x => { x with channels := x.channels.modify c.val f } := rfl

@[simp] theorem State.bump_eq (s : State) (b : BayId) (c : BayCounter) :
    s.bump b c = s.modBay b fun x => { x with counters := x.counters.modify c.index satInc } := rfl

/-! ## Reading a stream and an entry after an update -/

@[simp] theorem State.modStream_stream (s : State) (st : StreamId) (f : Stream → Stream) :
    (s.modStream st f).stream st = f (s.stream st) := by
  simp [State.stream, State.modStream]

theorem State.modStream_stream_ne (s : State) {st tt : StreamId} (f : Stream → Stream)
    (h : st ≠ tt) : (s.modStream st f).stream tt = s.stream tt := by
  simp [State.stream, State.modStream, h]

@[simp] theorem State.modEntry_entry (s : State) (i : EntryId) (f : Entry → Entry) :
    (s.modEntry i f).entry i = f (s.entry i) := by
  simp [State.entry, State.modEntry]

theorem State.modEntry_entry_ne (s : State) {i k : EntryId} (f : Entry → Entry) (h : i ≠ k) :
    (s.modEntry i f).entry k = s.entry k := by
  simp [State.entry, State.modEntry, h]

@[simp] theorem State.setBay_stream (s : State) (b : BayId) (x : Bay) (st : StreamId) :
    (s.setBay b x).stream st = s.stream st := rfl

@[simp] theorem State.setBay_entry (s : State) (b : BayId) (x : Bay) (i : EntryId) :
    (s.setBay b x).entry i = s.entry i := rfl

@[simp] theorem State.modStream_bay (s : State) (st : StreamId) (f : Stream → Stream) (b : BayId) :
    (s.modStream st f).bay b = s.bay b := rfl

@[simp] theorem State.modEntry_bay (s : State) (i : EntryId) (f : Entry → Entry) (b : BayId) :
    (s.modEntry i f).bay b = s.bay b := rfl

@[simp] theorem State.post_bay (s : State) (n : Notice) (b : BayId) :
    (s.post n).bay b = s.bay b := by
  simp [State.bay]

@[simp] theorem State.post_stream (s : State) (n : Notice) (st : StreamId) :
    (s.post n).stream st = s.stream st := by
  simp [State.stream]

@[simp] theorem State.count_bay (s : State) (c : BridgeCounter) (b : BayId) :
    (s.count c).bay b = s.bay b := rfl

@[simp] theorem State.count_stream (s : State) (c : BridgeCounter) (st : StreamId) :
    (s.count c).stream st = s.stream st := rfl

@[simp] theorem State.makeDue_bay (s : State) (st : StreamId) (b : BayId) :
    (s.makeDue st).bay b = s.bay b := by
  simp [State.bay]

@[simp] theorem State.makeDue_stream (s : State) (st tt : StreamId) :
    (s.makeDue st).stream tt = s.stream tt := by
  simp [State.stream]

end Sys2Proof.Machine
end

