-- ==== Sys2Proof/Laws/Streams.lean ====
section
/-! SUPPORT. What the stream table, the grant arbiter and the pool's operations leave as they were,
one lemma per field for simp, and what they do to a stream. -/

namespace Sys2Proof.Machine

/-- A fold whose step leaves something leaves it. -/
theorem foldl_keeps {σ α β : Type} (g : σ → β) (f : σ → α → σ) (h : ∀ s a, g (f s a) = g s)
    (l : List α) (s : σ) : g (l.foldl f s) = g s := by
  induction l generalizing s with
  | nil => rfl
  | cons a t ih => rw [List.foldl_cons, ih, h]

/-- A fold whose step keeps a property keeps it. -/
theorem foldl_inv {σ α : Type} (P : σ → Prop) (f : σ → α → σ) (h : ∀ s a, P s → P (f s a))
    (l : List α) (s : σ) (hs : P s) : P (l.foldl f s) := by
  induction l generalizing s with
  | nil => exact hs
  | cons a t ih => exact ih _ (h s a hs)

@[simp] theorem State.grantTo_pending (s : State) (st : StreamId) :
    (s.grantTo st).pending = s.pending := by
  simp [State.grantTo]
@[simp] theorem State.grantTo_clock (s : State) (st : StreamId) :
    (s.grantTo st).clock = s.clock := by
  simp [State.grantTo]
@[simp] theorem State.grantTo_resetHeld (s : State) (st : StreamId) :
    (s.grantTo st).resetHeld = s.resetHeld := by
  simp [State.grantTo]
@[simp] theorem State.grantTo_resetCause (s : State) (st : StreamId) :
    (s.grantTo st).resetCause = s.resetCause := by
  simp [State.grantTo]
@[simp] theorem State.grantTo_straps (s : State) (st : StreamId) :
    (s.grantTo st).straps = s.straps := by
  simp [State.grantTo]
@[simp] theorem State.grantTo_strapReads (s : State) (st : StreamId) :
    (s.grantTo st).strapReads = s.strapReads := by
  simp [State.grantTo]
@[simp] theorem State.grantTo_config (s : State) (st : StreamId) :
    (s.grantTo st).config = s.config := by
  simp [State.grantTo]
@[simp] theorem State.grantTo_manifest (s : State) (st : StreamId) :
    (s.grantTo st).manifest = s.manifest := by
  simp [State.grantTo]
@[simp] theorem State.grantTo_pool (s : State) (st : StreamId) :
    (s.grantTo st).pool = s.pool := by
  simp [State.grantTo]
@[simp] theorem State.grantTo_departures (s : State) (st : StreamId) :
    (s.grantTo st).departures = s.departures := by
  simp [State.grantTo]
@[simp] theorem State.grantTo_resume (s : State) (st : StreamId) :
    (s.grantTo st).resume = s.resume := by
  simp [State.grantTo]
@[simp] theorem State.grantTo_uplink (s : State) (st : StreamId) :
    (s.grantTo st).uplink = s.uplink := by
  simp [State.grantTo]
@[simp] theorem State.grantTo_mgmt (s : State) (st : StreamId) :
    (s.grantTo st).mgmt = s.mgmt := by
  simp [State.grantTo]
@[simp] theorem State.grantTo_notices (s : State) (st : StreamId) :
    (s.grantTo st).notices = s.notices := by
  simp [State.grantTo]
@[simp] theorem State.grantTo_counters (s : State) (st : StreamId) :
    (s.grantTo st).counters = s.counters := by
  simp [State.grantTo]
@[simp] theorem State.grantTo_bays (s : State) (st : StreamId) :
    (s.grantTo st).bays = s.bays := by
  simp [State.grantTo]

@[simp] theorem State.grants_pending (s : State) (n : Nat) :
    (State.grants n s).pending = s.pending := by
  induction n generalizing s with
  | zero => rfl
  | succ n ih => unfold State.grants; split <;> [rfl; split] <;> simp [ih]
@[simp] theorem State.grants_clock (s : State) (n : Nat) :
    (State.grants n s).clock = s.clock := by
  induction n generalizing s with
  | zero => rfl
  | succ n ih => unfold State.grants; split <;> [rfl; split] <;> simp [ih]
@[simp] theorem State.grants_resetHeld (s : State) (n : Nat) :
    (State.grants n s).resetHeld = s.resetHeld := by
  induction n generalizing s with
  | zero => rfl
  | succ n ih => unfold State.grants; split <;> [rfl; split] <;> simp [ih]
@[simp] theorem State.grants_resetCause (s : State) (n : Nat) :
    (State.grants n s).resetCause = s.resetCause := by
  induction n generalizing s with
  | zero => rfl
  | succ n ih => unfold State.grants; split <;> [rfl; split] <;> simp [ih]
@[simp] theorem State.grants_straps (s : State) (n : Nat) :
    (State.grants n s).straps = s.straps := by
  induction n generalizing s with
  | zero => rfl
  | succ n ih => unfold State.grants; split <;> [rfl; split] <;> simp [ih]
@[simp] theorem State.grants_strapReads (s : State) (n : Nat) :
    (State.grants n s).strapReads = s.strapReads := by
  induction n generalizing s with
  | zero => rfl
  | succ n ih => unfold State.grants; split <;> [rfl; split] <;> simp [ih]
@[simp] theorem State.grants_config (s : State) (n : Nat) :
    (State.grants n s).config = s.config := by
  induction n generalizing s with
  | zero => rfl
  | succ n ih => unfold State.grants; split <;> [rfl; split] <;> simp [ih]
@[simp] theorem State.grants_manifest (s : State) (n : Nat) :
    (State.grants n s).manifest = s.manifest := by
  induction n generalizing s with
  | zero => rfl
  | succ n ih => unfold State.grants; split <;> [rfl; split] <;> simp [ih]
@[simp] theorem State.grants_pool (s : State) (n : Nat) :
    (State.grants n s).pool = s.pool := by
  induction n generalizing s with
  | zero => rfl
  | succ n ih => unfold State.grants; split <;> [rfl; split] <;> simp [ih]
@[simp] theorem State.grants_departures (s : State) (n : Nat) :
    (State.grants n s).departures = s.departures := by
  induction n generalizing s with
  | zero => rfl
  | succ n ih => unfold State.grants; split <;> [rfl; split] <;> simp [ih]
@[simp] theorem State.grants_resume (s : State) (n : Nat) :
    (State.grants n s).resume = s.resume := by
  induction n generalizing s with
  | zero => rfl
  | succ n ih => unfold State.grants; split <;> [rfl; split] <;> simp [ih]
@[simp] theorem State.grants_uplink (s : State) (n : Nat) :
    (State.grants n s).uplink = s.uplink := by
  induction n generalizing s with
  | zero => rfl
  | succ n ih => unfold State.grants; split <;> [rfl; split] <;> simp [ih]
@[simp] theorem State.grants_mgmt (s : State) (n : Nat) :
    (State.grants n s).mgmt = s.mgmt := by
  induction n generalizing s with
  | zero => rfl
  | succ n ih => unfold State.grants; split <;> [rfl; split] <;> simp [ih]
@[simp] theorem State.grants_notices (s : State) (n : Nat) :
    (State.grants n s).notices = s.notices := by
  induction n generalizing s with
  | zero => rfl
  | succ n ih => unfold State.grants; split <;> [rfl; split] <;> simp [ih]
@[simp] theorem State.grants_counters (s : State) (n : Nat) :
    (State.grants n s).counters = s.counters := by
  induction n generalizing s with
  | zero => rfl
  | succ n ih => unfold State.grants; split <;> [rfl; split] <;> simp [ih]
@[simp] theorem State.grants_bays (s : State) (n : Nat) :
    (State.grants n s).bays = s.bays := by
  induction n generalizing s with
  | zero => rfl
  | succ n ih => unfold State.grants; split <;> [rfl; split] <;> simp [ih]

@[simp] theorem State.arbitrate_pending (s : State)  :
    (s.arbitrate).pending = s.pending := by
  simp [State.arbitrate]
@[simp] theorem State.arbitrate_clock (s : State)  :
    (s.arbitrate).clock = s.clock := by
  simp [State.arbitrate]
@[simp] theorem State.arbitrate_resetHeld (s : State)  :
    (s.arbitrate).resetHeld = s.resetHeld := by
  simp [State.arbitrate]
@[simp] theorem State.arbitrate_resetCause (s : State)  :
    (s.arbitrate).resetCause = s.resetCause := by
  simp [State.arbitrate]
@[simp] theorem State.arbitrate_straps (s : State)  :
    (s.arbitrate).straps = s.straps := by
  simp [State.arbitrate]
@[simp] theorem State.arbitrate_strapReads (s : State)  :
    (s.arbitrate).strapReads = s.strapReads := by
  simp [State.arbitrate]
@[simp] theorem State.arbitrate_config (s : State)  :
    (s.arbitrate).config = s.config := by
  simp [State.arbitrate]
@[simp] theorem State.arbitrate_manifest (s : State)  :
    (s.arbitrate).manifest = s.manifest := by
  simp [State.arbitrate]
@[simp] theorem State.arbitrate_pool (s : State)  :
    (s.arbitrate).pool = s.pool := by
  simp [State.arbitrate]
@[simp] theorem State.arbitrate_departures (s : State)  :
    (s.arbitrate).departures = s.departures := by
  simp [State.arbitrate]
@[simp] theorem State.arbitrate_resume (s : State)  :
    (s.arbitrate).resume = s.resume := by
  simp [State.arbitrate]
@[simp] theorem State.arbitrate_uplink (s : State)  :
    (s.arbitrate).uplink = s.uplink := by
  simp [State.arbitrate]
@[simp] theorem State.arbitrate_mgmt (s : State)  :
    (s.arbitrate).mgmt = s.mgmt := by
  simp [State.arbitrate]
@[simp] theorem State.arbitrate_notices (s : State)  :
    (s.arbitrate).notices = s.notices := by
  simp [State.arbitrate]
@[simp] theorem State.arbitrate_counters (s : State)  :
    (s.arbitrate).counters = s.counters := by
  simp [State.arbitrate]
@[simp] theorem State.arbitrate_bays (s : State)  :
    (s.arbitrate).bays = s.bays := by
  simp [State.arbitrate]

@[simp] theorem State.recomputeResume_pending (s : State) (st : StreamId) :
    (s.recomputeResume st).pending = s.pending := rfl
@[simp] theorem State.recomputeResume_clock (s : State) (st : StreamId) :
    (s.recomputeResume st).clock = s.clock := rfl
@[simp] theorem State.recomputeResume_resetHeld (s : State) (st : StreamId) :
    (s.recomputeResume st).resetHeld = s.resetHeld := rfl
@[simp] theorem State.recomputeResume_resetCause (s : State) (st : StreamId) :
    (s.recomputeResume st).resetCause = s.resetCause := rfl
@[simp] theorem State.recomputeResume_straps (s : State) (st : StreamId) :
    (s.recomputeResume st).straps = s.straps := rfl
@[simp] theorem State.recomputeResume_strapReads (s : State) (st : StreamId) :
    (s.recomputeResume st).strapReads = s.strapReads := rfl
@[simp] theorem State.recomputeResume_config (s : State) (st : StreamId) :
    (s.recomputeResume st).config = s.config := rfl
@[simp] theorem State.recomputeResume_manifest (s : State) (st : StreamId) :
    (s.recomputeResume st).manifest = s.manifest := rfl
@[simp] theorem State.recomputeResume_due (s : State) (st : StreamId) :
    (s.recomputeResume st).due = s.due := rfl
@[simp] theorem State.recomputeResume_pool (s : State) (st : StreamId) :
    (s.recomputeResume st).pool = s.pool := rfl
@[simp] theorem State.recomputeResume_departures (s : State) (st : StreamId) :
    (s.recomputeResume st).departures = s.departures := rfl
@[simp] theorem State.recomputeResume_resume (s : State) (st : StreamId) :
    (s.recomputeResume st).resume = s.resume := rfl
@[simp] theorem State.recomputeResume_uplink (s : State) (st : StreamId) :
    (s.recomputeResume st).uplink = s.uplink := rfl
@[simp] theorem State.recomputeResume_mgmt (s : State) (st : StreamId) :
    (s.recomputeResume st).mgmt = s.mgmt := rfl
@[simp] theorem State.recomputeResume_notices (s : State) (st : StreamId) :
    (s.recomputeResume st).notices = s.notices := rfl
@[simp] theorem State.recomputeResume_counters (s : State) (st : StreamId) :
    (s.recomputeResume st).counters = s.counters := rfl
@[simp] theorem State.recomputeResume_bays (s : State) (st : StreamId) :
    (s.recomputeResume st).bays = s.bays := rfl

@[simp] theorem State.satisfy_pending (s : State) (st : StreamId) :
    (s.satisfy st).pending = s.pending := by
  simp [State.satisfy]
@[simp] theorem State.satisfy_clock (s : State) (st : StreamId) :
    (s.satisfy st).clock = s.clock := by
  simp [State.satisfy]
@[simp] theorem State.satisfy_resetHeld (s : State) (st : StreamId) :
    (s.satisfy st).resetHeld = s.resetHeld := by
  simp [State.satisfy]
@[simp] theorem State.satisfy_resetCause (s : State) (st : StreamId) :
    (s.satisfy st).resetCause = s.resetCause := by
  simp [State.satisfy]
@[simp] theorem State.satisfy_straps (s : State) (st : StreamId) :
    (s.satisfy st).straps = s.straps := by
  simp [State.satisfy]
@[simp] theorem State.satisfy_strapReads (s : State) (st : StreamId) :
    (s.satisfy st).strapReads = s.strapReads := by
  simp [State.satisfy]
@[simp] theorem State.satisfy_config (s : State) (st : StreamId) :
    (s.satisfy st).config = s.config := by
  simp [State.satisfy]
@[simp] theorem State.satisfy_manifest (s : State) (st : StreamId) :
    (s.satisfy st).manifest = s.manifest := by
  simp [State.satisfy]
@[simp] theorem State.satisfy_pool (s : State) (st : StreamId) :
    (s.satisfy st).pool = s.pool := by
  simp [State.satisfy]
@[simp] theorem State.satisfy_departures (s : State) (st : StreamId) :
    (s.satisfy st).departures = s.departures := by
  simp [State.satisfy]
@[simp] theorem State.satisfy_resume (s : State) (st : StreamId) :
    (s.satisfy st).resume = s.resume := by
  simp [State.satisfy]
@[simp] theorem State.satisfy_uplink (s : State) (st : StreamId) :
    (s.satisfy st).uplink = s.uplink := by
  simp [State.satisfy]
@[simp] theorem State.satisfy_mgmt (s : State) (st : StreamId) :
    (s.satisfy st).mgmt = s.mgmt := by
  simp [State.satisfy]
@[simp] theorem State.satisfy_bays (s : State) (st : StreamId) :
    (s.satisfy st).bays = s.bays := by
  simp [State.satisfy]

@[simp] theorem State.unsatisfy_pending (s : State) (st : StreamId) :
    (s.unsatisfy st).pending = s.pending := by
  simp [State.unsatisfy]
@[simp] theorem State.unsatisfy_clock (s : State) (st : StreamId) :
    (s.unsatisfy st).clock = s.clock := by
  simp [State.unsatisfy]
@[simp] theorem State.unsatisfy_resetHeld (s : State) (st : StreamId) :
    (s.unsatisfy st).resetHeld = s.resetHeld := by
  simp [State.unsatisfy]
@[simp] theorem State.unsatisfy_resetCause (s : State) (st : StreamId) :
    (s.unsatisfy st).resetCause = s.resetCause := by
  simp [State.unsatisfy]
@[simp] theorem State.unsatisfy_straps (s : State) (st : StreamId) :
    (s.unsatisfy st).straps = s.straps := by
  simp [State.unsatisfy]
@[simp] theorem State.unsatisfy_strapReads (s : State) (st : StreamId) :
    (s.unsatisfy st).strapReads = s.strapReads := by
  simp [State.unsatisfy]
@[simp] theorem State.unsatisfy_config (s : State) (st : StreamId) :
    (s.unsatisfy st).config = s.config := by
  simp [State.unsatisfy]
@[simp] theorem State.unsatisfy_manifest (s : State) (st : StreamId) :
    (s.unsatisfy st).manifest = s.manifest := by
  simp [State.unsatisfy]
@[simp] theorem State.unsatisfy_pool (s : State) (st : StreamId) :
    (s.unsatisfy st).pool = s.pool := by
  simp [State.unsatisfy]
@[simp] theorem State.unsatisfy_departures (s : State) (st : StreamId) :
    (s.unsatisfy st).departures = s.departures := by
  simp [State.unsatisfy]
@[simp] theorem State.unsatisfy_resume (s : State) (st : StreamId) :
    (s.unsatisfy st).resume = s.resume := by
  simp [State.unsatisfy]
@[simp] theorem State.unsatisfy_uplink (s : State) (st : StreamId) :
    (s.unsatisfy st).uplink = s.uplink := by
  simp [State.unsatisfy]
@[simp] theorem State.unsatisfy_mgmt (s : State) (st : StreamId) :
    (s.unsatisfy st).mgmt = s.mgmt := by
  simp [State.unsatisfy]
@[simp] theorem State.unsatisfy_notices (s : State) (st : StreamId) :
    (s.unsatisfy st).notices = s.notices := by
  simp [State.unsatisfy]
@[simp] theorem State.unsatisfy_counters (s : State) (st : StreamId) :
    (s.unsatisfy st).counters = s.counters := by
  simp [State.unsatisfy]
@[simp] theorem State.unsatisfy_bays (s : State) (st : StreamId) :
    (s.unsatisfy st).bays = s.bays := by
  simp [State.unsatisfy]

/-- What judging a stream can do (02 R41, R45). -/
theorem State.judge_cases (s : State) (st : StreamId) :
    s.judge st = s ∨ s.judge st = s.recomputeResume st ∨ s.judge st = s.satisfy st ∨
      s.judge st = s.unsatisfy st := by
  unfold State.judge
  dsimp only
  split
  · split <;> split <;> simp
  · exact .inl rfl

@[simp] theorem State.judge_pending (s : State) (st : StreamId) :
    (s.judge st).pending = s.pending := by
  rcases s.judge_cases st with h | h | h | h <;> simp [h]
@[simp] theorem State.judge_clock (s : State) (st : StreamId) :
    (s.judge st).clock = s.clock := by
  rcases s.judge_cases st with h | h | h | h <;> simp [h]
@[simp] theorem State.judge_resetHeld (s : State) (st : StreamId) :
    (s.judge st).resetHeld = s.resetHeld := by
  rcases s.judge_cases st with h | h | h | h <;> simp [h]
@[simp] theorem State.judge_resetCause (s : State) (st : StreamId) :
    (s.judge st).resetCause = s.resetCause := by
  rcases s.judge_cases st with h | h | h | h <;> simp [h]
@[simp] theorem State.judge_straps (s : State) (st : StreamId) :
    (s.judge st).straps = s.straps := by
  rcases s.judge_cases st with h | h | h | h <;> simp [h]
@[simp] theorem State.judge_strapReads (s : State) (st : StreamId) :
    (s.judge st).strapReads = s.strapReads := by
  rcases s.judge_cases st with h | h | h | h <;> simp [h]
@[simp] theorem State.judge_config (s : State) (st : StreamId) :
    (s.judge st).config = s.config := by
  rcases s.judge_cases st with h | h | h | h <;> simp [h]
@[simp] theorem State.judge_manifest (s : State) (st : StreamId) :
    (s.judge st).manifest = s.manifest := by
  rcases s.judge_cases st with h | h | h | h <;> simp [h]
@[simp] theorem State.judge_pool (s : State) (st : StreamId) :
    (s.judge st).pool = s.pool := by
  rcases s.judge_cases st with h | h | h | h <;> simp [h]
@[simp] theorem State.judge_departures (s : State) (st : StreamId) :
    (s.judge st).departures = s.departures := by
  rcases s.judge_cases st with h | h | h | h <;> simp [h]
@[simp] theorem State.judge_resume (s : State) (st : StreamId) :
    (s.judge st).resume = s.resume := by
  rcases s.judge_cases st with h | h | h | h <;> simp [h]
@[simp] theorem State.judge_uplink (s : State) (st : StreamId) :
    (s.judge st).uplink = s.uplink := by
  rcases s.judge_cases st with h | h | h | h <;> simp [h]
@[simp] theorem State.judge_mgmt (s : State) (st : StreamId) :
    (s.judge st).mgmt = s.mgmt := by
  rcases s.judge_cases st with h | h | h | h <;> simp [h]
@[simp] theorem State.judge_bays (s : State) (st : StreamId) :
    (s.judge st).bays = s.bays := by
  rcases s.judge_cases st with h | h | h | h <;> simp [h]

/-- A judgement after some work is one judgement, or none where nothing that 02 R41 names has moved. -/
theorem State.judgeMoved_cases (s before : State) (l : List BayId) (st : StreamId) :
    ((∀ b ∈ l, (s.bay b).demand st = (before.bay b).demand st) ∧
        s.judgeMoved before l st = s) ∨
      ((∃ b ∈ l, (s.bay b).demand st ≠ (before.bay b).demand st) ∧
        s.judgeMoved before l st = s.judge st) := by
  unfold State.judgeMoved
  split
  · next h => exact .inl ⟨by simpa using h, rfl⟩
  · next h => exact .inr ⟨by simpa using h, rfl⟩

/-- Without such a move the state stays. -/
theorem State.judgeMoved_same (s before : State) (l : List BayId) (st : StreamId)
    (h : ∀ b ∈ l, (s.bay b).demand st = (before.bay b).demand st) :
    s.judgeMoved before l st = s := by
  rcases s.judgeMoved_cases before l st with ⟨-, e⟩ | ⟨⟨b, m, n⟩, -⟩
  · exact e
  · exact absurd (h b m) n

@[simp] theorem State.judgeMoved_pending (s before : State) (l : List BayId) (st : StreamId) :
    (s.judgeMoved before l st).pending = s.pending := by
  rcases s.judgeMoved_cases before l st with ⟨-, h⟩ | ⟨-, h⟩ <;> simp [h]
@[simp] theorem State.judgeMoved_clock (s before : State) (l : List BayId) (st : StreamId) :
    (s.judgeMoved before l st).clock = s.clock := by
  rcases s.judgeMoved_cases before l st with ⟨-, h⟩ | ⟨-, h⟩ <;> simp [h]
@[simp] theorem State.judgeMoved_resetHeld (s before : State) (l : List BayId) (st : StreamId) :
    (s.judgeMoved before l st).resetHeld = s.resetHeld := by
  rcases s.judgeMoved_cases before l st with ⟨-, h⟩ | ⟨-, h⟩ <;> simp [h]
@[simp] theorem State.judgeMoved_resetCause (s before : State) (l : List BayId) (st : StreamId) :
    (s.judgeMoved before l st).resetCause = s.resetCause := by
  rcases s.judgeMoved_cases before l st with ⟨-, h⟩ | ⟨-, h⟩ <;> simp [h]
@[simp] theorem State.judgeMoved_straps (s before : State) (l : List BayId) (st : StreamId) :
    (s.judgeMoved before l st).straps = s.straps := by
  rcases s.judgeMoved_cases before l st with ⟨-, h⟩ | ⟨-, h⟩ <;> simp [h]
@[simp] theorem State.judgeMoved_strapReads (s before : State) (l : List BayId) (st : StreamId) :
    (s.judgeMoved before l st).strapReads = s.strapReads := by
  rcases s.judgeMoved_cases before l st with ⟨-, h⟩ | ⟨-, h⟩ <;> simp [h]
@[simp] theorem State.judgeMoved_config (s before : State) (l : List BayId) (st : StreamId) :
    (s.judgeMoved before l st).config = s.config := by
  rcases s.judgeMoved_cases before l st with ⟨-, h⟩ | ⟨-, h⟩ <;> simp [h]
@[simp] theorem State.judgeMoved_manifest (s before : State) (l : List BayId) (st : StreamId) :
    (s.judgeMoved before l st).manifest = s.manifest := by
  rcases s.judgeMoved_cases before l st with ⟨-, h⟩ | ⟨-, h⟩ <;> simp [h]
@[simp] theorem State.judgeMoved_pool (s before : State) (l : List BayId) (st : StreamId) :
    (s.judgeMoved before l st).pool = s.pool := by
  rcases s.judgeMoved_cases before l st with ⟨-, h⟩ | ⟨-, h⟩ <;> simp [h]
@[simp] theorem State.judgeMoved_departures (s before : State) (l : List BayId) (st : StreamId) :
    (s.judgeMoved before l st).departures = s.departures := by
  rcases s.judgeMoved_cases before l st with ⟨-, h⟩ | ⟨-, h⟩ <;> simp [h]
@[simp] theorem State.judgeMoved_resume (s before : State) (l : List BayId) (st : StreamId) :
    (s.judgeMoved before l st).resume = s.resume := by
  rcases s.judgeMoved_cases before l st with ⟨-, h⟩ | ⟨-, h⟩ <;> simp [h]
@[simp] theorem State.judgeMoved_uplink (s before : State) (l : List BayId) (st : StreamId) :
    (s.judgeMoved before l st).uplink = s.uplink := by
  rcases s.judgeMoved_cases before l st with ⟨-, h⟩ | ⟨-, h⟩ <;> simp [h]
@[simp] theorem State.judgeMoved_mgmt (s before : State) (l : List BayId) (st : StreamId) :
    (s.judgeMoved before l st).mgmt = s.mgmt := by
  rcases s.judgeMoved_cases before l st with ⟨-, h⟩ | ⟨-, h⟩ <;> simp [h]
@[simp] theorem State.judgeMoved_bays (s before : State) (l : List BayId) (st : StreamId) :
    (s.judgeMoved before l st).bays = s.bays := by
  rcases s.judgeMoved_cases before l st with ⟨-, h⟩ | ⟨-, h⟩ <;> simp [h]

@[simp] theorem State.judgeAll_pending (s : State) (l : List StreamId) :
    (s.judgeAll l).pending = s.pending := by
  exact foldl_keeps (·.pending) State.judge (fun s a => by simp) l s
@[simp] theorem State.judgeAll_clock (s : State) (l : List StreamId) :
    (s.judgeAll l).clock = s.clock := by
  exact foldl_keeps (·.clock) State.judge (fun s a => by simp) l s
@[simp] theorem State.judgeAll_resetHeld (s : State) (l : List StreamId) :
    (s.judgeAll l).resetHeld = s.resetHeld := by
  exact foldl_keeps (·.resetHeld) State.judge (fun s a => by simp) l s
@[simp] theorem State.judgeAll_resetCause (s : State) (l : List StreamId) :
    (s.judgeAll l).resetCause = s.resetCause := by
  exact foldl_keeps (·.resetCause) State.judge (fun s a => by simp) l s
@[simp] theorem State.judgeAll_straps (s : State) (l : List StreamId) :
    (s.judgeAll l).straps = s.straps := by
  exact foldl_keeps (·.straps) State.judge (fun s a => by simp) l s
@[simp] theorem State.judgeAll_strapReads (s : State) (l : List StreamId) :
    (s.judgeAll l).strapReads = s.strapReads := by
  exact foldl_keeps (·.strapReads) State.judge (fun s a => by simp) l s
@[simp] theorem State.judgeAll_config (s : State) (l : List StreamId) :
    (s.judgeAll l).config = s.config := by
  exact foldl_keeps (·.config) State.judge (fun s a => by simp) l s
@[simp] theorem State.judgeAll_manifest (s : State) (l : List StreamId) :
    (s.judgeAll l).manifest = s.manifest := by
  exact foldl_keeps (·.manifest) State.judge (fun s a => by simp) l s
@[simp] theorem State.judgeAll_pool (s : State) (l : List StreamId) :
    (s.judgeAll l).pool = s.pool := by
  exact foldl_keeps (·.pool) State.judge (fun s a => by simp) l s
@[simp] theorem State.judgeAll_departures (s : State) (l : List StreamId) :
    (s.judgeAll l).departures = s.departures := by
  exact foldl_keeps (·.departures) State.judge (fun s a => by simp) l s
@[simp] theorem State.judgeAll_resume (s : State) (l : List StreamId) :
    (s.judgeAll l).resume = s.resume := by
  exact foldl_keeps (·.resume) State.judge (fun s a => by simp) l s
@[simp] theorem State.judgeAll_uplink (s : State) (l : List StreamId) :
    (s.judgeAll l).uplink = s.uplink := by
  exact foldl_keeps (·.uplink) State.judge (fun s a => by simp) l s
@[simp] theorem State.judgeAll_mgmt (s : State) (l : List StreamId) :
    (s.judgeAll l).mgmt = s.mgmt := by
  exact foldl_keeps (·.mgmt) State.judge (fun s a => by simp) l s
@[simp] theorem State.judgeAll_bays (s : State) (l : List StreamId) :
    (s.judgeAll l).bays = s.bays := by
  exact foldl_keeps (·.bays) State.judge (fun s a => by simp) l s

@[simp] theorem State.leaveSlot_pending (s : State) (b : BayId) (sl : SlotId) :
    (s.leaveSlot b sl).pending = s.pending := by
  unfold State.leaveSlot
  split
  · rfl
  · dsimp only; split <;> simp
@[simp] theorem State.leaveSlot_clock (s : State) (b : BayId) (sl : SlotId) :
    (s.leaveSlot b sl).clock = s.clock := by
  unfold State.leaveSlot
  split
  · rfl
  · dsimp only; split <;> simp
@[simp] theorem State.leaveSlot_resetHeld (s : State) (b : BayId) (sl : SlotId) :
    (s.leaveSlot b sl).resetHeld = s.resetHeld := by
  unfold State.leaveSlot
  split
  · rfl
  · dsimp only; split <;> simp
@[simp] theorem State.leaveSlot_resetCause (s : State) (b : BayId) (sl : SlotId) :
    (s.leaveSlot b sl).resetCause = s.resetCause := by
  unfold State.leaveSlot
  split
  · rfl
  · dsimp only; split <;> simp
@[simp] theorem State.leaveSlot_straps (s : State) (b : BayId) (sl : SlotId) :
    (s.leaveSlot b sl).straps = s.straps := by
  unfold State.leaveSlot
  split
  · rfl
  · dsimp only; split <;> simp
@[simp] theorem State.leaveSlot_strapReads (s : State) (b : BayId) (sl : SlotId) :
    (s.leaveSlot b sl).strapReads = s.strapReads := by
  unfold State.leaveSlot
  split
  · rfl
  · dsimp only; split <;> simp
@[simp] theorem State.leaveSlot_config (s : State) (b : BayId) (sl : SlotId) :
    (s.leaveSlot b sl).config = s.config := by
  unfold State.leaveSlot
  split
  · rfl
  · dsimp only; split <;> simp
@[simp] theorem State.leaveSlot_manifest (s : State) (b : BayId) (sl : SlotId) :
    (s.leaveSlot b sl).manifest = s.manifest := by
  unfold State.leaveSlot
  split
  · rfl
  · dsimp only; split <;> simp
@[simp] theorem State.leaveSlot_departures (s : State) (b : BayId) (sl : SlotId) :
    (s.leaveSlot b sl).departures = s.departures := by
  unfold State.leaveSlot
  split
  · rfl
  · dsimp only; split <;> simp
@[simp] theorem State.leaveSlot_resume (s : State) (b : BayId) (sl : SlotId) :
    (s.leaveSlot b sl).resume = s.resume := by
  unfold State.leaveSlot
  split
  · rfl
  · dsimp only; split <;> simp
@[simp] theorem State.leaveSlot_uplink (s : State) (b : BayId) (sl : SlotId) :
    (s.leaveSlot b sl).uplink = s.uplink := by
  unfold State.leaveSlot
  split
  · rfl
  · dsimp only; split <;> simp
@[simp] theorem State.leaveSlot_mgmt (s : State) (b : BayId) (sl : SlotId) :
    (s.leaveSlot b sl).mgmt = s.mgmt := by
  unfold State.leaveSlot
  split
  · rfl
  · dsimp only; split <;> simp
@[simp] theorem State.leaveSlot_notices (s : State) (b : BayId) (sl : SlotId) :
    (s.leaveSlot b sl).notices = s.notices := by
  unfold State.leaveSlot
  split
  · rfl
  · dsimp only; split <;> simp
@[simp] theorem State.leaveSlot_counters (s : State) (b : BayId) (sl : SlotId) :
    (s.leaveSlot b sl).counters = s.counters := by
  unfold State.leaveSlot
  split
  · rfl
  · dsimp only; split <;> simp
@[simp] theorem State.leaveSlot_bays (s : State) (b : BayId) (sl : SlotId) :
    (s.leaveSlot b sl).bays = s.bays := by
  unfold State.leaveSlot
  split
  · rfl
  · dsimp only; split <;> simp

@[simp] theorem State.makeNeeded_pending (s : State) (b : BayId) (p : Place) (d : Nat) :
    (s.makeNeeded b p d).pending = s.pending := by
  unfold State.makeNeeded State.bumpIf
  split
  · rfl
  · split
    · rfl
    · dsimp only; split <;> simp
@[simp] theorem State.makeNeeded_clock (s : State) (b : BayId) (p : Place) (d : Nat) :
    (s.makeNeeded b p d).clock = s.clock := by
  unfold State.makeNeeded State.bumpIf
  split
  · rfl
  · split
    · rfl
    · dsimp only; split <;> simp
@[simp] theorem State.makeNeeded_resetHeld (s : State) (b : BayId) (p : Place) (d : Nat) :
    (s.makeNeeded b p d).resetHeld = s.resetHeld := by
  unfold State.makeNeeded State.bumpIf
  split
  · rfl
  · split
    · rfl
    · dsimp only; split <;> simp
@[simp] theorem State.makeNeeded_resetCause (s : State) (b : BayId) (p : Place) (d : Nat) :
    (s.makeNeeded b p d).resetCause = s.resetCause := by
  unfold State.makeNeeded State.bumpIf
  split
  · rfl
  · split
    · rfl
    · dsimp only; split <;> simp
@[simp] theorem State.makeNeeded_straps (s : State) (b : BayId) (p : Place) (d : Nat) :
    (s.makeNeeded b p d).straps = s.straps := by
  unfold State.makeNeeded State.bumpIf
  split
  · rfl
  · split
    · rfl
    · dsimp only; split <;> simp
@[simp] theorem State.makeNeeded_strapReads (s : State) (b : BayId) (p : Place) (d : Nat) :
    (s.makeNeeded b p d).strapReads = s.strapReads := by
  unfold State.makeNeeded State.bumpIf
  split
  · rfl
  · split
    · rfl
    · dsimp only; split <;> simp
@[simp] theorem State.makeNeeded_config (s : State) (b : BayId) (p : Place) (d : Nat) :
    (s.makeNeeded b p d).config = s.config := by
  unfold State.makeNeeded State.bumpIf
  split
  · rfl
  · split
    · rfl
    · dsimp only; split <;> simp
@[simp] theorem State.makeNeeded_manifest (s : State) (b : BayId) (p : Place) (d : Nat) :
    (s.makeNeeded b p d).manifest = s.manifest := by
  unfold State.makeNeeded State.bumpIf
  split
  · rfl
  · split
    · rfl
    · dsimp only; split <;> simp
@[simp] theorem State.makeNeeded_streams (s : State) (b : BayId) (p : Place) (d : Nat) :
    (s.makeNeeded b p d).streams = s.streams := by
  unfold State.makeNeeded State.bumpIf
  split
  · rfl
  · split
    · rfl
    · dsimp only; split <;> simp
@[simp] theorem State.makeNeeded_due (s : State) (b : BayId) (p : Place) (d : Nat) :
    (s.makeNeeded b p d).due = s.due := by
  unfold State.makeNeeded State.bumpIf
  split
  · rfl
  · split
    · rfl
    · dsimp only; split <;> simp
@[simp] theorem State.makeNeeded_pool (s : State) (b : BayId) (p : Place) (d : Nat) :
    (s.makeNeeded b p d).pool = s.pool := by
  unfold State.makeNeeded State.bumpIf
  split
  · rfl
  · split
    · rfl
    · dsimp only; split <;> simp
@[simp] theorem State.makeNeeded_departures (s : State) (b : BayId) (p : Place) (d : Nat) :
    (s.makeNeeded b p d).departures = s.departures := by
  unfold State.makeNeeded State.bumpIf
  split
  · rfl
  · split
    · rfl
    · dsimp only; split <;> simp
@[simp] theorem State.makeNeeded_resume (s : State) (b : BayId) (p : Place) (d : Nat) :
    (s.makeNeeded b p d).resume = s.resume := by
  unfold State.makeNeeded State.bumpIf
  split
  · rfl
  · split
    · rfl
    · dsimp only; split <;> simp
@[simp] theorem State.makeNeeded_uplink (s : State) (b : BayId) (p : Place) (d : Nat) :
    (s.makeNeeded b p d).uplink = s.uplink := by
  unfold State.makeNeeded State.bumpIf
  split
  · rfl
  · split
    · rfl
    · dsimp only; split <;> simp
@[simp] theorem State.makeNeeded_mgmt (s : State) (b : BayId) (p : Place) (d : Nat) :
    (s.makeNeeded b p d).mgmt = s.mgmt := by
  unfold State.makeNeeded State.bumpIf
  split
  · rfl
  · split
    · rfl
    · dsimp only; split <;> simp
@[simp] theorem State.makeNeeded_notices (s : State) (b : BayId) (p : Place) (d : Nat) :
    (s.makeNeeded b p d).notices = s.notices := by
  unfold State.makeNeeded State.bumpIf
  split
  · rfl
  · split
    · rfl
    · dsimp only; split <;> simp
@[simp] theorem State.makeNeeded_counters (s : State) (b : BayId) (p : Place) (d : Nat) :
    (s.makeNeeded b p d).counters = s.counters := by
  unfold State.makeNeeded State.bumpIf
  split
  · rfl
  · split
    · rfl
    · dsimp only; split <;> simp

@[simp] theorem State.unqueue_pending (s : State) (b : BayId) (e : TxEntry) :
    (s.unqueue b e).pending = s.pending := by
  simp [State.unqueue]
@[simp] theorem State.unqueue_clock (s : State) (b : BayId) (e : TxEntry) :
    (s.unqueue b e).clock = s.clock := by
  simp [State.unqueue]
@[simp] theorem State.unqueue_resetHeld (s : State) (b : BayId) (e : TxEntry) :
    (s.unqueue b e).resetHeld = s.resetHeld := by
  simp [State.unqueue]
@[simp] theorem State.unqueue_resetCause (s : State) (b : BayId) (e : TxEntry) :
    (s.unqueue b e).resetCause = s.resetCause := by
  simp [State.unqueue]
@[simp] theorem State.unqueue_straps (s : State) (b : BayId) (e : TxEntry) :
    (s.unqueue b e).straps = s.straps := by
  simp [State.unqueue]
@[simp] theorem State.unqueue_strapReads (s : State) (b : BayId) (e : TxEntry) :
    (s.unqueue b e).strapReads = s.strapReads := by
  simp [State.unqueue]
@[simp] theorem State.unqueue_config (s : State) (b : BayId) (e : TxEntry) :
    (s.unqueue b e).config = s.config := by
  simp [State.unqueue]
@[simp] theorem State.unqueue_manifest (s : State) (b : BayId) (e : TxEntry) :
    (s.unqueue b e).manifest = s.manifest := by
  simp [State.unqueue]
@[simp] theorem State.unqueue_streams (s : State) (b : BayId) (e : TxEntry) :
    (s.unqueue b e).streams = s.streams := by
  simp [State.unqueue]
@[simp] theorem State.unqueue_due (s : State) (b : BayId) (e : TxEntry) :
    (s.unqueue b e).due = s.due := by
  simp [State.unqueue]
@[simp] theorem State.unqueue_pool (s : State) (b : BayId) (e : TxEntry) :
    (s.unqueue b e).pool = s.pool := by
  simp [State.unqueue]
@[simp] theorem State.unqueue_departures (s : State) (b : BayId) (e : TxEntry) :
    (s.unqueue b e).departures = s.departures := by
  simp [State.unqueue]
@[simp] theorem State.unqueue_resume (s : State) (b : BayId) (e : TxEntry) :
    (s.unqueue b e).resume = s.resume := by
  simp [State.unqueue]
@[simp] theorem State.unqueue_uplink (s : State) (b : BayId) (e : TxEntry) :
    (s.unqueue b e).uplink = s.uplink := by
  simp [State.unqueue]
@[simp] theorem State.unqueue_mgmt (s : State) (b : BayId) (e : TxEntry) :
    (s.unqueue b e).mgmt = s.mgmt := by
  simp [State.unqueue]
@[simp] theorem State.unqueue_notices (s : State) (b : BayId) (e : TxEntry) :
    (s.unqueue b e).notices = s.notices := by
  simp [State.unqueue]
@[simp] theorem State.unqueue_counters (s : State) (b : BayId) (e : TxEntry) :
    (s.unqueue b e).counters = s.counters := by
  simp [State.unqueue]

@[simp] theorem State.dropEntry_pending (s : State) (b : BayId) (e : TxEntry) :
    (s.dropEntry b e).pending = s.pending := by
  simp [State.dropEntry]
@[simp] theorem State.dropEntry_clock (s : State) (b : BayId) (e : TxEntry) :
    (s.dropEntry b e).clock = s.clock := by
  simp [State.dropEntry]
@[simp] theorem State.dropEntry_resetHeld (s : State) (b : BayId) (e : TxEntry) :
    (s.dropEntry b e).resetHeld = s.resetHeld := by
  simp [State.dropEntry]
@[simp] theorem State.dropEntry_resetCause (s : State) (b : BayId) (e : TxEntry) :
    (s.dropEntry b e).resetCause = s.resetCause := by
  simp [State.dropEntry]
@[simp] theorem State.dropEntry_straps (s : State) (b : BayId) (e : TxEntry) :
    (s.dropEntry b e).straps = s.straps := by
  simp [State.dropEntry]
@[simp] theorem State.dropEntry_strapReads (s : State) (b : BayId) (e : TxEntry) :
    (s.dropEntry b e).strapReads = s.strapReads := by
  simp [State.dropEntry]
@[simp] theorem State.dropEntry_config (s : State) (b : BayId) (e : TxEntry) :
    (s.dropEntry b e).config = s.config := by
  simp [State.dropEntry]
@[simp] theorem State.dropEntry_manifest (s : State) (b : BayId) (e : TxEntry) :
    (s.dropEntry b e).manifest = s.manifest := by
  simp [State.dropEntry]
@[simp] theorem State.dropEntry_departures (s : State) (b : BayId) (e : TxEntry) :
    (s.dropEntry b e).departures = s.departures := by
  simp [State.dropEntry]
@[simp] theorem State.dropEntry_resume (s : State) (b : BayId) (e : TxEntry) :
    (s.dropEntry b e).resume = s.resume := by
  simp [State.dropEntry]
@[simp] theorem State.dropEntry_uplink (s : State) (b : BayId) (e : TxEntry) :
    (s.dropEntry b e).uplink = s.uplink := by
  simp [State.dropEntry]
@[simp] theorem State.dropEntry_mgmt (s : State) (b : BayId) (e : TxEntry) :
    (s.dropEntry b e).mgmt = s.mgmt := by
  simp [State.dropEntry]
@[simp] theorem State.dropEntry_notices (s : State) (b : BayId) (e : TxEntry) :
    (s.dropEntry b e).notices = s.notices := by
  simp [State.dropEntry]
@[simp] theorem State.dropEntry_counters (s : State) (b : BayId) (e : TxEntry) :
    (s.dropEntry b e).counters = s.counters := by
  simp [State.dropEntry]

@[simp] theorem State.dropEntries_pending (s : State) (b : BayId) (p : TxEntry → Bool) :
    (s.dropEntries b p).pending = s.pending := by
  exact foldl_keeps (·.pending) (fun t e => State.dropEntry t b e) (fun s a => by simp) _ s
@[simp] theorem State.dropEntries_clock (s : State) (b : BayId) (p : TxEntry → Bool) :
    (s.dropEntries b p).clock = s.clock := by
  exact foldl_keeps (·.clock) (fun t e => State.dropEntry t b e) (fun s a => by simp) _ s
@[simp] theorem State.dropEntries_resetHeld (s : State) (b : BayId) (p : TxEntry → Bool) :
    (s.dropEntries b p).resetHeld = s.resetHeld := by
  exact foldl_keeps (·.resetHeld) (fun t e => State.dropEntry t b e) (fun s a => by simp) _ s
@[simp] theorem State.dropEntries_resetCause (s : State) (b : BayId) (p : TxEntry → Bool) :
    (s.dropEntries b p).resetCause = s.resetCause := by
  exact foldl_keeps (·.resetCause) (fun t e => State.dropEntry t b e) (fun s a => by simp) _ s
@[simp] theorem State.dropEntries_straps (s : State) (b : BayId) (p : TxEntry → Bool) :
    (s.dropEntries b p).straps = s.straps := by
  exact foldl_keeps (·.straps) (fun t e => State.dropEntry t b e) (fun s a => by simp) _ s
@[simp] theorem State.dropEntries_strapReads (s : State) (b : BayId) (p : TxEntry → Bool) :
    (s.dropEntries b p).strapReads = s.strapReads := by
  exact foldl_keeps (·.strapReads) (fun t e => State.dropEntry t b e) (fun s a => by simp) _ s
@[simp] theorem State.dropEntries_config (s : State) (b : BayId) (p : TxEntry → Bool) :
    (s.dropEntries b p).config = s.config := by
  exact foldl_keeps (·.config) (fun t e => State.dropEntry t b e) (fun s a => by simp) _ s
@[simp] theorem State.dropEntries_manifest (s : State) (b : BayId) (p : TxEntry → Bool) :
    (s.dropEntries b p).manifest = s.manifest := by
  exact foldl_keeps (·.manifest) (fun t e => State.dropEntry t b e) (fun s a => by simp) _ s
@[simp] theorem State.dropEntries_departures (s : State) (b : BayId) (p : TxEntry → Bool) :
    (s.dropEntries b p).departures = s.departures := by
  exact foldl_keeps (·.departures) (fun t e => State.dropEntry t b e) (fun s a => by simp) _ s
@[simp] theorem State.dropEntries_resume (s : State) (b : BayId) (p : TxEntry → Bool) :
    (s.dropEntries b p).resume = s.resume := by
  exact foldl_keeps (·.resume) (fun t e => State.dropEntry t b e) (fun s a => by simp) _ s
@[simp] theorem State.dropEntries_uplink (s : State) (b : BayId) (p : TxEntry → Bool) :
    (s.dropEntries b p).uplink = s.uplink := by
  exact foldl_keeps (·.uplink) (fun t e => State.dropEntry t b e) (fun s a => by simp) _ s
@[simp] theorem State.dropEntries_mgmt (s : State) (b : BayId) (p : TxEntry → Bool) :
    (s.dropEntries b p).mgmt = s.mgmt := by
  exact foldl_keeps (·.mgmt) (fun t e => State.dropEntry t b e) (fun s a => by simp) _ s
@[simp] theorem State.dropEntries_notices (s : State) (b : BayId) (p : TxEntry → Bool) :
    (s.dropEntries b p).notices = s.notices := by
  exact foldl_keeps (·.notices) (fun t e => State.dropEntry t b e) (fun s a => by simp) _ s
@[simp] theorem State.dropEntries_counters (s : State) (b : BayId) (p : TxEntry → Bool) :
    (s.dropEntries b p).counters = s.counters := by
  exact foldl_keeps (·.counters) (fun t e => State.dropEntry t b e) (fun s a => by simp) _ s

@[simp] theorem State.detachBay_pending (s : State) (sl : SlotId) (b : BayId) :
    (s.detachBay sl b).pending = s.pending := by
  exact foldl_keeps (·.pending) (fun t e => State.unqueue t b e) (fun s a => by simp) _ s
@[simp] theorem State.detachBay_clock (s : State) (sl : SlotId) (b : BayId) :
    (s.detachBay sl b).clock = s.clock := by
  exact foldl_keeps (·.clock) (fun t e => State.unqueue t b e) (fun s a => by simp) _ s
@[simp] theorem State.detachBay_resetHeld (s : State) (sl : SlotId) (b : BayId) :
    (s.detachBay sl b).resetHeld = s.resetHeld := by
  exact foldl_keeps (·.resetHeld) (fun t e => State.unqueue t b e) (fun s a => by simp) _ s
@[simp] theorem State.detachBay_resetCause (s : State) (sl : SlotId) (b : BayId) :
    (s.detachBay sl b).resetCause = s.resetCause := by
  exact foldl_keeps (·.resetCause) (fun t e => State.unqueue t b e) (fun s a => by simp) _ s
@[simp] theorem State.detachBay_straps (s : State) (sl : SlotId) (b : BayId) :
    (s.detachBay sl b).straps = s.straps := by
  exact foldl_keeps (·.straps) (fun t e => State.unqueue t b e) (fun s a => by simp) _ s
@[simp] theorem State.detachBay_strapReads (s : State) (sl : SlotId) (b : BayId) :
    (s.detachBay sl b).strapReads = s.strapReads := by
  exact foldl_keeps (·.strapReads) (fun t e => State.unqueue t b e) (fun s a => by simp) _ s
@[simp] theorem State.detachBay_config (s : State) (sl : SlotId) (b : BayId) :
    (s.detachBay sl b).config = s.config := by
  exact foldl_keeps (·.config) (fun t e => State.unqueue t b e) (fun s a => by simp) _ s
@[simp] theorem State.detachBay_manifest (s : State) (sl : SlotId) (b : BayId) :
    (s.detachBay sl b).manifest = s.manifest := by
  exact foldl_keeps (·.manifest) (fun t e => State.unqueue t b e) (fun s a => by simp) _ s
@[simp] theorem State.detachBay_streams (s : State) (sl : SlotId) (b : BayId) :
    (s.detachBay sl b).streams = s.streams := by
  exact foldl_keeps (·.streams) (fun t e => State.unqueue t b e) (fun s a => by simp) _ s
@[simp] theorem State.detachBay_due (s : State) (sl : SlotId) (b : BayId) :
    (s.detachBay sl b).due = s.due := by
  exact foldl_keeps (·.due) (fun t e => State.unqueue t b e) (fun s a => by simp) _ s
@[simp] theorem State.detachBay_pool (s : State) (sl : SlotId) (b : BayId) :
    (s.detachBay sl b).pool = s.pool := by
  exact foldl_keeps (·.pool) (fun t e => State.unqueue t b e) (fun s a => by simp) _ s
@[simp] theorem State.detachBay_departures (s : State) (sl : SlotId) (b : BayId) :
    (s.detachBay sl b).departures = s.departures := by
  exact foldl_keeps (·.departures) (fun t e => State.unqueue t b e) (fun s a => by simp) _ s
@[simp] theorem State.detachBay_resume (s : State) (sl : SlotId) (b : BayId) :
    (s.detachBay sl b).resume = s.resume := by
  exact foldl_keeps (·.resume) (fun t e => State.unqueue t b e) (fun s a => by simp) _ s
@[simp] theorem State.detachBay_uplink (s : State) (sl : SlotId) (b : BayId) :
    (s.detachBay sl b).uplink = s.uplink := by
  exact foldl_keeps (·.uplink) (fun t e => State.unqueue t b e) (fun s a => by simp) _ s
@[simp] theorem State.detachBay_mgmt (s : State) (sl : SlotId) (b : BayId) :
    (s.detachBay sl b).mgmt = s.mgmt := by
  exact foldl_keeps (·.mgmt) (fun t e => State.unqueue t b e) (fun s a => by simp) _ s
@[simp] theorem State.detachBay_notices (s : State) (sl : SlotId) (b : BayId) :
    (s.detachBay sl b).notices = s.notices := by
  exact foldl_keeps (·.notices) (fun t e => State.unqueue t b e) (fun s a => by simp) _ s
@[simp] theorem State.detachBay_counters (s : State) (sl : SlotId) (b : BayId) :
    (s.detachBay sl b).counters = s.counters := by
  exact foldl_keeps (·.counters) (fun t e => State.unqueue t b e) (fun s a => by simp) _ s

@[simp] theorem State.grantTo_bay (s : State) (st : StreamId) (b : BayId) :
    (s.grantTo st).bay b = s.bay b := by
  simp [State.bay]

@[simp] theorem State.arbitrate_bay (s : State)  (b : BayId) :
    (s.arbitrate).bay b = s.bay b := by
  simp [State.bay]

@[simp] theorem State.recomputeResume_bay (s : State) (st : StreamId) (b : BayId) :
    (s.recomputeResume st).bay b = s.bay b := by
  simp [State.bay]

@[simp] theorem State.satisfy_bay (s : State) (st : StreamId) (b : BayId) :
    (s.satisfy st).bay b = s.bay b := by
  simp [State.bay]

@[simp] theorem State.unsatisfy_bay (s : State) (st : StreamId) (b : BayId) :
    (s.unsatisfy st).bay b = s.bay b := by
  simp [State.bay]

@[simp] theorem State.judge_bay (s : State) (st : StreamId) (b : BayId) :
    (s.judge st).bay b = s.bay b := by
  simp [State.bay]

@[simp] theorem State.judgeMoved_bay (s before : State) (l : List BayId) (st : StreamId)
    (b : BayId) : (s.judgeMoved before l st).bay b = s.bay b := by
  simp [State.bay]

@[simp] theorem State.judgeAll_bay (s : State) (l : List StreamId) (b : BayId) :
    (s.judgeAll l).bay b = s.bay b := by
  simp [State.bay]

@[simp] theorem State.leaveSlot_bay (s : State) (a : BayId) (sl : SlotId) (b : BayId) :
    (s.leaveSlot a sl).bay b = s.bay b := by
  simp [State.bay]

end Sys2Proof.Machine
end

