-- ==== Sys2Proof/Laws/Commands.lean ====
section
/-! SUPPORT. What the shared operations behind the commands do, said once each: the taking of a valid
frame, the answering of a request, a bay leaving a slot, the probe, and a look for activation. -/

namespace Sys2Proof.Machine

/-! ## A bay that has heard a valid frame -/

@[simp] theorem Bay.heard_ctl (x : Bay) (n : Nat) : (x.heard n).ctl = x.ctl := rfl
@[simp] theorem Bay.heard_deadline (x : Bay) (n : Nat) : (x.heard n).deadline = x.deadline := rfl
@[simp] theorem Bay.heard_activation (x : Bay) (n : Nat) :
    (x.heard n).activation = x.activation := rfl
@[simp] theorem Bay.heard_inventory (x : Bay) (n : Nat) : (x.heard n).inventory = x.inventory := rfl
@[simp] theorem Bay.heard_jobs (x : Bay) (n : Nat) : (x.heard n).jobs = x.jobs := rfl
@[simp] theorem Bay.heard_channels (x : Bay) (n : Nat) : (x.heard n).channels = x.channels := rfl
@[simp] theorem Bay.heard_txQueue (x : Bay) (n : Nat) : (x.heard n).txQueue = x.txQueue := rfl
@[simp] theorem Bay.heard_control (x : Bay) (n : Nat) :
    (x.heard n).port.control = x.port.control := rfl
@[simp] theorem Bay.heard_phase (x : Bay) (n : Nat) :
    (x.heard n).port.phase = x.port.phase := rfl
@[simp] theorem Bay.heard_trainedRate (x : Bay) (n : Nat) :
    (x.heard n).port.trainedRate = x.port.trainedRate := rfl

/-- A valid frame that gains no qualification is handed over by a port that has only heard it. -/
theorem State.receive_hears (s : State) (b : BayId) (take : State → State) (h : s.hears b) :
    s.receive b take = take (s.setBay b ((s.bay b).heard s.config.threshold)) := by
  obtain ⟨h1, h2⟩ := h
  unfold State.receive
  rw [h1]
  simp only []
  congr 1
  have h3 : ¬ (s.config.threshold ≤ countAfter s.config.threshold (s.bay b).port.qualCount ∧
      (s.bay b).port.qualified = false) := by
    rintro ⟨h4, h5⟩
    rcases h2 with h2 | h2
    · simp [h5] at h2
    · omega
  have h4 : countAfter s.config.threshold (s.bay b).port.qualCount =
      if (s.bay b).port.qualCount < s.config.threshold then (s.bay b).port.qualCount + 1
      else (s.bay b).port.qualCount := rfl
  rw [h4] at h3
  simp [State.judgeQualifier, h3, Bay.heard, countAfter]

/-- A clamp is the nearest value of a range that is not empty. -/
theorem clampTo_eq (lo hi v : Nat) (h : lo ≤ hi) : clampTo lo hi v = max lo (min hi v) := by
  unfold clampTo
  split <;> (try split) <;> omega

/-! ## Activation -/

/-- On a bay that is not SERVING no member is eligible, so a look changes nothing. -/
theorem State.look_away (s : State) (b : BayId) (h : (s.bay b).ctl.state ≠ .serving) :
    s.look b = s := by
  have e : ∀ j m, s.eligible b j m = false := by
    intro j m
    simp [State.eligible, h]
  have f : s.firstEligible b = none := by
    have g : ∀ l : List (Place × Job),
        (l.flatMap fun pj => (pj.2.members.filter (s.eligible b pj.2)).map fun m =>
          (pj.1, pj.2, m)) = [] := by
      intro l
      simp [e]
    unfold State.firstEligible
    rw [g]
    rfl
  unfold State.look
  rw [f]
  split <;> rfl

/-- Eligibility reads a bay's jobs, inventory and controller alone. -/
theorem State.targetEligible_setBay (s : State) (b : BayId) (t : ActTarget) (x : Bay)
    (h1 : x.jobs = (s.bay b).jobs) (h2 : x.inventory = (s.bay b).inventory)
    (h3 : x.ctl = (s.bay b).ctl) :
    (s.setBay b x).targetEligible b t = s.targetEligible b t := by
  simp only [State.targetEligible, State.job, State.eligible, Bay.unit?, State.setBay_bay, h1, h2,
    h3]
  rfl

/-! ## Blocks -/

/-- The bay's probe after a block is sent. -/
theorem State.startProbe_eq (s : State) (b : BayId) (c : ChannelId) (q : Nat) :
    s.startProbe b c q = s.setBay b { s.bay b with deadline := { (s.bay b).deadline with
      probe := match (s.bay b).deadline.probe with
        | some p => some p
        | none => some ⟨c, q, s.clock.usec,
            ((s.bay b).channels.map fun ch => ch.inFlight.length).sum⟩ } } := by
  unfold State.startProbe
  cases h : (s.bay b).deadline.probe with
  | none => rfl
  | some p =>
    dsimp only
    rw [← h]
    exact (State.setBay_self s b).symm

/-- A bay that leaves a slot is in its delivery set no more, and no other slot changes. -/
theorem State.leaveSlot_pool (s : State) (b : BayId) (sl : SlotId) :
    (∀ x, (s.leaveSlot b sl).pool.get sl = some x → b ∉ x.delivery) ∧
      ∀ k, k ≠ sl → (s.leaveSlot b sl).pool.get k = s.pool.get k := by
  unfold State.leaveSlot
  split
  · next h => simp [h]
  · next x h =>
    dsimp only
    split
    · exact ⟨by simp, fun k hk => by simp [Ne.symm hk]⟩
    · refine ⟨fun y hy => ?_, fun k hk => by simp [Ne.symm hk]⟩
      simp at hy
      subst hy
      simp

/-! ## Requests -/

/-- A response placed while the link is DOWN or the queue has room is the reply of the claims. -/
theorem State.respond_eq_replied (s : State) (q : QueuedRequest) (c : Code) (body : List Byte)
    (h : s.uplink.up = false ∨ s.uplink.responses.length < Config.responses) :
    s.respond q.src q.request.kind q.tag c body = s.replied q c body := by
  unfold State.respond State.replied State.discardResponse State.count
  rcases h with h | h
  · simp [h]
  · cases h2 : s.uplink.up <;> simp [h]

/-- A served request is executed whole: its handler on the state without it, then the reply. -/
theorem State.execute_serves (s : State) (q : QueuedRequest) (rest : List QueuedRequest)
    (handle : State → Request → Option Answer) (a : Answer) (h : s.serves q rest)
    (h1 : handle (s.taken rest) q.request = some a) (h2 : a.state.uplink = s.uplink) :
    s.execute handle =
      (if a.code = .malformed then a.state.count .answeredMalformed else a.state).replied q a.code
        a.body := by
  obtain ⟨g1, g2, g3, g4⟩ := h
  have m : s.mayExecute = true := by
    rcases g4 with g4 | g4 <;> simp [State.mayExecute, g1, g2, g4]
  have t : ({ s with mgmt := { s.mgmt with queue := rest } } : State) = s.taken rest := rfl
  unfold State.execute
  simp only [m, g3, t, h1, if_true]
  unfold State.answer
  apply State.respond_eq_replied
  split
  · simpa [State.count, h2] using g4
  · simpa [h2] using g4

end Sys2Proof.Machine
end

