-- ==== Sys2Proof/Laws/Lifecycle.lean ====
section
/-! SUPPORT. What the shared operations behind teardown, reset and activation do, said once each: an
offset made needed, a resume record written, a member that may be activated, a selection lost. -/

namespace Sys2Proof.Machine

/-! ## An offset made needed (03 R60, R62) -/

/-- A job whose offset has been made needed has the gap list of the claims, and nothing else of it
changes. -/
theorem State.makeNeeded_job (s : State) (b : BayId) (p : Place) (d : Nat) :
    (s.makeNeeded b p d).job b p =
      (s.job b p).map fun j => { j with gaps := gapsNeeding j.gaps d } := by
  unfold State.makeNeeded
  split
  · next h => simp [h]
  · next j h =>
    split
    · next g => simp [h, gapsNeeding, g]
    · next g =>
      have g' : inGaps j.gaps d = false := by simpa using g
      have h' : (s.bay b).jobs.get p = some j := h
      dsimp only [State.bumpIf]
      split <;> simp [State.job, h', gapsNeeding, g', State.modBay]

/-- No other job of the bay changes. -/
theorem State.makeNeeded_job_ne (s : State) (b : BayId) {p q : Place} (d : Nat) (h : p ≠ q) :
    (s.makeNeeded b p d).job b q = s.job b q := by
  unfold State.makeNeeded
  split
  · rfl
  · split
    · rfl
    · dsimp only [State.bumpIf]
      split <;> simp [State.job, State.modBay, h]

/-- A list of offsets made needed, one after another. -/
theorem State.makeNeeded_all (b : BayId) (p : Place) (l : List Nat) (s : State) :
    (l.foldl (fun t d => t.makeNeeded b p d) s).job b p =
      (s.job b p).map fun j => { j with gaps := l.foldl gapsNeeding j.gaps } := by
  induction l generalizing s with
  | nil => simp
  | cons d l ih => rw [List.foldl_cons, ih, State.makeNeeded_job, Option.map_map]; rfl

@[simp] theorem State.leaveSlot_job (s : State) (a b : BayId) (sl : SlotId) (p : Place) :
    (s.leaveSlot a sl).job b p = s.job b p := by
  simp [State.job]

/-- A queued entry removed unsent makes its offset needed in its own job. -/
theorem State.dropEntry_job (s : State) (b : BayId) (e : TxEntry) :
    (s.dropEntry b e).job b e.place =
      (s.job b e.place).map fun j => { j with gaps := gapsNeeding j.gaps e.offset } := by
  unfold State.dropEntry State.unqueue
  rw [State.leaveSlot_job, State.makeNeeded_job]
  simp [State.job]

/-- It changes no other job of the bay. -/
theorem State.dropEntry_job_ne (s : State) (b : BayId) (e : TxEntry) {q : Place}
    (h : e.place ≠ q) : (s.dropEntry b e).job b q = s.job b q := by
  unfold State.dropEntry State.unqueue
  rw [State.leaveSlot_job, State.makeNeeded_job_ne _ _ _ h]
  simp [State.job]

/-! ## Resume records written (07 R137, R140, R141) -/

/-- The record that a job leaves for a vehicle (07 R141). -/
theorem State.writeResume_resume (s : State) (v : Word) (j : Job) :
    (s.writeResume v j).resume = s.resume.written
      { vehicle := v, identity := j.identity, start := j.start, cursor := j.cursor, gaps := j.gaps,
        created := s.clock.seconds } := by
  unfold State.writeResume ResumeTable.written ResumeTable.placeFor ResumeTable.put
  split
  · next h => simp [h]
  · next h =>
    split
    · next g => simp [h, g]
    · next g =>
      split
      · next e => simp [h, g, e]
      · next e => simp [h, g, e]

@[simp] theorem State.writeResume_bays (s : State) (v : Word) (j : Job) :
    (s.writeResume v j).bays = s.bays := by
  unfold State.writeResume
  split <;> [rfl; split <;> [rfl; split <;> rfl]]

@[simp] theorem State.writeResume_clock (s : State) (v : Word) (j : Job) :
    (s.writeResume v j).clock = s.clock := by
  unfold State.writeResume
  split <;> [rfl; split <;> [rfl; split <;> rfl]]

@[simp] theorem State.bumpIf_resume (s : State) (c : Bool) (b : BayId) (k : BayCounter) :
    (s.bumpIf c b k).resume = s.resume := by
  unfold State.bumpIf
  split <;> simp

@[simp] theorem State.bumpIf_clock (s : State) (c : Bool) (b : BayId) (k : BayCounter) :
    (s.bumpIf c b k).clock = s.clock := by
  unfold State.bumpIf
  split <;> simp

/-- The records of a list of jobs written one after another. -/
theorem State.writeAll_resume (b : BayId) (v : Word) (counted : Bool) (l : List (Place × Job))
    (s : State) :
    (l.foldl (fun t pj => (t.writeResume v pj.2).bumpIf counted b .resumeRecordsWritten) s).resume =
      (l.map fun pj =>
        ({ vehicle := v, identity := pj.2.identity, start := pj.2.start, cursor := pj.2.cursor,
           gaps := pj.2.gaps, created := s.clock.seconds } : ResumeRecord)).foldl
        ResumeTable.written s.resume := by
  induction l generalizing s with
  | nil => rfl
  | cons a l ih => simp [ih, State.writeResume_resume]

/-- What writing a bay's records leaves in the resume table: those of its resumable jobs in ascending
record place, none where the bay holds no vehicle. -/
theorem State.writeResumes_resume (s : State) (b : BayId) (counted : Bool) :
    (s.writeResumes b counted).resume =
      match (s.bay b).ctl.vehicle with
      | none => s.resume
      | some v =>
        (((s.bay b).jobList.filter fun pj => pj.2.resumable).map fun pj =>
          ({ vehicle := v, identity := pj.2.identity, start := pj.2.start, cursor := pj.2.cursor,
             gaps := pj.2.gaps, created := s.clock.seconds } : ResumeRecord)).foldl
          ResumeTable.written s.resume := by
  unfold State.writeResumes
  cases (s.bay b).ctl.vehicle
  · rfl
  · exact State.writeAll_resume ..

/-! ## Activation (05 R90 to R93) -/

/-- The window test of the machine is that of the claims. -/
theorem State.windowOpen_iff (s : State) : s.windowOpen = true ↔ s.windowNow := by
  unfold State.windowOpen State.windowNow State.secondsOfDay
  dsimp only
  split
  · next h => simp [h]
  · next h =>
    cases hv : s.clock.valid
    · simp [h]
    · rcases Nat.lt_or_gt_of_ne h with g | g
      · simp [h, g, Nat.not_lt.mpr (Nat.le_of_lt g)]
      · simp [h, g, Nat.not_lt.mpr (Nat.le_of_lt g)]

/-- A member is eligible exactly when it may be activated and its bay is SERVING a PARKED vehicle. -/
theorem State.eligible_iff (s : State) (b : BayId) (j : Job) (m : Member) :
    s.eligible b j m = true ↔
      s.mayActivate b j m ∧ (s.bay b).ctl.state = .serving ∧
        (s.bay b).ctl.vehicleState = some .parked := by
  unfold State.eligible State.mayActivate State.linkAllows
  rw [← State.windowOpen_iff]
  cases hu : (s.bay b).unit? m.unit <;> cases hl : m.link <;>
    simp [hu, and_assoc, and_left_comm, and_comm]

@[simp] theorem Activation.lose_idle (p : Place) (u : UnitAddr) :
    Activation.idle.lose p u = .idle := rfl
@[simp] theorem Activation.lose_selected (t : ActTarget) (g : Bool) (p : Place) (u : UnitAddr) :
    (Activation.selected t g).lose p u =
      .selected t (g || (decide (t.unit = u) && decide (t.place = p))) := rfl
@[simp] theorem Activation.lose_activating (t : ActTarget) (v : Version) (i : Timer) (p : Place)
    (u : UnitAddr) : (Activation.activating t v i).lose p u = .activating t v i := rfl
@[simp] theorem Activation.lose_reverting (t : ActTarget) (v : Version) (i : Option Timer)
    (p : Place) (u : UnitAddr) : (Activation.reverting t v i).lose p u = .reverting t v i := rfl

/-- A selection whose member has become terminal is discarded at the line, whatever now stands at its
place (05 R93, R103, R104). -/
theorem State.sendActivate_gone (s : State) (b : BayId) (t : ActTarget) :
    s.sendActivate b t true =
      (((s.setActivation b .idle).bump b .activationsWithdrawn).look b, false) := by
  unfold State.sendActivate
  split
  · next h => simp at h
  · rfl

end Sys2Proof.Machine
end

