-- ==== Sys2Proof/Tests/Slice0.lean ====
section
/-! SUPPORT. Tests: ill-formed commands refused, values worked out in the spec, single steps on small
states, and for every obligation with hypotheses a state and operands that meet them. -/

set_option Elab.async false

namespace Sys2Proof.Tests
open Machine

/-! ## Small states -/

/-- Power-on with bay 0 as given. -/
def one (x : Bay) : State := State.reset.setBay 0 x

/-- Power-on with the uplink UP and a server known. -/
def online : State :=
  { State.reset with uplink := { State.reset.uplink with
      up := true, physical := true, beenUp := true, server := some 7 } }

/-- A bay whose port is in a phase. -/
def phased (p : LinkPhase) : Bay :=
  { Bay.initial with port := { Port.initial with phase := p, signal := true } }

/-- A bay trained at 25 Mb/s, qualified or one valid frame short of it. -/
def linked (q : Bool) (st : BayState) (v : Option Word) : Bay :=
  { Bay.initial with
    port := { Port.initial with phase := .trained, trainedRate := some 1, lineRate := 1,
                                qualified := q, qualCount := if q then 4 else 3, signal := true },
    ctl := { Controller.initial with state := st, vehicle := v } }

/-- A job of stream 2 for units 3 and 5, with L = 10 and cursor 4. -/
def job (st : JobState) : Job :=
  { stream := 2, identity := ⟨10, 0xAB, 9⟩,
    members := [⟨3, .pending, some 0⟩, ⟨5, .pending, some 0⟩], state := st, channel := some 0,
    tag := 6, start := 0, cursor := 4, gaps := [], attempts := 1, deferred := false,
    checkFailed := false, endTime := none }

/-- The channel of that job. -/
def chan : Channel :=
  { job := some 1, credit := 2, inFlight := [], tag := 6, openTimer := some ⟨0, 1000⟩,
    openExpired := false, closeTimer := some ⟨0, 1000⟩ }

/-- The record of unit 3. -/
def unit3 : UnitRecord :=
  { unit := 3, cls := 1, revision := 2, running := 8, standby := none, disposition := .needsImage,
    blocked := false, job := some 1 }

/-- A linked bay with that job in place 1 on a channel. -/
def working (st : BayState) (js : JobState) (ch : Channel) : Bay :=
  { linked true st (some 77) with
    jobs := (Table.fill 8 none).set 1 (some (job js)), channels := [ch], inventory := [unit3] }

/-- A request at the head of the queue of an online bridge. -/
def asked (r : Request) : State :=
  { online with mgmt := { queue := [⟨7, 1, r⟩], halted := false } }

/-- A HELLO of vehicle 77. -/
def hello (v : Byte) : HelloFrame := ⟨77, 1000, 2, 2, v⟩

/-- What a view of the next state shows, when there is one. -/
def after {α : Type} (r : Result) (view : State → α) : Option α :=
  match r with
  | .next t => some (view t)
  | .fault _ => none
  | .refused _ => none

/-- An OPEN stream 2 with L = 10 that holds a credit. -/
def streaming : State :=
  online.modStream 2 fun x =>
    { x with isOpen := true, length := 10, lastLength := 1, limit := 1, satisfied := false }

/-! ## Ill-formed commands are refused -/

theorem test_block_without_payload_ill_formed :
    (Instr.block ⟨0, 0, 0, []⟩).wellFormed = false := by decide
theorem test_block_too_long_ill_formed :
    (Instr.block ⟨0, 0, 0, List.replicate 1025 0⟩).wellFormed = false := by decide +kernel
theorem test_passDown_without_body_ill_formed :
    (Instr.passDown ⟨0, []⟩).wellFormed = false := by decide
theorem test_passUp_too_long_ill_formed :
    (Instr.passUp 0 (List.replicate 1025 0)).wellFormed = false := by decide +kernel
theorem test_receipt_without_sequence_ill_formed :
    (Instr.receipt 0 ⟨0, 0, []⟩).wellFormed = false := by decide
theorem test_receipt_of_nine_ill_formed :
    (Instr.receipt 0 ⟨0, 0, List.replicate 9 0⟩).wellFormed = false := by decide
theorem test_inventory_of_65_ill_formed :
    (Instr.inventory 0 (List.replicate 65 ⟨0, false, 0, 0, 0, 0⟩)).wellFormed = false := by
  decide +kernel
theorem test_closeResult_of_65_ill_formed :
    (Instr.closeResult 0 ⟨0, 0, 0, List.replicate 65 ⟨0, false⟩⟩).wellFormed = false := by
  decide +kernel
theorem test_bay_frame_of_1037_ill_formed :
    (Instr.bayFrameError 0 (List.replicate 1037 0)).wellFormed = false := by decide +kernel

/-! ## Values the spec works out -/

/-- The published check value of this CRC over "123456789" (00, Block CRC names the same one). -/
theorem test_crc_check_value :
    crc32 [0x31, 0x32, 0x33, 0x34, 0x35, 0x36, 0x37, 0x38, 0x39] = 0xCBF43926 := by decide +kernel

/-- 03, worked case: a full gap list, the timed-out offset 12. -/
theorem test_full_list_joins_below :
    addRange [⟨2, 2⟩, ⟨5, 6⟩, ⟨10, 10⟩, ⟨14, 15⟩, ⟨20, 20⟩, ⟨25, 27⟩, ⟨31, 31⟩, ⟨36, 37⟩] ⟨12, 12⟩ =
      ([⟨2, 2⟩, ⟨5, 6⟩, ⟨10, 12⟩, ⟨14, 15⟩, ⟨20, 20⟩, ⟨25, 27⟩, ⟨31, 31⟩, ⟨36, 37⟩], true) := by
  decide

/-- 03, worked case: a full gap list, the receipts for offsets 39 and 25. -/
theorem test_full_list_declines_a_split :
    let l : List Gap :=
      [⟨2, 2⟩, ⟨5, 6⟩, ⟨10, 12⟩, ⟨14, 15⟩, ⟨20, 20⟩, ⟨25, 27⟩, ⟨31, 31⟩, ⟨36, 44⟩]
    Machine.removeOffset l 39 = (l, true) ∧
      Machine.removeOffset l 25 = ([⟨2, 2⟩, ⟨5, 6⟩, ⟨10, 12⟩, ⟨14, 15⟩, ⟨20, 20⟩, ⟨26, 27⟩,
        ⟨31, 31⟩, ⟨36, 44⟩], false) := by decide

/-- 04, worked case: the service-time estimate. -/
theorem test_service_time :
    updatedServiceTime 6000 7610 = 6201 ∧ updatedServiceTime 6201 5000 = 6050 ∧
      updatedServiceTime 6050 65535 = 13485 ∧ updatedServiceTime 2 1 = 1 := by decide

/-- 04, worked case: slack and urgency. -/
theorem test_slack_and_urgency :
    serviceSeconds 57500 6200 = 357 ∧ slackOf 16500 15800 357 300 = 43 ∧
      (List.map (fun s => urgencyOf s 3600 900) [-12, 0, 1, 899, 900, 3599, 3600]) =
        [3, 3, 2, 2, 1, 1, 0] := by decide

/-- 03, worked case: the distances of the resume point. -/
theorem test_distances_ahead :
    let a : Job := { job .receiving with
      identity := ⟨1000, 0, 0⟩, start := 100, cursor := 950, gaps := [⟨200, 209⟩] }
    let b : Job := { a with start := 400, cursor := 30, gaps := [] }
    a.wantedOffsets.map (a.distanceAhead 420) = [630, 880] ∧
      b.wantedOffsets.map (b.distanceAhead 420) = [10] := by decide

/-- 02, worked case, event 1: credits held across the wrap of the limit. -/
theorem test_credits_wrap :
    Stream.held { Stream.closed with accepted := 65534, limit := 1 } = 3 := by decide

/-! ## Frames read from bytes written out from 10's layouts -/

/-- 10: a HEARTBEAT showing PARKED, with its frame check. -/
def heartbeatBytes : List Byte :=
  [0x11, 0, 0, 12, 1, 0, 0, 0] ++ u32 (crc32 [0x11, 0, 0, 12, 1, 0, 0, 0]).toNat

theorem test_heartbeat_read : readBayFrame 4 heartbeatBytes = .heartbeat 4 1 := by decide +kernel

theorem test_flipped_check_is_an_error :
    judgeBayFrame ([0x11, 0, 0, 12, 2, 0, 0, 0] ++ heartbeatBytes.drop 8) = .checkError := by
  decide +kernel

/-- 10: a request SET LEVEL of stream 2 to level 3 with tag 0x0105. -/
theorem test_request_read :
    readUplinkFrame 9 0xB7A2 ⟨true, 9, 5, 0xB7A2, [2, 0, 0, 6, 7, 0, 1, 5, 2, 3]⟩ =
      .requestArrival ⟨5, 6, [7, 0, 1, 5, 2, 3]⟩ := by decide

/-! ## Single steps -/

theorem test_power_on_posts_start :
    after (exec (.powerOnComplete 5) State.reset)
      (fun t => t.notices.queue.map (·.notice)) = some ([.bridgeStart .powerOn 5 false 0]) := by
  decide +kernel

theorem test_set_clock_clamps :
    after (exec .setClock (asked (.setClock 100 5000)))
      (fun t => (t.clock.seconds, t.clock.sub, t.clock.valid)) = some ((100, 999, true)) := by
  decide +kernel

theorem test_th1_lowers_th2 :
    after (exec .writeConfig (asked (.writeConfig 8 0 60)))
      (fun t => (t.config.th1, t.config.th2)) = some ((60, 60)) := by
  decide +kernel

theorem test_open_stream_length :
    after (exec .openStream (asked (.openStream 2 9 9 0)))
      (fun t => ((t.stream 2).length, (t.stream 2).lastLength, (t.stream 2).level)) = some ((10, 1, 7)) := by
  decide +kernel

theorem test_block_for_no_job_passes_unused :
    after (exec (.block ⟨2, 9, crc32 [7], [7]⟩) streaming)
      (fun t => (t.streamCounter 2 .passedUnused, (t.stream 2).position)) = some ((1, 0)) := by
  decide +kernel

theorem test_block_to_a_job :
    after (exec (.block ⟨2, 9, crc32 [7], [7]⟩)
        (streaming.setBay 0 (working .serving .receiving chan)))
      (fun t => ((t.bay 0).jobs.get 1).map (fun j => (j.cursor, j.gaps))) = some (some (10, [⟨4, 8⟩])) := by
  decide +kernel

theorem test_empty_queue_counts_a_microsecond :
    after (step State.reset)
      (fun t => (t.clock.usec, t.clock.phase)) = some ((1, 1)) := by
  decide +kernel

/-- 04 R76, 03 R65: a receipt timeout of 500 ms is taken at the 500th tick after the sending. -/
theorem test_receipt_timeout_at_its_tick :
    let s (n : Nat) : State :=
      { one (working .serving .receiving { chan with inFlight := [⟨3, 0, 7⟩] }) with
        clock := { State.reset.clock with ticks := n } }
    (s 506).flightDue 0 0 = false ∧ (s 507).flightDue 0 0 = true ∧
      (s 507).receiptTimeouts.bayCounter 0 .receiptTimeouts = 1 := by
  decide +kernel

theorem test_front_command_runs :
    after (step { State.reset with pending := [.signalDetect 3, .signalLost 3] })
      (fun t => ((t.bay 3).port.phase, t.pending)) = some ((.probing, [.signalLost 3])) := by
  decide +kernel

/-! ## Witnesses: states and operands that meet the hypotheses of the statements -/

theorem witness_IdleMicrosecond :
    (let s : State := { State.reset with clock := { State.reset.clock with phase := 998 } }
    s.pending = [] ∧ s.clock.phase + 1 < 1000) := by decide +kernel

/-- At the boundary: 128 credits held. -/
theorem witness_PoolPromiseKept :
    ∃ t, (streaming.modStream 2 fun x => { x with limit := 128 }).poolPromise ∧
      step (streaming.modStream 2 fun x => { x with limit := 128 }) = .next t := ⟨_, by unfold State.poolPromise; decide +kernel, rfl⟩

theorem witness_BoundsKept :
    ∃ t u, online.queuesBounded ∧ step online = .next t ∧
      online.configInRange ∧ step online = .next u := 
  ⟨_, _, by unfold State.queuesBounded; decide, rfl, by
    intro p; cases p <;> first | decide +kernel | (rename_i b; revert b; decide +kernel), rfl⟩

/-- Bay 0 holds vehicle 77 with a job to save. -/
theorem witness_ResetPin :
    (one (working .serving .receiving chan)).resetHeld = false ∧
      ((one (working .serving .receiving chan)).savedRecords 0).length = 1 ∧
      ({ online with resetHeld := true } : State).resetHeld = true := by decide +kernel

theorem witness_UplinkLink :
    State.reset.resetHeld = false ∧ State.reset.uplink.up = false ∧
      State.reset.uplink.beenUp = false ∧
      ({ State.reset with uplink := { State.reset.uplink with beenUp := true } } :
        State).uplink.beenUp = true ∧
      online.uplink.up = true ∧ online.mgmt.halted = false := by decide +kernel

theorem witness_UplinkRejectionsCounted :
    online.uplink.up = true ∧ online.resetHeld = false ∧
      (1 : Address) ≠ online.station ∧ (1 : Address) ≠ BitVec.allOnes 48 ∧
      (0 : Half) ≠ online.config.protocolType ∧
      byteAt [4] 0 ≠ 1 ∧ byteAt [4] 0 ≠ 2 ∧ byteAt [4] 0 ≠ 3 ∧
      byteAt [1, 0, 0, 12] 0 = 1 ∧ blockFits [1, 0, 0, 12] = false ∧
      byteAt [3, 0, 0, 2] 0 = 3 ∧ passDownFits [3, 0, 0, 2] = false := by decide +kernel

theorem witness_BlocksDropped :
    streaming.uplink.up = true ∧ streaming.resetHeld = false ∧
      (BlockFrame.fits ⟨16, 9, crc32 [7], [7]⟩) = true ∧ 16 ≤ (16 : Byte).toNat ∧
      (2 : Byte).toNat = (2 : StreamId).val ∧ (online.stream 2).isOpen = false ∧
      (streaming.stream 2).isOpen = true ∧ crc32 [7] ≠ 0 ∧
      (streaming.stream 2).length ≤ (10 : Half).toNat ∧
      [7].length = (if (9 : Half).toNat + 1 = (streaming.stream 2).length
        then (streaming.stream 2).lastLength else 1024) ∧
      ((streaming.modStream 2 fun x => { x with limit := 0 }).stream 2).held = 0 := by decide +kernel

/-- Stream 2 is OPEN and unsatisfied, and bay 0 alone has a job that wants it. -/
def wanted (st : BayState) : State := streaming.setBay 0 (working st .receiving chan)

/-- The jobs of `wanted`. -/
theorem wanted_jobs (st : BayState) (a : BayId) (q : Place) (k : Job)
    (h : (wanted st).job a q = some k) : a = 0 := by
  by_contra e
  have g : (wanted st).bay a = Bay.initial := by
    have : (wanted st).bay a = streaming.bay a := by
      simp only [wanted, State.bay, State.setBay]
      exact Table.get_set_ne _ _ (Ne.symm e)
    have g0 : ∀ b, streaming.bay b = Bay.initial := by decide +kernel
    rw [this]
    exact g0 a
  have : (wanted st).job a q = none := by
    simp only [State.job, g, Bay.initial]
    exact Table.get_fill _ _
  rw [this] at h
  cases h

/-- As `wanted`, with offset 3 needed again. -/
def gapped : State := streaming.setBay 0 { working .serving .receiving chan with
  jobs := (Table.fill 8 none).set 1 (some { job .receiving with gaps := [⟨3, 3⟩] }) }

theorem witness_BlockAccepted :
    (streaming.uplink.up = true ∧ streaming.resetHeld = false ∧
      (BlockFrame.fits ⟨2, 9, crc32 [7], [7]⟩) = true ∧ (2 : Byte).toNat = (2 : StreamId).val ∧
      (streaming.stream 2).isOpen = true ∧ (9 : Half).toNat < (streaming.stream 2).length ∧
      [7].length = (if (9 : Half).toNat + 1 = (streaming.stream 2).length
        then (streaming.stream 2).lastLength else 1024) ∧ (streaming.stream 2).held ≠ 0 ∧
      (wanted .serving).freeSlot = some 0 ∧ gapped.freeSlot = some 0) ∧
    (∀ b p c d, ¬ streaming.takesBlock b 2 (9 : Half).toNat p c d) ∧
    (wanted .serving).takesBlock 0 2 (9 : Half).toNat 1 0 9 ∧
    gapped.takesBlock 0 2 (3 : Half).toNat 1 0 3 :=
  ⟨by decide +kernel,
    fun b _ _ _ h => (by decide +kernel : ∀ b, (streaming.bay b).ctl.state ≠ .serving) b h.1,
    ⟨by decide +kernel, by decide +kernel, job .receiving, by decide +kernel, rfl, rfl, rfl,
      fun q k hq h => absurd (h.symm.trans
        ((by decide +kernel : ∀ q, q < 1 → (wanted .serving).job 0 q = none) q hq)) (by simp),
      by decide +kernel, .inl (by decide +kernel)⟩,
    ⟨by decide +kernel, by decide +kernel, { job .receiving with gaps := [⟨3, 3⟩] },
      by decide +kernel, rfl, rfl, rfl,
      fun q k hq h => absurd (h.symm.trans
        ((by decide +kernel : ∀ q, q < 1 → gapped.job 0 q = none) q hq)) (by simp),
      by decide +kernel, .inr ⟨⟨⟨3, 3⟩, by decide +kernel⟩, by decide +kernel, fun ch h => by
        have h' : some chan = some ch := h
        cases h'; decide⟩⟩⟩

/-- 02 R31, R41, R45: a BLOCK whose CRC is wrong moves the carousel and no resume point, and a RECEIPT
of a sequence that is in no range leaves the resume point where it was. -/
theorem test_resume_point_waits_for_a_named_event :
    let drop := exec (.block ⟨2, 8, 0, [7]⟩) ((wanted .serving).modStream 2 fun x =>
      { x with position := 3, resume := 4, limit := 0 })
    let view (t : State) := ((t.stream 2).position, (t.stream 2).resume, t.due)
    after drop view = some (9, 4, []) ∧
      after drop (fun t => after (exec (.receipt 0 ⟨0, 6, [1]⟩) t) view) = some (some (9, 4, [])) := by
  decide +kernel

theorem witness_RequestJudged :
    online.uplink.up = true ∧ online.resetHeld = false ∧
      4 ≤ (6 : Half).toNat ∧ (6 : Half).toNat ≤ [(7 : Byte), 0, 1, 5, 2, 3].length ∧
      argumentBytes (byteAt [7, 0, 1, 5, 2, 3] 0) = some ((6 : Half).toNat - 4) ∧
      online.mgmt.queue.length < 4 ∧
      4 ≤ (List.replicate 4 (⟨7, 1, .readStatus⟩ : QueuedRequest)).length ∧
      online.uplink.responses.length < 8 ∧
      argumentBytes (byteAt [0x16, 0, 1, 5] 0) ≠ some ((4 : Half).toNat - 4) ∧
      ((3 : Half).toNat < 4 ∨ [(7 : Byte)].length < (3 : Half).toNat) := by decide +kernel

theorem witness_PassThroughQueued :
    online.uplink.up = true ∧ online.resetHeld = false ∧
      1 ≤ [(9 : Byte)].length ∧ [(9 : Byte)].length ≤ 1024 ∧ 16 ≤ (16 : Byte).toNat ∧
      (15 : Byte).toNat = (15 : BayId).val ∧ (linked true .intake none).ctl.state = .intake ∧
      (linked true .intake none).port.passDown.length < 8 ∧
      (online.bay 15).ctl.state = .vacant ∧ (one (linked true .serving (some 77))).hears 0 ∧
      (one (linked true .serving (some 77))).uplink.passUps.length < 16 ∧
      16 ≤ (List.replicate 16 (⟨0, none, [9]⟩ : PassUp)).length := 
  ⟨by decide +kernel, by decide +kernel, by decide +kernel, by decide +kernel, by decide +kernel, by decide +kernel, by decide +kernel, by decide +kernel, by decide +kernel,
    ⟨by decide +kernel, .inl (by decide +kernel)⟩, by decide +kernel, by decide +kernel⟩

theorem witness_UplinkFramesSent :
    online.uplink.up = true ∧ online.resetHeld = false ∧ online.mgmt.halted = false ∧
      online.uplink.responses = [] ∧ online.uplink.server = some 7 ∧ online.notices.queue = [] ∧
      online.due = [] ∧
      ({ online with due := [3] } : State).due = 3 :: [] ∧
      ({ online with notices := { online.notices with
        queue := [⟨0, false, .streamSatisfied 0 0 0⟩] } } : State).notices.queue =
          ⟨0, false, .streamSatisfied 0 0 0⟩ :: [] ∧
      ({ online with uplink := { online.uplink with
        responses := [⟨7, 0xB7A2, 2, 1, .done, []⟩] } } : State).uplink.responses =
          ⟨7, 0xB7A2, 2, 1, .done, []⟩ :: [] ∧
      ({ online with uplink := { online.uplink with passUps := [⟨15, none, [9]⟩] } } :
        State).uplink.passUps = ⟨15, none, [9]⟩ :: [] := by decide +kernel

/-- A request at the head of the queue is served when the link is UP. -/
theorem serves_asked (r : Request) : (asked r).serves ⟨7, 1, r⟩ [] :=
  ⟨rfl, rfl, rfl, .inr (by show 0 < 8; decide)⟩

/-- A request at the head of the queue is served when the link is DOWN. -/
def askedOffline (r : Request) : State :=
  { State.reset with mgmt := { queue := [⟨7, 1, r⟩], halted := false } }

theorem serves_askedOffline (r : Request) : (askedOffline r).serves ⟨7, 1, r⟩ [] :=
  ⟨rfl, rfl, rfl, .inl rfl⟩

theorem witness_ReadsOnlyAnswer :
    (asked (.readStatus)).serves ⟨7, 1, .readStatus⟩ [] ∧
      (asked (.readConfig 14 15)).serves ⟨7, 1, .readConfig 14 15⟩ [] ∧
      (asked (.readEntry 63)).serves ⟨7, 1, .readEntry 63⟩ [] ∧
      (asked (.readEntry 64)).serves ⟨7, 1, .readEntry 64⟩ [] ∧
      (asked (.readBay 15)).serves ⟨7, 1, .readBay 15⟩ [] ∧
      (asked (.readBay 16)).serves ⟨7, 1, .readBay 16⟩ [] ∧
      (asked (.readJob 15 7)).serves ⟨7, 1, .readJob 15 7⟩ [] ∧
      (asked (.readJob 0 8)).serves ⟨7, 1, .readJob 0 8⟩ [] ∧
      (asked (.readInventory 15)).serves ⟨7, 1, .readInventory 15⟩ [] ∧
      (asked (.readInventory 16)).serves ⟨7, 1, .readInventory 16⟩ [] ∧
      (asked (.readResume 31)).serves ⟨7, 1, .readResume 31⟩ [] ∧
      (asked (.readResume 32)).serves ⟨7, 1, .readResume 32⟩ [] ∧
      (asked (.readConfig 19 0)).serves ⟨7, 1, .readConfig 19 0⟩ [] ∧
      (asked (.readConfig 14 16)).serves ⟨7, 1, .readConfig 14 16⟩ [] ∧
      namedParameter 14 15 = .parameter (.maxRate 15) ∧ namedParameter 19 0 = .unknown ∧
      namedParameter 14 16 = .noBay ∧
      (63 : Byte).toNat = (63 : EntryId).val ∧ 64 ≤ (64 : Byte).toNat ∧
      (15 : Byte).toNat = (15 : BayId).val ∧ 16 ≤ (16 : Byte).toNat ∧
      (7 : Byte).toNat = (7 : Place).val ∧ 8 ≤ (8 : Byte).toNat ∧
      (31 : Byte).toNat = (31 : ResumeId).val ∧ 32 ≤ (32 : Byte).toNat := 
  ⟨serves_asked _, serves_asked _, serves_asked _, serves_asked _, serves_asked _, serves_asked _,
    serves_asked _, serves_asked _, serves_asked _, serves_asked _, serves_asked _, serves_asked _,
    serves_asked _, serves_asked _, by decide +kernel⟩

/-- Streams 2 and 3 are wanting at a window raised from 1 to 2, and stream 4 is not. -/
def windowed : State :=
  let s : State := { asked (.writeConfig 3 0 2) with
    config := { Config.settings with streamWindow := 1 } }
  let want (x : Stream) : Stream := { x with isOpen := true, length := 10, limit := 1 }
  (((s.modStream 2 want).modStream 3 want).modStream 4 fun x => { x with isOpen := true,
                                                                           satisfied := true })

theorem witness_ConfigWritten :
    (asked (.writeConfig 8 0 60)).serves ⟨7, 1, .writeConfig 8 0 60⟩ [] ∧
      (asked (.writeConfig 19 0 0)).serves ⟨7, 1, .writeConfig 19 0 0⟩ [] ∧
      (asked (.writeConfig 14 16 0)).serves ⟨7, 1, .writeConfig 14 16 0⟩ [] ∧
      windowed.serves ⟨7, 1, .writeConfig 3 0 2⟩ [] ∧
      namedParameter 8 0 = .parameter .th1 ∧ namedParameter 19 0 = .unknown ∧
      namedParameter 14 16 = .noBay ∧ namedParameter 3 0 = .parameter .streamWindow ∧
      windowed.setting .streamWindow < 2 ∧ (windowed.stream 2).wanting 2 = true ∧
      (windowed.stream 3).wanting 2 = true ∧ (windowed.stream 4).wanting 2 = false ∧
      windowed.priority 2 = windowed.priority 3 :=
  ⟨serves_asked _, serves_asked _, serves_asked _, ⟨rfl, rfl, rfl, .inr (by decide +kernel)⟩,
    by decide +kernel⟩

/-- 02 R40: each wanting stream gets its share up to the window. -/
theorem test_window_rise_grants :
    after (exec .writeConfig windowed) (fun t =>
      ((t.stream 2).held, (t.stream 3).held, (t.stream 4).held, t.due)) =
        some (2, 2, 0, [2, 3]) := by decide +kernel

/-- Stream 2 is to be closed while a block of it waits for bay 0's job. -/
def closing : State :=
  let s := (asked (.closeStream 2)).setBay 0 { working .serving .receiving chan with
    txQueue := [⟨127, 1, 0, 3⟩] }
  { s.modStream 2 fun x => { x with isOpen := true, length := 10 } with
    pool := (Table.fill 128 none).set 127 (some ⟨2, 3, [7], [0], 0⟩) }

theorem witness_StreamRequests :
    (asked (.openStream 15 9 9 0)).serves ⟨7, 1, .openStream 15 9 9 0⟩ [] ∧
      (asked (.setLevel 15 8)).serves ⟨7, 1, .setLevel 15 8⟩ [] ∧
      (asked (.closeStream 15)).serves ⟨7, 1, .closeStream 15⟩ [] ∧
      (asked (.openStream 16 0 0 0)).serves ⟨7, 1, .openStream 16 0 0 0⟩ [] ∧
      16 ≤ (16 : Byte).toNat ∧
      (15 : Byte).toNat = (15 : StreamId).val ∧
      ((asked (.openStream 15 9 9 0)).stream 15).isOpen = false ∧
      (((asked (.closeStream 15)).modStream 15 fun x => { x with isOpen := true }).stream 15).isOpen
        = true ∧
      ((asked (.closeStream 15)).modStream 15 fun x => { x with isOpen := true }).streamNamed 15 =
        false ∧
      closing.serves ⟨7, 1, .closeStream 2⟩ [] ∧ (2 : Byte).toNat = (2 : StreamId).val ∧
      (closing.stream 2).isOpen = true ∧ closing.streamNamed 2 = false ∧
      (⟨127, 1, 0, 3⟩ : TxEntry) ∈ (closing.bay 0).txQueue ∧
      closing.pool.get 127 = some ⟨2, 3, [7], [0], 0⟩ ∧
      closing.job 0 1 = some (job .receiving) :=
  ⟨serves_asked _, serves_asked _, serves_asked _, serves_asked _, by decide +kernel,
    by decide +kernel, by decide +kernel, by decide +kernel, by decide +kernel,
    ⟨rfl, rfl, rfl, .inr (by decide +kernel)⟩, by decide +kernel⟩

/-- 02 R28, 03 R62: the queued block of the closed stream is needed again, its slot free. -/
theorem test_close_stream_detaches :
    after (exec .closeStream closing) (fun t =>
      ((t.bay 0).txQueue, (t.job 0 1).map (·.gaps), (t.pool.get 127).isSome,
        t.bayCounter 0 .blocksDetached)) = some ([], some [⟨3, 3⟩], false, 0) := by decide +kernel

theorem witness_EntriesWrittenAndReleased :
    (asked (.writeEntry 63 2 3 0 0 9 0xAB)).serves
        ⟨7, 1, .writeEntry 63 2 3 0 0 9 0xAB⟩ [] ∧
      (asked (.releaseEntry 63)).serves ⟨7, 1, .releaseEntry 63⟩ [] ∧
      (asked (.releaseEntry 64)).serves ⟨7, 1, .releaseEntry 64⟩ [] ∧
      64 ≤ (64 : Byte).toNat ∧ 16 ≤ (16 : Byte).toNat ∧
      (63 : Byte).toNat = (63 : EntryId).val ∧ (2 : Byte).toNat = (2 : StreamId).val ∧
      ((asked .readStatus).stream 2).isOpen = false ∧ (streaming.stream 2).isOpen = true ∧
      (∃ f : EntryFields, f = writtenFields 2 3 0 0 9 0xAB ∧
        streaming.writeConflicts 63 f = false ∧
        (streaming.modEntry 0 fun _ => Entry.written { f with check := 0 }).writeConflicts 63 f =
          true) ∧
      (streaming.entry 63).active = false ∧
      (((streaming.setBay 0 (working .holding .receiving chan)).modEntry 0 fun _ =>
        Entry.written (writtenFields 2 3 0 0 9 0xAB)).entry 0).active = true ∧
      ((streaming.setBay 0 (working .holding .receiving chan)).modEntry 0 fun _ =>
        Entry.written (writtenFields 2 3 0 0 9 0xAB)).liveCount 0 ≠ 0 := 
  ⟨serves_asked _, serves_asked _, serves_asked _, by decide +kernel, by decide +kernel,
    by decide +kernel, by decide +kernel, by decide +kernel, by decide +kernel,
    ⟨_, rfl, by decide +kernel, by decide +kernel⟩, by decide +kernel, by decide +kernel, by decide +kernel⟩

/-- Job 1 receives for entry 0 on the one channel, job 2 waits for entry 5, and unit 6, now under
entry 0, falls to entry 1 when entry 0 is withdrawn. -/
def contested : State :=
  let e (st : StreamId) (mask : Word) : EntryFields := writtenFields st 0 0x102 mask 9 0xAB
  let s := (asked (.withdrawEntry 0)).setBay 0 { working .serving .receiving chan with
    jobs := ((Table.fill 8 none).set 1 (some (job .receiving))).set 2 (some { job .queued with
      stream := 3, members := [⟨7, .pending, some 5⟩], channel := none }),
    inventory := [unit3, { unit3 with unit := 6, job := none }] }
  ((s.modEntry 0 fun _ => Entry.written (e 2 0xFFFFFF)).modEntry 1 fun _ =>
    Entry.written (e 4 0xFFFFFF)).modEntry 5 fun _ => Entry.written (e 3 0)

theorem witness_EntryWithdrawn :
    (asked (.withdrawEntry 63)).serves ⟨7, 1, .withdrawEntry 63⟩ [] ∧
      (asked (.withdrawEntry 64)).serves ⟨7, 1, .withdrawEntry 64⟩ [] ∧
      contested.serves ⟨7, 1, .withdrawEntry 0⟩ [] ∧
      (63 : Byte).toNat = (63 : EntryId).val ∧ 64 ≤ (64 : Byte).toNat ∧
      (((asked (.withdrawEntry 63)).modEntry 63 fun _ => Entry.written
        (writtenFields 2 3 0 0 9 0xAB)).entry 63).active = true ∧
      ((asked (.withdrawEntry 63)).entry 63).active = false ∧
      (contested.entry 0).active = true ∧ contested.job 0 1 = some (job .receiving) ∧
      (job .receiving).live = true ∧ (contested.bay 0).ctl.state = .serving ∧
      (contested.bay 0).inventory.length + (contested.bay 0).jobList.length ≤ 8 ∧
      (working .holding .receiving chan).ctl.state ≠ .serving ∧
      (⟨3, .pending, some 0⟩ : Member) ∈ (job .receiving).members :=
  ⟨serves_asked _, serves_asked _, ⟨rfl, rfl, rfl, .inr (by decide +kernel)⟩, by decide +kernel⟩

/-- 01 R8, step 2: the units in PENDING that links of the entry name are cancelled, and counted. -/
theorem test_withdrawal_cancels_the_waiting_units :
    after (exec .withdrawEntry contested) (fun t =>
      ((t.job 0 1).map fun j => (j.state, j.members.map (·.state)), t.uplink.responses.map (·.body))) =
        some (some (.cancelled, [.cancelled, .cancelled]), [[0, 0, 0, 2]]) := by decide +kernel

/-- 03 R54, log 8: the freed channel goes to the job that waits, not to the one that the builder then
creates for a lower entry. -/
theorem test_withdrawal_frees_a_channel_for_the_waiting_job :
    after (exec .withdrawEntry contested) (fun t =>
      ((t.channel 0 0).map (·.job), (t.job 0 2).map (·.state), (t.job 0 0).map (·.stream))) =
        some (some (some 2), some .opening, some 4) := by decide +kernel

/-- A bridge whose departure slot 0 holds vehicle 77. -/
def departing : State :=
  { asked (.loadDeparture 63 77 0) with
    departures := (Table.fill 64 none).set 0 (some ⟨77, 500⟩) }

theorem witness_DepartureLoaded :
    (asked (.loadDeparture 63 77 0)).serves ⟨7, 1, .loadDeparture 63 77 0⟩ [] ∧
      (asked (.loadDeparture 64 77 5)).serves ⟨7, 1, .loadDeparture 64 77 5⟩ [] ∧
      (63 : Byte).toNat = (63 : DepartureId).val ∧ 64 ≤ (64 : Byte).toNat ∧
      (77 : Word) ≠ 0 ∧ (500 : Word) ≠ 0 ∧
      departing.departureOf 77 = some 0 ∧ departing.departureOf 78 = none ∧
      departing.departures.find Option.isNone = some 1 ∧
      (Table.fill 64 (some (⟨77, 500⟩ : Departure))).find Option.isNone = none ∧
      (∀ r e, departing.departures.get r = some e → e.vehicle = 77 → r = 0) := 
  ⟨serves_asked _, serves_asked _, by decide +kernel, by decide +kernel, by decide +kernel, by decide +kernel,
    by decide +kernel, by decide +kernel, by decide +kernel, by decide +kernel, fun r e h hv =>
      (by decide +kernel : ∀ r, (departing.departures.get r).map (·.vehicle) = some 77 → r = 0) r
        (by rw [h]; simp [hv])⟩

theorem witness_BlockCountersAndMask :
    (asked (.clearBlock 15 63)).serves ⟨7, 1, .clearBlock 15 63⟩ [] ∧
      (asked (.readCounters 0 15 1)).serves ⟨7, 1, .readCounters 0 15 1⟩ [] ∧
      (asked (.readCounters 1 15 0)).serves ⟨7, 1, .readCounters 1 15 0⟩ [] ∧
      (asked (.readCounters 2 0 1)).serves ⟨7, 1, .readCounters 2 0 1⟩ [] ∧
      (asked (.readCounters 3 0 0)).serves ⟨7, 1, .readCounters 3 0 0⟩ [] ∧
      (asked (.setNoticeMask 0xFF)).serves ⟨7, 1, .setNoticeMask 0xFF⟩ [] ∧
      (15 : Byte).toNat = (15 : BayId).val ∧ (3 : Byte).toNat = (3 : UnitAddr).val ∧
      ((one (working .serving .receiving chan)).bay 0).unit? 3 = some unit3 ∧
      (15 : Byte).toNat = (15 : StreamId).val ∧ 3 ≤ (3 : Byte).toNat ∧ 16 ≤ (16 : Byte).toNat := 
  ⟨serves_asked _, serves_asked _, serves_asked _, serves_asked _, serves_asked _, serves_asked _, by decide +kernel⟩

theorem witness_BayReset :
    (asked (.resetBay 0)).serves ⟨7, 1, .resetBay 0⟩ [] ∧
      (asked (.resetBay 16)).serves ⟨7, 1, .resetBay 16⟩ [] ∧
      (let s := (asked (.resetBay 0)).setBay 0 (working .serving .receiving chan)
      s.mgmt.queue = [⟨7, 1, .resetBay 0⟩] ∧ (s.bay 0).port.phase = .trained ∧
        (s.bay 0).ctl.state ≠ .vacant ∧ (∀ i, (s.entry i).replacement = none) ∧
        (s.savedRecords 0).length = 1) ∧
      (0 : Byte).toNat = (0 : BayId).val ∧ 16 ≤ (16 : Byte).toNat ∧
      ((asked (.resetBay 0)).bay 0).port.phase = .down ∧ (phased .forced).port.phase = .forced :=
  ⟨serves_asked _, serves_asked _, by decide +kernel⟩

theorem witness_BridgeResetByRequest :
    (asked .resetBridge).serves ⟨7, 1, .resetBridge⟩ [] ∧
      (asked .resetBridge).uplink.up = true ∧
      (askedOffline .resetBridge).serves ⟨7, 1, .resetBridge⟩ [] ∧
      (askedOffline .resetBridge).uplink.up = false ∧
      (askedOffline .resetBridge).uplink.physical = false ∧
      (let s : State := { online with
        mgmt := { queue := [], halted := true },
        uplink := { online.uplink with responses := [⟨7, 0xB7A2, 0x15, 1, .done, []⟩] } }
      s.uplink.up = true ∧ s.uplink.physical = true ∧ s.resetHeld = false ∧
        s.mgmt.halted = true ∧ s.uplink.responses = ⟨7, 0xB7A2, 0x15, 1, .done, []⟩ :: []) :=
  ⟨serves_asked _, by decide +kernel, serves_askedOffline _, by decide +kernel⟩

/-- Bay 0 has work for vehicle 77, whose pull-out is at second 5. -/
def pressed : State :=
  { one (working .serving .receiving chan) with
    clock := { State.reset.clock with seconds := 10, valid := true },
    departures := (Table.fill 64 none).set 0 (some ⟨77, 5⟩) }

theorem witness_SecondEventRecomputes :
    (asked (.setClock 100 5000)).serves ⟨7, 1, .setClock 100 5000⟩ [] ∧
      State.reset.resetHeld = false ∧ pressed.resetHeld = false ∧
      (State.lateNow pressed 0).isSome = true ∧
      ({ State.reset with resetHeld := true } : State).resetHeld = true :=
  ⟨serves_asked _, by decide +kernel⟩

/-- 04 R85, R86: 6 blocks at 900 µs are 1 s, and the slack is 0 − 1 − 300. -/
theorem test_late_posted :
    after (exec .secondEvent pressed) (fun t =>
      (t.notices.queue.map (·.notice), t.bayCounter 0 .lateEntries)) =
        some ([.late 0 (some 77) 5 11 6 1 (-301)], 1) := by decide +kernel

/-- A bridge whose slot 127 holds a block for bay 0's job. -/
def holding : State :=
  { one { working .serving .receiving chan with txQueue := [⟨127, 1, 0, 4⟩] } with
    pool := (Table.fill 128 none).set 127 (some ⟨2, 4, [7], [0], 0⟩) }

theorem witness_HoldLimitDetaches :
    holding.pool.get 127 = some ⟨2, 4, [7], [0], 0⟩ ∧ [(0 : BayId)].Nodup := by decide +kernel

/-- A working bay with a block in flight that is its probe. -/
def flying : Bay :=
  { working .serving .receiving { chan with inFlight := [⟨3, 0, 0⟩] } with
    deadline := { Deadline.initial with probe := some ⟨0, 3, 0, 1⟩ } }

theorem witness_ReceiptTimeoutNeeds :
    (one flying).held? 0 0 = some (1, job .receiving, { chan with inFlight := [⟨3, 0, 0⟩] }) ∧
      ((one flying).bay 0).deadline.probe = some ⟨0, 3, 0, 1⟩ ∧
      ((one flying).bay 0).deadline.serviceTime ≤ 65535 ∧
      ((one (working .serving .receiving { chan with inFlight := [⟨3, 0, 0⟩] })).bay 0).deadline.probe =
        none ∧
      inGaps [⟨3, 3⟩] ((job .receiving).offsetOf 3) = true := by decide +kernel

theorem witness_OpenTimerExpires :
    (one (working .serving .opening chan)).held? 0 0 = some (1, job .opening, chan) ∧
      chan.openTimer = some ⟨0, 1000⟩ ∧ chan.openExpired = false ∧
      (∀ f ∈ ((one (working .serving .opening chan)).bay 0).port.control,
        ControlFrame.opens 0 f = false) ∧
      (∃ f ∈ [ControlFrame.channelOpen 0 6 ⟨10, 0xAB, 9⟩ 1 0], ControlFrame.opens 0 f = true) ∧
      ({ chan with openExpired := true } : Channel).openExpired = true ∧ chan.inFlight = [] := by decide +kernel

/-- Unit 3's activation. -/
def target : ActTarget := ⟨3, 1, 9⟩

/-- A bay in HOLDING whose staged unit 3 is being activated or reverted. -/
def activating (a : Activation) (st : UnitState) : Bay :=
  { working .holding .staged chan with
    activation := a,
    jobs := (Table.fill 8 none).set 1 (some { job .staged with
      members := [⟨3, st, some 0⟩, ⟨5, .staged, some 0⟩] }) }

theorem witness_ActivationTimerExpires :
    ((one (activating (.activating target 8 ⟨0, 180000⟩) .activating)).bay 0).activation =
        .activating target 8 ⟨0, 180000⟩ ∧
      (let s := one (activating (.reverting target 8 (some ⟨0, 180000⟩)) .reverting)
      let j : Job := { job .staged with members := [⟨3, .reverting, some 0⟩, ⟨5, .staged, some 0⟩] }
      (s.bay 0).activation = .reverting target 8 (some ⟨0, 180000⟩) ∧
        (s.bay 0).unit? target.unit = some unit3 ∧
        s.job 0 target.place = some j ∧ j.live = true ∧
        j.member? target.unit = some ⟨3, .reverting, some 0⟩ ∧
        ({ s.bay 0 with ctl := { (s.bay 0).ctl with state := .serving } } : Bay).ctl.state = .serving ∧
        j.state = .staged ∧ ∃ m ∈ j.members, m.unit ≠ target.unit ∧ m.state.terminal = false) := by decide +kernel

theorem witness_TrainingStarts :
    (State.reset.bay 0).port.phase = .down ∧ (State.reset.bay 0).ctl.state = .vacant ∧
      (phased .forced).port.phase = .forced ∧ (phased .forced).port.signal = true ∧
      (phased .forced).ctl.state = .vacant ∧
      ({ (phased .forced).port with forcedTimer := some ⟨0, 100⟩, signal := false } :
        Port).forcedTimer = some ⟨0, 100⟩ := by decide +kernel

theorem witness_CapsExchanged :
    ({ (phased .probing).port with capsAge := some 500 } : Port).capsAge = some 500 ∧
      (phased .probing).port.phase = .probing ∧ (3 : RateCode).val = min (255 : Byte).toNat 3 ∧
      min (3 : RateCode) (phased .probing).maxRate ≠ 0 ∧
      ({ (phased .probing).port with switchAttempts := 1 } : Port).switchAttempts < 2 := by decide +kernel

theorem witness_SwitchingEvents :
    (phased .switching).port.phase = .switching ∧
      ({ (phased .switching).port with switchTimer := some ⟨0, 200⟩ } : Port).switchTimer =
        some ⟨0, 200⟩ ∧
      ({ (phased .switching).port with fallbackTimer := some ⟨0, 200⟩ } : Port).fallbackTimer =
        some ⟨0, 200⟩ := by decide +kernel

theorem witness_TrainingEnds :
    (0 : RateCode).val = min (0 : Byte).toNat 3 ∧ State.reset.config.threshold ≠ 0 ∧
      ({ State.reset.config with threshold := 0 } : Config.Settings).threshold = 0 ∧
      (let c : Controller := { (phased .probing).ctl with state := .training }
      c.state = .training ∧ c.pendingHello = none ∧ c.vehicle = none ∧ c.intakeTimer = none) ∧
      (phased .probing).port.phase = .probing ∧ min (0 : RateCode) (phased .probing).maxRate = 0 ∧
      2 ≤ ({ (phased .probing).port with switchAttempts := 2 } : Port).switchAttempts ∧
      (phased .switching).port.phase = .switching ∧
      ({ (phased .switching).port with switchTimer := some ⟨0, 200⟩ } : Port).switchTimer.isSome :=
  by decide +kernel

theorem witness_FrameErrorsCounted :
    judgeBayFrame [] = .checkError ∧
      judgeBayFrame ([0x18, 0, 0, 8] ++ u32 (crc32 [0x18, 0, 0, 8]).toNat) = .unknownKind ∧
      judgeBayFrame ([0x11, 0, 0, 8] ++ u32 (crc32 [0x11, 0, 0, 8]).toNat) = .lengthError ∧
      (phased .probing).port.phase = .probing ∧ (phased .trained).port.phase = .trained ∧
      State.reset.config.errorMode = .discard ∧ (phased .forced).port.phase = .forced := by decide +kernel

theorem witness_QualificationLostInIntake :
    ((one (linked true .intake none)).bay 0).port.phase = .trained ∧
      ((one (linked true .intake none)).bay 0).port.qualified = true ∧
      ((one (linked true .intake none)).bay 0).ctl.state = .intake ∧
      judgeBayFrame [] = .checkError ∧
      judgeBayFrame ([0x18, 0, 0, 8] ++ u32 (crc32 [0x18, 0, 0, 8]).toNat) = .unknownKind ∧
      judgeBayFrame ([0x11, 0, 0, 8] ++ u32 (crc32 [0x11, 0, 0, 8]).toNat) = .lengthError ∧
      ({ State.reset.config with errorMode := .relatch } : Config.Settings).errorMode = .relatch :=
  by decide +kernel

/-- The premises of a withheld stream hold of stream 2. -/
theorem wanted_withheld :
    ∀ a, a ≠ 0 → ∀ q k, (wanted .serving).job a q = some k → k.stream = 2 →
      ((wanted .serving).bay a).jobWants k = false :=
  fun a ha q k h _ => absurd (wanted_jobs .serving a q k h) ha

theorem witness_QualificationLossHolds :
    ((one (linked true .departing (some 77))).bay 0).port.phase = .trained ∧
      ((one (linked true .departing (some 77))).bay 0).port.qualified = true ∧
      ((one (linked true .departing (some 77))).bay 0).ctl.state = .departing ∧
      ((one (linked true .departing (some 77))).bay 0).txQueue = [] ∧
      ((wanted .serving).bay 0).port.phase = .trained ∧
      ((wanted .serving).bay 0).port.qualified = true ∧
      ((wanted .serving).bay 0).ctl.state = .serving ∧
      (wanted .serving).job 0 1 = some (job .receiving) ∧
      ((wanted .serving).stream 2).isOpen = true ∧
      ((wanted .serving).stream 2).satisfied = false ∧
      (wanted .serving).notices.mask.getLsbD 6 = true ∧
      (wanted .serving).notices.queue.length + 17 ≤ 32 ∧
      ({ State.reset.config with errorMode := .relatch } : Config.Settings).errorMode = .relatch ∧
      judgeBayFrame [] = .checkError ∧
      judgeBayFrame ([0x18, 0, 0, 8] ++ u32 (crc32 [0x18, 0, 0, 8]).toNat) = .unknownKind ∧
      judgeBayFrame ([0x11, 0, 0, 8] ++ u32 (crc32 [0x11, 0, 0, 8]).toNat) = .lengthError := by
  decide +kernel

theorem test_holding_satisfies_its_stream :
    after (exec (.watchdogTwoPeriods 0) (wanted .serving)) (fun t =>
      ((t.stream 2).satisfied, (t.stream 2).held, t.due)) = some (true, 0, [2]) := by
  decide +kernel

/-- 06 R118, R120, 07 R136: a frame error under RELATCH takes a DEPARTING bay to HOLDING. -/
theorem test_relatch_error_holds :
    after (exec (.bayFrameError 0 []) { wanted .departing with
        config := { State.reset.config with errorMode := .relatch } }) (fun t =>
      ((t.bay 0).ctl.state, t.bayCounter 0 .relatches, t.due)) = some (.holding, 1, []) := by
  decide +kernel

theorem witness_LinkDropTearsDown :
    (let s := one (working .serving .receiving chan)
    (s.bay 0).ctl.state ≠ .vacant ∧ (s.bay 0).port.phase = .trained ∧
      (∀ i, (s.entry i).replacement = none) ∧ (s.savedRecords 0).length = 1) ∧
      ({ (phased .switching) with
        port := { (phased .switching).port with fallbackTimer := some ⟨0, 200⟩ },
        ctl := { Controller.initial with state := .training } } : Bay).port.fallbackTimer.isSome ∧
      ({ (linked true .intake none).ctl with intakeTimer := some ⟨0, 10000⟩ } :
        Controller).intakeTimer.isSome ∧
      ({ (linked false .holding (some 77)).ctl with holdingTimer := some ⟨0, 15000⟩ } :
        Controller).holdingTimer.isSome := by decide +kernel

/-- 07 R137, 03 R62: offset 3, in flight, is needed again in the record that the drop leaves. -/
theorem test_drop_writes_the_record :
    after (exec (.signalLost 0) (one (working .serving .receiving
        { chan with inFlight := [⟨3, 0, 0⟩] }))) (fun t =>
      (t.resume.places.get 0).map fun r => (r.vehicle, r.cursor, r.gaps)) =
        some (some (77, 4, [⟨3, 3⟩])) := by decide +kernel

theorem witness_FramesOutsideService :
    (one (linked true .serving (some 77))).hears 0 ∧ (phased .down).port.phase = .down ∧
      (phased .forced).port.phase = .forced ∧ (phased .probing).port.phase = .probing ∧
      (phased .switching).port.phase = .switching ∧
      (List.replicate 64 (⟨3, false, 1, 2, 8, 0⟩ : InventoryItem)).length ≤ 64 ∧
      1 ≤ (List.replicate 8 (0 : Half)).length ∧ (List.replicate 8 (0 : Half)).length ≤ 8 ∧
      (List.replicate 64 (⟨3, true⟩ : CloseItem)).length ≤ 64 ∧
      1 ≤ (List.replicate 1024 (0 : Byte)).length ∧ (List.replicate 1024 (0 : Byte)).length ≤ 1024 :=
  ⟨⟨by decide +kernel, .inl (by decide +kernel)⟩, by decide +kernel⟩

/-- An unqualified port two valid frames short of the threshold. -/
theorem witness_hears_below_threshold :
    (one { linked false .holding (some 77) with
      port := { (linked false .holding (some 77)).port with qualCount := 2 } }).hears 0 := 
  ⟨by decide +kernel, .inr (by decide +kernel)⟩

/-- A bay in QUALIFYING one valid frame short of its qualification. -/
def joining (h : Option HelloFrame) (v : Option Word) : State :=
  one { linked false .qualifying v with
    ctl := { (linked false .qualifying v).ctl with pendingHello := h } }

theorem witness_QualificationGained :
    (joining none none).qualifiesNext 0 ∧ (joining none (some 77)).qualifiesNext 0 ∧
      (joining (some (hello 1)) (some 76)).qualifiesNext 0 ∧
      (one { linked false .holding (some 77) with
        port := { (linked false .holding (some 77)).port with qualCount := 9 } }).qualifiesNext 0 ∧
      ((joining none none).bay 0).ctl.state = .qualifying ∧
      ((joining none none).bay 0).ctl.vehicle = none ∧
      ((joining none (some 77)).bay 0).ctl.vehicle ≠ none ∧
      ((joining (some (hello 1)) (some 76)).bay 0).ctl.pendingHello = some (hello 1) ∧
      readVehicleState (hello 1).vehicleState = some .parked ∧
      (∀ a, a ≠ 0 → ((joining (some (hello 1)) (some 76)).bay a).ctl.vehicle ≠
        some (hello 1).vehicle) ∧
      (some 76 : Option Word) ≠ some (hello 1).vehicle ∧
      ((joining none none).bay 0).port.control = [] ∧
      ((one (linked false .holding (some 77))).bay 0).ctl.state = .holding ∧
      ((one (linked false .holding (some 77))).bay 0).ctl.vehicleState ≠ some .departing ∧
      (∀ r ∈ ((one (linked false .holding (some 77))).bay 0).inventory, r.job ≠ none) ∧
      ({ (linked false .holding (some 77)).ctl with vehicleState := some .departing } :
        Controller).vehicleState = some .departing :=
  ⟨⟨by decide +kernel, by decide +kernel, by decide +kernel⟩,
    ⟨by decide +kernel, by decide +kernel, by decide +kernel⟩,
    ⟨by decide +kernel, by decide +kernel, by decide +kernel⟩,
    ⟨by decide +kernel, by decide +kernel, by decide +kernel⟩, by decide +kernel⟩

/-- 07 R130, R131: the pending HELLO is processed at the entry into INTAKE, and the INVENTORY REQUEST
of step 1 is the only one. -/
theorem test_pending_hello_is_processed :
    after (exec (.heartbeat 0 1) (joining (some (hello 1)) none)) (fun t =>
      ((t.bay 0).ctl.state, (t.bay 0).ctl.vehicle, (t.bay 0).ctl.pendingHello,
        (t.bay 0).channels.length, (t.bay 0).port.control)) =
        some (.intake, some 77, none, 2, [.inventoryRequest false]) := by decide +kernel

theorem witness_HelloKeptOrRepeated :
    (one (linked true .serving (some 77))).hears 0 ∧ (one (linked true .qualifying none)).hears 0 ∧
      (one (linked true .holding (some 77))).hears 0 ∧
      (one (linked true .departing (some 77))).hears 0 ∧
      readVehicleState 4 = none ∧ (hello 3).vehicle ≠ 0 ∧
      readVehicleState (hello 3).vehicleState = some .service ∧
      readVehicleState (hello 2).vehicleState = some .departing ∧
      readVehicleState (hello 1).vehicleState = some .parked ∧
      ((one (linked true .serving (some 77))).bay 0).ctl.vehicle = some (hello 3).vehicle ∧
      ((one (linked true .holding (some 77))).bay 0).ctl.vehicle = some (hello 1).vehicle ∧
      ((one (linked true .departing (some 77))).bay 0).ctl.vehicle = some (hello 2).vehicle ∧
      ((one (linked true .serving (some 77))).bay 0).ctl.vehicle ≠ some 78 :=
  ⟨⟨by decide +kernel, .inl (by decide +kernel)⟩, ⟨by decide +kernel, .inl (by decide +kernel)⟩,
    ⟨by decide +kernel, .inl (by decide +kernel)⟩,
    ⟨by decide +kernel, .inl (by decide +kernel)⟩, by decide +kernel⟩

theorem witness_HelloProcessed :
    (one (linked true .intake none)).hears 0 ∧ (hello 1).vehicle ≠ 0 ∧
      readVehicleState (hello 1).vehicleState = some .parked ∧
      ((one (linked true .intake none)).bay 0).ctl.state = .intake ∧
      (∀ a, a ≠ 0 → ((one (linked true .intake none)).bay a).ctl.vehicle ≠ some (hello 1).vehicle) ∧
      ((one (linked true .intake none)).bay 0).ctl.vehicle = none ∧
      ((one (linked true .intake none)).bay 0).port.control = [] := 
  ⟨⟨by decide +kernel, .inl (by decide +kernel)⟩, by decide +kernel⟩

/-- Bay 0 in INTAKE, and bay 15 serving vehicle 77. -/
def double : State := (one (linked true .intake none)).setBay 15 (linked true .serving (some 77))

theorem witness_DuplicateVehicleMoves :
    double.hears 0 ∧ (15 : BayId) ≠ 0 ∧ (hello 1).vehicle ≠ 0 ∧
      readVehicleState (hello 1).vehicleState ≠ none ∧ (double.bay 0).ctl.state = .intake ∧
      (double.bay 15).ctl.vehicle = some (hello 1).vehicle ∧
      (double.bay 15).ctl.state ≠ .vacant ∧ (double.bay 15).port.phase = .trained ∧
      (joining (some (hello 1)) none).qualifiesNext 0 ∧
      ((joining (some (hello 1)) none).bay 0).ctl.state = .qualifying ∧
      ((joining (some (hello 1)) none).bay 0).ctl.pendingHello = some (hello 1) :=
  ⟨⟨by decide +kernel, .inl (by decide +kernel)⟩, by decide +kernel, by decide +kernel,
    by decide +kernel, by decide +kernel, by decide +kernel, by decide +kernel, by decide +kernel,
    ⟨by decide +kernel, by decide +kernel, by decide +kernel⟩, by decide +kernel⟩

/-- A SERVING bay whose unit 3 is staged under entry 0 and may be activated. -/
def ready : State :=
  (one { working .serving .staged chan with
    jobs := (Table.fill 8 none).set 1 (some { job .staged with members := [⟨3, .staged, some 0⟩] }),
    inventory := [{ unit3 with standby := some 9 }] }).modEntry 0 fun _ =>
      Entry.written (writtenFields 2 0 0 0 9 0xAB)

/-- The one job of `ready`. -/
theorem ready_job : ∀ q, ready.job 0 q =
    if q = 1 then some { job .staged with members := [⟨3, .staged, some 0⟩] } else none := by
  decide +kernel

/-- Unit 3 is the choice of an IDLE controller. -/
theorem ready_choice :
    ready.choice 0 1 { job .staged with members := [⟨3, .staged, some 0⟩] } ⟨3, .staged, some 0⟩ := by
  refine ⟨by decide +kernel, by simp, ⟨rfl, rfl, ⟨{ unit3 with standby := some 9 }, by decide +kernel,
    rfl⟩, ⟨0, rfl, by decide +kernel, .inl (by decide +kernel)⟩, .inl rfl⟩, ?_⟩
  intro q k n h m _
  rw [ready_job] at h
  split at h
  · cases h
    simp at m
    exact .inr ⟨‹_›, m⟩
  · cases h

/-- A bay without jobs has no member to activate. -/
theorem linked_none (st : BayState) (p : Place) (j : Job) (m : Member)
    (h : (one (linked true st (some 77))).job 0 p = some j) (_ : m ∈ j.members) :
    ¬ (one (linked true st (some 77))).mayActivate 0 j m := by
  have g : (one (linked true st (some 77))).bay 0 = linked true st (some 77) := by
    simp only [one, State.bay, State.setBay]
    exact Table.get_set_self _ _ _
  have : (one (linked true st (some 77))).job 0 p = none := by
    simp only [State.job, g]
    exact Table.get_fill _ _
  rw [this] at h
  cases h

theorem witness_HeartbeatStored :
    (one (linked true .serving (some 77))).hears 0 ∧ (one (linked true .holding (some 77))).hears 0 ∧
      (one (linked true .departing (some 77))).hears 0 ∧
      (one (linked true .intake none)).hears 0 ∧ ready.hears 0 ∧
      readVehicleState 0 = none ∧ readVehicleState 2 = some .departing ∧
      readVehicleState 3 = some .service ∧ readVehicleState 1 = some .parked ∧
      ((one (linked true .intake none)).bay 0).ctl.vehicle = none ∧
      ((one (linked true .holding (some 77))).bay 0).ctl.vehicle ≠ none ∧
      ((one (linked true .holding (some 77))).bay 0).ctl.state = .holding ∧
      ((one (linked true .departing (some 77))).bay 0).ctl.state = .departing ∧
      ((one (linked true .serving (some 77))).bay 0).ctl.state = .serving ∧
      (ready.bay 0).ctl.vehicle ≠ none ∧ (ready.bay 0).ctl.state = .serving ∧
      (ready.bay 0).activation = .idle :=
  ⟨⟨by decide +kernel, .inl (by decide +kernel)⟩, ⟨by decide +kernel, .inl (by decide +kernel)⟩,
    ⟨by decide +kernel, .inl (by decide +kernel)⟩, ⟨by decide +kernel, .inl (by decide +kernel)⟩,
    ⟨by decide +kernel, .inl (by decide +kernel)⟩, by decide +kernel⟩

theorem test_parked_selects :
    after (exec (.heartbeat 0 1) ready) (fun t =>
      ((t.bay 0).activation, (t.bay 0).port.control)) =
        some (.selected target false, [.activate 3 9]) := by decide +kernel

theorem witness_DepartureAnnounced :
    (wanted .serving).hears 0 ∧ (wanted .departing).hears 0 ∧
      readVehicleState 2 = some .departing ∧ readVehicleState 3 = some .service ∧
      ((wanted .serving).bay 0).ctl.vehicle = some (hello 2).vehicle ∧ (hello 2).vehicle ≠ 0 ∧
      readVehicleState (hello 2).vehicleState = some .departing ∧
      ((wanted .serving).bay 0).ctl.state = .serving ∧
      ((wanted .departing).bay 0).ctl.vehicle ≠ none ∧
      ((wanted .departing).bay 0).ctl.state = .departing ∧
      (wanted .departing).job 0 1 = some (job .receiving) ∧
      (job .receiving).cursor < (job .receiving).identity.length ∧
      (∀ r ∈ ((wanted .departing).bay 0).inventory, r.job ≠ none) :=
  ⟨⟨by decide +kernel, .inl (by decide +kernel)⟩, ⟨by decide +kernel, .inl (by decide +kernel)⟩, by decide +kernel⟩

theorem test_service_returns_to_serving :
    after (exec (.heartbeat 0 3) ((wanted .departing).modStream 2 fun x =>
        { x with satisfied := true })) (fun t =>
      ((t.bay 0).ctl.state, (t.stream 2).satisfied, t.due)) = some (.serving, false, [2]) := by
  decide +kernel

/-- A bay in INTAKE with one free channel, whose units match entry 0. -/
def taking (table : ResumeTable) (i : EntryFields) : State :=
  { (streaming.setBay 0 { linked true .intake (some 77) with
      channels := [{ chan with job := none, inFlight := [] }] }).modEntry 0 fun _ => Entry.written i with
    resume := table }

/-- The entry that takes class 1, revision 2 to version 9. -/
def newVersion : EntryFields := writtenFields 2 0 0x102 0xFFFFFF 9 0xAB

/-- The resume record of vehicle 77 and that image in place 31. -/
def kept : ResumeTable :=
  { places := (Table.fill 32 none).set 31 (some ⟨77, ⟨10, 0xAB, 9⟩, 3, 4, [⟨1, 2⟩], 0⟩),
    order := [31] }

theorem witness_IntakeCompletes :
    (one (linked true .intake (some 77))).hears 0 ∧
      (taking State.reset.resume newVersion).hears 0 ∧ (wanted .serving).hears 0 ∧
      (List.replicate 64 (⟨3, false, 1, 2, 8, 0⟩ : InventoryItem)).length ≤ 64 ∧
      ((one (linked true .intake (some 77))).bay 0).ctl.state = .intake ∧
      ((one (linked true .intake (some 77))).bay 0).ctl.vehicle ≠ none ∧
      ((one (linked true .intake (some 77))).bay 0).ctl.vehicleState ≠ some .departing ∧
      ((one (linked true .intake (some 77))).bay 0).port.trainedRate = some 1 ∧
      ({ (linked true .intake (some 77)).ctl with vehicleState := some .departing } :
        Controller).vehicleState = some .departing ∧
      (let s := taking kept newVersion
      (s.bay 0).ctl.state = .intake ∧ (s.bay 0).ctl.vehicle = some 77 ∧
        (s.bay 0).ctl.vehicleState ≠ some .departing ∧ (∀ p, s.job 0 p = none) ∧
        (s.bay 0).channels = [{ chan with job := none, inFlight := [] }] ∧
        (3 : Byte).toNat = (3 : UnitAddr).val ∧
        s.governing (newRecord (3, ⟨3, false, 1, 2, 8, 0⟩)).key = some 0 ∧
        (s.entry 0).fields = newVersion ∧ (s.stream newVersion.stream).length = 10 ∧
        s.dispositionOf (newRecord (3, ⟨3, false, 1, 2, 8, 0⟩)) = .needsImage ∧
        s.dispositionOf (newRecord (3, ⟨3, true, 1, 2, 8, 9⟩)) = .stageReady ∧
        s.dispositionOf (newRecord (3, ⟨3, true, 1, 2, 9, 9⟩)) = .current ∧
        s.resume.lookup 77 ⟨10, 0xAB, 9⟩ = some 31 ∧
        State.reset.resume.lookup 77 ⟨10, 0xAB, 9⟩ = none) ∧
      ((wanted .serving).bay 0).ctl.state = .serving ∧
      (admitItems []).unitList = [] ∧
      (let x := activating (.activating target 8 ⟨0, 180000⟩) .activating
      x.activation = .activating target 8 ⟨0, 180000⟩ ∧ unit3 ∈ x.inventory ∧
        unit3.unit = target.unit ∧ unit3.job ≠ none) :=
  ⟨⟨by decide +kernel, .inl (by decide +kernel)⟩, ⟨by decide +kernel, .inl (by decide +kernel)⟩,
    ⟨by decide +kernel, .inl (by decide +kernel)⟩, by decide +kernel⟩

/-- 01 R12 to R21, 07 R143: the unit needs its image, and its transfer resumes from the record. -/
theorem test_intake_restores_the_transfer :
    after (exec (.inventory 0 [⟨3, false, 1, 2, 8, 0⟩]) (taking kept newVersion)) (fun t =>
      (t.job 0 0).map fun j => (j.state, j.start, j.cursor, j.gaps)) =
        some (some (.opening, 3, 4, [⟨1, 2⟩])) := by decide +kernel

/-- 01 R14: the unit that the frame no longer shows ends, and its job with it. -/
theorem test_refresh_cancels_a_vanished_unit :
    after (exec (.inventory 0 []) (one { working .serving .receiving chan with
        jobs := (Table.fill 8 none).set 1 (some { job .receiving with
          members := [⟨3, .pending, some 0⟩] }) })) (fun t =>
      ((t.job 0 1).map fun j => (j.state, j.members), (t.bay 0).inventory)) =
        some (some (.cancelled, [⟨3, .cancelled, none⟩]), []) := by decide +kernel

theorem witness_FramesDiscardedCounted :
    (one (linked true .departing (some 77))).hears 0 ∧ (one (linked true .intake none)).hears 0 ∧
      (∀ c p j, (one (linked true .departing (some 77))).answered 0 0 6 = some (c, p, j) → j.state ≠ .opening) ∧
      (one (linked true .departing (some 77))).answered 0 0 6 = none ∧ 1 ≤ [(0 : Half)].length ∧
      [(0 : Half)].length ≤ 8 ∧ ((one (linked true .departing (some 77))).bay 0).ctl.state = .departing ∧
      ((one (linked true .intake none)).bay 0).ctl.vehicle = none ∧
      ((one (linked true .intake none)).bay 0).ctl.state.takesReports = false ∧
      (∀ r ∈ ((one (linked true .departing (some 77))).bay 0).inventory, r.unit.val ≠ (3 : Byte).toNat) := 
  ⟨⟨by decide +kernel, .inl (by decide +kernel)⟩,
    ⟨by decide +kernel, .inl (by decide +kernel)⟩,
    fun c p j h => (by
      rw [show (one (linked true .departing (some 77))).answered 0 0 6 = none by decide +kernel] at h
      cases h),
    by decide +kernel⟩

theorem witness_OpenAccepted :
    (let s := one (working .serving .opening chan)
    s.hears 0 ∧ s.answered 0 0 6 = some (0, 1, job .opening) ∧ (job .opening).state = .opening ∧
      (job .opening).cursor < (job .opening).identity.length) := 
  ⟨⟨by decide +kernel, .inl (by decide +kernel)⟩, by decide +kernel⟩

theorem witness_OpenRefused :
    (let s := one (working .serving .opening chan)
    s.hears 0 ∧ s.answered 0 0 6 = some (0, 1, job .opening) ∧
      ∀ ch, s.channel 0 0 = some ch → ch.inFlight = []) := 
  ⟨⟨by decide +kernel, .inl (by decide +kernel)⟩, by decide +kernel, fun ch h => by
    have h' : some chan = some ch := h
    cases h'; rfl⟩

/-- A job that still needs offset 1. -/
def needing : Job := { job .receiving with gaps := [⟨1, 1⟩] }

/-- Its channel, with sequences 3 and 2 in flight. -/
def inFlight2 : Channel := { chan with inFlight := [⟨3, 0, 0⟩, ⟨2, 0, 0⟩] }

/-- That job on bay 0, sequence 3 being the probe. -/
def receipted : State :=
  one { flying with jobs := (Table.fill 8 none).set 1 (some needing), channels := [inFlight2] }

/-- A job that has passed every offset. -/
def passed : Job := { job .receiving with cursor := 10 }

/-- That job on bay 0, its last block in flight. -/
def last (st : BayState) : State :=
  one { working st .receiving { chan with inFlight := [⟨3, 0, 0⟩] } with
    jobs := (Table.fill 8 none).set 1 (some passed) }

theorem witness_ReceiptConfirms :
    receipted.hears 0 ∧ receipted.answered 0 0 6 = some (0, 1, needing) ∧
      receipted.channel 0 0 = some inFlight2 ∧ needing.channel = some 0 ∧
      [(3 : Half), 1].length ≤ 8 ∧
      receiptOf needing inFlight2 [3, 1] = ⟨[], [⟨2, 0, 0⟩], 3, 2, 0, 0⟩ ∧
      receiptOf needing inFlight2 [7] = ⟨needing.gaps, inFlight2.inFlight, 2, 0, 1, 0⟩ ∧
      (receipted.bay 0).deadline.probe = some ⟨0, 3, 0, 1⟩ ∧
      ((3 : Half) ∈ [(3 : Half), 1] ∧ (3 : Half).toNat = 3) ∧ (∃ f ∈ inFlight2.inFlight, f.sequence = 3) ∧
      needing.cursor ≠ needing.identity.length :=
  ⟨⟨by decide +kernel, .inl (by decide +kernel)⟩, by decide +kernel⟩

/-- The premises of the clause that ends in CLOSING. -/
theorem witness_ReceiptConfirms_completion :
    (last .holding).hears 0 ∧ (last .holding).answered 0 0 6 = some (0, 1, passed) ∧
      (last .holding).channel 0 0 = some { chan with inFlight := [⟨3, 0, 0⟩] } ∧
      ((last .holding).bay 0).deadline.probe = none ∧ passed.state = .receiving ∧
      passed.cursor = passed.identity.length ∧
      (receiptOf passed { chan with inFlight := [⟨3, 0, 0⟩] } [3]).gaps = [] ∧
      (receiptOf passed { chan with inFlight := [⟨3, 0, 0⟩] } [3]).flights = [] ∧
      ∀ e ∈ ((last .holding).bay 0).txQueue, e.place ≠ 1 :=
  ⟨⟨by decide +kernel, .inl (by decide +kernel)⟩, by decide +kernel⟩

/-- 03 R61, R66: the last receipt takes the job to CLOSING, and its CHANNEL CLOSE waits. -/
theorem test_last_receipt_closes :
    after (exec (.receipt 0 ⟨0, 6, [3]⟩) (last .serving)) (fun t =>
      ((t.job 0 1).map (·.state), (t.bay 0).port.control)) =
        some (some .closing, [.channelClose 0 6 0xAB [3, 5]]) := by decide +kernel

theorem witness_CloseStagesMembers :
    (let s := one (working .serving .closing chan)
    let f : CloseResultFrame := ⟨0, 6, 0xAB, [⟨3, false⟩, ⟨5, true⟩]⟩
    s.hears 0 ∧ f.items.length ≤ 64 ∧ s.answered 0 f.channel f.tag = some (0, 1, job .closing) ∧
      (job .closing).state = .closing ∧
      f.check = (job .closing).identity.check ∧ s.channel 0 0 = some chan ∧ chan.inFlight = [] ∧
      (∀ m ∈ (job .closing).members, m.state = .pending ∨ m.state.terminal = true) ∧
      ∃ m ∈ (job .closing).members, m.state = .pending ∧ closeShowsWritten f m.unit = true) ∧
    (let s := one (working .holding .closing chan)
    let f : CloseResultFrame := ⟨0, 6, 0xAB, [⟨5, true⟩]⟩
    s.hears 0 ∧ f.items.length ≤ 64 ∧ s.answered 0 f.channel f.tag = some (0, 1, job .closing) ∧
      (job .closing).checkFailed = false ∧ f.check = (job .closing).identity.check ∧
      (s.bay 0).ctl.state ≠ .serving ∧
      (∀ m ∈ (job .closing).members, m.state.terminal = true ∨
        (m.state = .pending ∧ closeShowsWritten f m.unit = false)) ∧
      ∃ m ∈ (job .closing).members, m.state = .pending) :=
  ⟨⟨⟨by decide +kernel, .inl (by decide +kernel)⟩, by decide +kernel⟩,
    ⟨⟨by decide +kernel, .inl (by decide +kernel)⟩, by decide +kernel⟩⟩

theorem witness_CloseFailureRetries :
    (let s := one (working .serving .closing chan)
    let f : CloseResultFrame := ⟨0, 6, 0xAC, []⟩
    s.hears 0 ∧ s.held? 0 0 = some (1, job .closing, chan) ∧ (job .closing).state = .closing ∧
      (job .closing).attempts < 3 ∧ (job .closing).hasPending = true ∧
      chan.closeTimer.isSome ∧ f.items.length ≤ 64 ∧ f.channel.toNat = (0 : ChannelId).val ∧
      f.tag = chan.tag ∧ f.check ≠ (job .closing).identity.check) ∧
    (let j : Job := { job .closing with
      attempts := 3, members := [⟨3, .pending, some 0⟩, ⟨5, .staged, some 0⟩, ⟨6, .done, none⟩] }
    let s := one { working .holding .closing chan with jobs := (Table.fill 8 none).set 1 (some j) }
    s.held? 0 0 = some (1, j, chan) ∧ j.state = .closing ∧ 3 ≤ j.attempts ∧
      (s.bay 0).ctl.state ≠ .serving ∧
      (∀ m ∈ j.members, m.state = .pending ∨ m.state = .staged ∨ m.state.terminal = true) ∧
      s.notices.mask.getLsbD 3 = true ∧ s.notices.queue.length < 31) :=
  ⟨⟨⟨by decide +kernel, .inl (by decide +kernel)⟩, by decide +kernel⟩, by decide +kernel⟩

theorem witness_ReportOutsideActivation :
    (let s := one (working .holding .staged chan)
    s.hears 0 ∧ (s.bay 0).ctl.state = .holding ∧ (3 : UnitAddr).val = (3 : Byte).toNat ∧
      (s.bay 0).unit? 3 = some unit3 ∧ (s.bay 0).activation = .idle) := 
  ⟨⟨by decide +kernel, .inl (by decide +kernel)⟩, by decide +kernel⟩

/-- 05's worked case at step 3: a SERVING bay with unit 3 in activation and unit 5 staged. -/
def nightWindow (a : Activation) (st : UnitState) : State :=
  (one { activating a st with
    ctl := { (linked true .serving (some 77)).ctl with vehicleState := some .parked },
    inventory := [{ unit3 with standby := some 9 },
      { unit3 with unit := 5, standby := some 9 }] }).modEntry 0 fun _ =>
        Entry.written (writtenFields 2 0 0 0 9 0xAB)

/-- Unit 5 is the next choice there. -/
theorem nightWindow_choice :
    (nightWindow (.activating target 8 ⟨0, 180000⟩) .activating).choice 0 1
      { job .staged with members := [⟨3, .activating, some 0⟩, ⟨5, .staged, some 0⟩] }
      ⟨5, .staged, some 0⟩ := by
  refine ⟨by decide +kernel, by simp, ⟨rfl, rfl, ⟨{ unit3 with unit := 5, standby := some 9 },
    by decide +kernel, rfl⟩, ⟨0, rfl, by decide +kernel, .inl (by decide +kernel)⟩, .inl rfl⟩, ?_⟩
  intro q k n h m e
  have g : ∀ q, (nightWindow (.activating target 8 ⟨0, 180000⟩) .activating).job 0 q =
      if q = 1 then some { job .staged with
        members := [⟨3, .activating, some 0⟩, ⟨5, .staged, some 0⟩] } else none := by decide +kernel
  rw [g] at h
  split at h
  · cases h
    simp at m
    rcases m with rfl | rfl
    · cases e.1
    · exact .inr ⟨‹_›, rfl⟩
  · cases h

theorem witness_ActivationDone :
    (let s := nightWindow (.activating target 8 ⟨0, 180000⟩) .activating
    let j : Job := { job .staged with members := [⟨3, .activating, some 0⟩, ⟨5, .staged, some 0⟩] }
    s.hears 0 ∧ (s.bay 0).ctl.state = .serving ∧ (s.bay 0).ctl.vehicleState = some .parked ∧
      target.unit.val = (3 : Byte).toNat ∧
      (s.bay 0).unit? target.unit = some { unit3 with standby := some 9 } ∧
      (s.bay 0).activation = .activating target 8 ⟨0, 180000⟩ ∧
      s.job 0 target.place = some j ∧ j.live = true ∧
      j.member? target.unit = some ⟨3, .activating, some 0⟩ ∧ j.state = .staged ∧
      (∃ m ∈ j.members, m.unit ≠ target.unit ∧ m.state.terminal = false) ∧
      (9 : Version) = target.target ∧ (8 : Version) ≠ target.target ∧ (7 : Version) ≠ 8) ∧
    (let s := one (activating (.reverting target 8 none) .reverting)
    s.hears 0 ∧ (s.bay 0).ctl.state = .holding ∧ (s.bay 0).activation = .reverting target 8 none ∧
      ({ job .staged with members := [⟨3, .reverting, some 0⟩, ⟨5, .staged, some 0⟩] } :
        Job).member? target.unit = some ⟨3, .reverting, some 0⟩) :=
  ⟨⟨⟨by decide +kernel, .inl (by decide +kernel)⟩, by decide +kernel⟩,
    ⟨⟨by decide +kernel, .inl (by decide +kernel)⟩, by decide +kernel⟩⟩

/-- 05's worked case, step 3: unit 3 is DONE, and unit 5 is selected next. -/
theorem test_done_selects_the_sibling :
    after (exec (.unitReport 0 { unit := 3, running := 9, standbyPresent := true, standby := 8 })
        (nightWindow (.activating target 8 ⟨0, 180000⟩) .activating)) (fun t =>
      ((t.bay 0).unit? 3 |>.map fun r => (r.running, r.standby, r.blocked), (t.bay 0).activation,
        (t.bay 0).port.control)) =
        some (some (9, some 8, false), .selected ⟨5, 1, 9⟩ false, [.activate 5 9]) := by
  decide +kernel

/-- The last member to judge: unit 3 in activation, unit 5 DONE, in a job with or without a channel. -/
def lastOf (st : BayState) (a : Activation) (u : UnitState) (c : Option ChannelId) : State :=
  one { activating a u with
    ctl := { (linked true st (some 77)).ctl with vehicleState := some .parked },
    jobs := (Table.fill 8 none).set 1 (some { job .staged with
      members := [⟨3, u, some 0⟩, ⟨5, .done, some 0⟩], channel := c }) }

/-- The premises of the clause in which the job ends. -/
theorem witness_ActivationDone_last :
    (let s := lastOf .serving (.activating target 8 ⟨0, 180000⟩) .activating none
    let j : Job := { job .staged with
      members := [⟨3, .activating, some 0⟩, ⟨5, .done, some 0⟩], channel := none }
    s.hears 0 ∧ (s.bay 0).ctl.state = .serving ∧
      (s.bay 0).inventory.length + (s.bay 0).jobList.length ≤ 8 ∧
      (s.bay 0).activation = .activating target 8 ⟨0, 180000⟩ ∧
      (s.bay 0).unit? target.unit = some unit3 ∧ s.job 0 target.place = some j ∧ j.live = true ∧
      j.channel = none ∧ j.member? target.unit = some ⟨3, .activating, some 0⟩ ∧
      (∀ n ∈ (j.modMember target.unit fun n => { n with state := .fault }).members,
        n.state.terminal = true) ∧
      s.notices.mask.getLsbD 3 = true ∧ s.notices.queue.length < 29) ∧
    (let s := lastOf .holding (.reverting target 8 (some ⟨0, 180000⟩)) .reverting (some 0)
    (s.bay 0).ctl.state = .holding ∧
      (s.bay 0).activation = .reverting target 8 (some ⟨0, 180000⟩) ∧
      (s.job 0 target.place).map (·.channel) = some (some 0) ∧ s.channel 0 0 = some chan) :=
  ⟨⟨⟨by decide +kernel, .inl (by decide +kernel)⟩, by decide +kernel⟩, by decide +kernel⟩

/-- 05 R99, 03 R51: the second expiry ends the activation, and with its last member the job. -/
theorem test_second_expiry_ends_the_job :
    after (exec (.activationSecondExpiry 0)
        (lastOf .holding (.reverting target 8 (some ⟨0, 180000⟩)) .reverting (some 0))) (fun t =>
      ((t.job 0 1).map fun j => (j.state, j.members.map (·.state)), (t.bay 0).activation,
        (t.channel 0 0).map (·.job))) =
        some (some (.partialDone, [.fault, .done]), .idle, some none) := by decide +kernel

theorem witness_LinkFramesSent :
    (phased .probing).port.phase = .probing ∧ (phased .switching).port.phase = .switching ∧
      ({ (phased .probing).port with linkFrame := some .caps } : Port).linkFrame = some .caps ∧
      ({ (phased .probing).port with linkFrame := some (.retrain 3) } : Port).linkFrame =
        some (.retrain 3) := by decide +kernel

/-- A served bay with a control frame waiting. -/
def waiting (f : ControlFrame) (a : Activation) : Bay :=
  { working .serving .staged chan with
    port := { (working .serving .staged chan).port with control := [f] }, activation := a }

theorem witness_ChannelFramesSent :
    (let x := waiting (.channelOpen 3 6 ⟨10, 0xAB, 9⟩ 1 0) .idle
    x.port.phase = .trained ∧ x.port.qualified = true ∧
      x.port.control = .channelOpen 3 6 ⟨10, 0xAB, 9⟩ 1 0 :: [] ∧
      (waiting (.channelClose 3 6 0xAB [3]) .idle).port.control =
        .channelClose 3 6 0xAB [3] :: []) := by decide +kernel

theorem witness_ActivateJudgedAtSending :
    (let s := one { waiting (.activate 3 9) (.selected target false) with
      ctl := { (linked true .serving (some 77)).ctl with vehicleState := some .parked },
      jobs := (Table.fill 8 none).set 1 (some { job .staged with members := [⟨3, .staged, some 0⟩] }),
      inventory := [{ unit3 with standby := some 9 }] }
    let e := s.modEntry 0 fun _ => Entry.written (writtenFields 2 0 0 0 9 0xAB)
    (s.bay 0).port.phase = .trained ∧ (s.bay 0).port.qualified = true ∧
      (s.bay 0).port.control = .activate 3 9 :: [] ∧
      (s.bay 0).activation = .selected target false ∧
      (e.bay 0).unit? target.unit = some { unit3 with standby := some 9 } ∧
      e.targetEligible 0 target = true ∧ s.targetEligible 0 target = false ∧
      (waiting (.activate 3 9) (.selected target true)).activation = .selected target true) := by
  decide +kernel

/-- 05 R93, R103: the selected member has ended; another of the same unit stands in its place. -/
theorem test_activate_of_a_member_gone_is_discarded :
    after (exec (.sendActivate 0) (ready.modBay 0 fun x => { x with
        port := { x.port with control := [.activate 3 9] },
        activation := .selected target true })) (fun t =>
      (t.bayCounter 0 .activationsWithdrawn, (t.bay 0).port.line)) = some (1, none) := by
  decide +kernel

theorem witness_RevertAndRequestSent :
    (let x := waiting (.revert 3 8) (.reverting target 8 none)
    x.port.phase = .trained ∧ x.port.qualified = true ∧ x.port.control = .revert 3 8 :: [] ∧
      x.activation = .reverting target 8 none ∧
      (waiting (.inventoryRequest false) .idle).port.control = .inventoryRequest false :: []) := by decide +kernel

theorem witness_BlockSent :
    (holding.bay 0).txChoice = some (.block ⟨127, 1, 0, 4⟩) ∧
      holding.pool.get 127 = some ⟨2, 4, [7], [0], 0⟩ := by decide +kernel

theorem witness_PassDownSent :
    (let x := { linked true .serving (some 77) with
      port := { (linked true .serving (some 77)).port with passDown := [[9]], blockRun := 8 } }
    x.port.phase = .trained ∧ x.port.qualified = true ∧ x.port.control = [] ∧
      x.port.passDown = [9] :: [] ∧ x.port.blockRun = 8 ∧ x.nextBlock = none) := by decide +kernel

theorem witness_TransmitOrder :
    (phased .probing).port.phase = .probing ∧ (phased .down).port.phase = .down ∧
      (phased .trained).port.qualified = false ∧
      (waiting (.inventoryRequest false) .idle).port.control = .inventoryRequest false :: [] ∧
      (holding.bay 0).nextBlock = some ⟨127, 1, 0, 4⟩ ∧ (holding.bay 0).port.passDown = [] ∧
      (linked true .serving none).nextBlock = none ∧
      (linked true .serving none).port.control = [] := by decide +kernel

end Sys2Proof.Tests
end

/-! SUPPORT and PROOFS. Requests answered, the reading requests, and valid frames that find nothing
to act on (01, 03, 05, 07, 08). -/

namespace Sys2Proof.Machine

/-! ### Requests answered (08 R149) -/

/-- An index in a request that names nothing. -/
theorem idx_eq_none {n k : Nat} (h : n ≤ k) : idx n k = none := by
  simp [idx, Nat.not_lt.mpr h]

/-- An index in a request that names a place of its table. -/
theorem idx_eq_some {n k : Nat} {i : Fin n} (h : k = i.val) : idx n k = some i := by
  simp [h]

section Served
variable {s : State} {q : QueuedRequest} {rest : List QueuedRequest}
  {handle : State → Request → Option Answer}

/-- A served request that its handler answers DONE. -/
theorem State.execute_done {t : State} {body : List Byte} (h : s.serves q rest)
    (h1 : handle (s.taken rest) q.request = some (t.done body)) (h2 : t.uplink = s.uplink) :
    s.execute handle = t.replied q .done body :=
  State.execute_serves s q rest handle _ h h1 h2

/-- A served request that its handler refuses with another code than MALFORMED. -/
theorem State.execute_refused {c : Code} (h : s.serves q rest)
    (h1 : handle (s.taken rest) q.request = some ((s.taken rest).refuse c)) (h2 : c ≠ .malformed) :
    s.execute handle = (s.taken rest).replied q c [] := by
  rw [State.execute_serves s q rest handle _ h h1 rfl]
  simp [State.refuse, h2]

/-- A served request that its handler finds MALFORMED is counted (08 R165). -/
theorem State.execute_malformed (h : s.serves q rest)
    (h1 : handle (s.taken rest) q.request = some ((s.taken rest).refuse .malformed)) :
    s.execute handle = ((s.taken rest).count .answeredMalformed).replied q .malformed [] := by
  rw [State.execute_serves s q rest handle _ h h1 rfl]
  simp [State.refuse]

/-- A served request that reads the place of a table that an index names. -/
theorem State.execute_read {n k : Nat} {body : Fin n → List Byte} (h : s.serves q rest)
    (h1 : handle (s.taken rest) q.request = some ((idx n k).elim ((s.taken rest).refuse .noSuch)
      fun i => (s.taken rest).done (body i))) :
    (∀ i : Fin n, k = i.val →
      Host.Outcome.next (s.execute handle) =
        (.next ((s.taken rest).replied q .done (body i)) : Result)) ∧
    (n ≤ k → Host.Outcome.next (s.execute handle) =
      (.next ((s.taken rest).replied q .noSuch []) : Result)) := by
  refine ⟨fun i hi => congrArg _ (State.execute_done h ?_ rfl),
    fun hk => congrArg _ (State.execute_refused h ?_ (by decide))⟩
  · rw [h1, idx_eq_some hi]; rfl
  · rw [h1, idx_eq_none hk]; rfl

end Served

/-! ### The reading requests -/

/-- Settles O15: each reading request's handler answers from the state that the request has left,
and that state reads as before in everything but the request queue. -/
theorem readsOnlyAnswer : Obligations.ReadsOnlyAnswer := by
  intro s q rest hs
  have answers : ∀ {handle : State → Request → Option Answer} {body : List Byte},
      handle (s.taken rest) q.request = some ((s.taken rest).done body) →
      Host.Outcome.next (s.execute handle) =
        (.next ((s.taken rest).replied q .done body) : Result) :=
    fun h => congrArg _ (State.execute_done hs h rfl)
  have noSuch : ∀ {handle : State → Request → Option Answer},
      handle (s.taken rest) q.request = some ((s.taken rest).refuse .noSuch) →
      Host.Outcome.next (s.execute handle) =
        (.next ((s.taken rest).replied q .noSuch []) : Result) :=
    fun h => congrArg _ (State.execute_refused hs h (by decide))
  refine ⟨?status, ?config, ?badConfig, ?entry, ?bay, ?job, ?inventory, ?resume⟩
  case status => exact fun hq => answers (by rw [hq]; rfl)
  case config =>
    intro code bay p hq hp
    refine answers ?_
    rw [hq]
    simp only [handleReadConfig, State.readConfig, hp, settingBody]
    rfl
  case badConfig =>
    refine fun code bay hq => ⟨fun hp => congrArg _ (State.execute_malformed hs ?_),
      fun hp => noSuch ?_⟩ <;> simp [hq, handleReadConfig, State.readConfig, hp]
  case entry =>
    refine fun x hq => State.execute_read (k := x.toNat) (body := s.entryBody) hs ?_
    simp only [hq, handleReadEntry, State.readEntry]
    cases idx 64 x.toNat <;> rfl
  case bay =>
    refine fun x hq => State.execute_read (k := x.toNat) (body := s.bayBody) hs ?_
    simp only [hq, handleReadBay, State.readBay]
    cases idx 16 x.toNat <;> rfl
  case job =>
    refine fun x y hq => ⟨fun b p hb hp => answers ?_, fun hxy => noSuch ?_⟩
    · simp only [hq, handleReadJob, State.readJob, idx_eq_some hb, idx_eq_some hp]; rfl
    · simp only [hq, handleReadJob, State.readJob]
      rcases hxy with hx | hy
      · rw [idx_eq_none hx]
      · rw [idx_eq_none hy]
        split <;> simp_all
  case inventory =>
    refine fun x hq => State.execute_read (k := x.toNat) (body := s.inventoryBody) hs ?_
    simp only [hq, handleReadInventory, State.readInventory]
    cases idx 16 x.toNat <;> rfl
  case resume =>
    refine fun x hq => State.execute_read (k := x.toNat) (body := s.resumeBody) hs ?_
    simp only [hq, handleReadResume, State.readResume]
    cases idx 32 x.toNat <;> rfl

/-! ### Frames that find nothing to act on -/

/-- A heard frame that is only counted. -/
theorem State.receive_counted (s : State) (b : BayId) (take : State → State) (c : BayCounter)
    (h : s.hears b) (h1 : ∀ t : State, t = s.setBay b ((s.bay b).heard s.config.threshold) →
      take t = t.bump b c) :
    s.receive b take = s.setBay b (((s.bay b).heard s.config.threshold).counted c) := by
  rw [State.receive_hears s b take h, h1 _ rfl]
  simp [Bay.counted]

/-- Which job a frame answers is read off the bay's channels and jobs, which hearing it leaves. -/
@[simp] theorem State.answered_heard (s : State) (b : BayId) (n : Nat) (channel tag : Byte) :
    (s.setBay b ((s.bay b).heard n)).answered b channel tag = s.answered b channel tag := by
  simp [State.answered, State.held?, State.channel, State.job]

theorem State.takeOpenAck_stale (s : State) (b : BayId) (f : OpenAckFrame)
    (h : ∀ c p j, s.answered b f.channel f.tag = some (c, p, j) → j.state ≠ .opening) :
    s.takeOpenAck b f = s.bump b .staleControlAnswers := by
  unfold State.takeOpenAck
  split
  · rfl
  · next c p j e => rw [if_neg (h c p j e)]

theorem State.takeCloseResult_stale (s : State) (b : BayId) (f : CloseResultFrame)
    (h : ∀ c p j, s.answered b f.channel f.tag = some (c, p, j) → j.state ≠ .closing) :
    s.takeCloseResult b f = s.bump b .staleControlAnswers := by
  unfold State.takeCloseResult
  split
  · rfl
  · next c p j e => rw [if_neg (h c p j e)]

theorem State.takeReceipt_noJob (s : State) (b : BayId) (f : ReceiptFrame)
    (h : s.answered b f.channel f.tag = none) :
    s.takeReceipt b f = s.bump b .receiptsForNoJob := by
  unfold State.takeReceipt
  rw [h]

/-- 01 R16: an INVENTORY is taken in SERVING, and in INTAKE for a vehicle held, alone. -/
theorem State.takeInventory_discarded (s : State) (b : BayId) (items : List InventoryItem)
    (h : (s.bay b).ctl.state ≠ .serving)
    (h1 : (s.bay b).ctl.state = .intake → (s.bay b).ctl.vehicle = none) :
    s.takeInventory b items = s.bump b .inventoryFramesDiscarded := by
  unfold State.takeInventory
  dsimp only
  split
  · next e => simp [h1 e]
  · next e => exact absurd e h
  all_goals rfl

/-- 05 R94: a report in a state that takes none, or of a unit that the inventory does not hold. -/
theorem State.judgeReport_discarded (s : State) (b : BayId) (f : UnitReportFrame)
    (h : (s.bay b).ctl.state.takesReports = false ∨
      ∀ r ∈ (s.bay b).inventory, r.unit.val ≠ f.unit.toNat) :
    s.judgeReport b f = s.bump b .unitReportsDiscarded := by
  unfold State.judgeReport
  rcases h with h | h
  · simp [h]
  · have hn : ((idx 64 f.unit.toNat).bind fun u => ((s.bay b).unit? u).map fun _ => u) = none := by
      cases hu : idx 64 f.unit.toNat with
      | none => rfl
      | some u =>
        have hv : u.val = f.unit.toNat := by
          unfold idx at hu
          split at hu
          · cases hu; rfl
          · cases hu
        have hr : (s.bay b).unit? u = none := by
          simp only [Bay.unit?, List.find?_eq_none, decide_eq_true_eq]
          exact fun r hr e => h r hr (e ▸ hv)
        simp [hr]
    rw [hn]
    exact ite_self _

/-- Settles O46: the port has heard the frame, and the operation that takes it finds nothing. -/
theorem framesDiscardedCounted : Obligations.FramesDiscardedCounted := by
  refine ⟨fun s b hb => ⟨?openAck, ?closeResult, ?receipt⟩, ?inventory, ?report⟩
  case openAck =>
    refine fun f h => congrArg _ (State.receive_counted s b _ _ hb ?_)
    rintro t rfl
    exact State.takeOpenAck_stale _ b f (by simpa using h)
  case closeResult =>
    intro f hf h
    have fits : f.fits = true := by simpa [CloseResultFrame.fits] using hf
    refine congrArg _ ((if_pos fits).trans (State.receive_counted s b _ _ hb ?_))
    rintro t rfl
    exact State.takeCloseResult_stale _ b f (by simpa using h)
  case receipt =>
    intro f hf hf' h
    have fits : f.fits = true := by simp [ReceiptFrame.fits, hf, hf']
    refine congrArg _ ((if_pos fits).trans (State.receive_counted s b _ _ hb ?_))
    rintro t rfl
    exact State.takeReceipt_noJob _ b f (by simpa using h)
  case inventory =>
    intro s b items hb hi h
    have fits : inventoryFits items = true := by simpa [inventoryFits] using hi
    refine congrArg _ ((if_pos fits).trans (State.receive_counted s b _ _ hb ?_))
    rintro t rfl
    apply State.takeInventory_discarded <;> rw [State.setBay_bay, Bay.heard_ctl]
    · rcases h with h | h | h | ⟨h, -⟩ <;> simp [h]
    · rcases h with h | h | h | ⟨-, h⟩ <;> simp [h]
  case report =>
    refine fun s b f hb h => congrArg _ (State.receive_counted s b _ _ hb ?_)
    rintro t rfl
    exact State.judgeReport_discarded _ b f (by simpa using h)

end Sys2Proof.Machine

namespace Sys2Proof.Machine

/-! SUPPORT and PROOFS. WRITE ENTRY and RELEASE ENTRY, on what the builder and the work on jobs
leave as they were.

Two frames: the state with the parts that an operation may change put to their power-on values. An
operation that keeps a frame keeps every field that the frame does not blank. -/

/-- What a builder run cannot change: everything but the bays, the resume records that new jobs
take, and the count of those (01 R18, 07 R143). -/
def State.builderFrame (s : State) : State :=
  { s with bays := State.reset.bays, resume := State.reset.resume,
           counters := State.reset.counters }

/-- What the end of a job cannot change either: it also frees slots, has streams judged and posts
JOB END (03 R51). -/
def State.jobFrame (s : State) : State :=
  { s.builderFrame with streams := State.reset.streams, due := State.reset.due,
                        pool := State.reset.pool, notices := State.reset.notices }

/-- The job frame is the smaller one. -/
theorem State.jobFrame_of_builderFrame {s t : State} (h : t.builderFrame = s.builderFrame) :
    t.jobFrame = s.jobFrame := by
  simp only [State.jobFrame, h]

/-- What stays where the job frame stays. -/
theorem State.fields_of_jobFrame {s t : State} (h : t.jobFrame = s.jobFrame) :
    t.manifest = s.manifest ∧ t.config = s.config ∧ t.departures = s.departures ∧
      t.mgmt = s.mgmt ∧ t.uplink = s.uplink ∧ t.clock = s.clock := by
  have keep {α : Type} (g : State → α) : g t.jobFrame = g s.jobFrame := congrArg g h
  exact ⟨keep State.manifest, keep State.config, keep State.departures, keep State.mgmt,
    keep State.uplink, keep State.clock⟩

/-- What stays besides where the builder frame stays. -/
theorem State.blocks_of_builderFrame {s t : State} (h : t.builderFrame = s.builderFrame) :
    t.streams = s.streams ∧ t.pool = s.pool := by
  have keep {α : Type} (g : State → α) : g t.builderFrame = g s.builderFrame := congrArg g h
  exact ⟨keep State.streams, keep State.pool⟩

/-- A walk over the bays keeps what each of its steps keeps. -/
theorem State.forBays_keeps {β : Type} (g : State → β) (f : BayId → State → State) (s : State)
    (h : ∀ b t, g (f b t) = g t) : g (s.forBays f) = g s :=
  foldl_keeps g (fun t b => f b t) (fun t b => h b t) allBays s

/-- A walk over the bays keeps an invariant of its steps. -/
theorem State.forBays_inv (P : State → Prop) (f : BayId → State → State) (s : State)
    (h : ∀ b t, P t → P (f b t)) (hs : P s) : P (s.forBays f) :=
  foldl_inv P (fun t b => f b t) (fun t b => h b t) allBays s hs

@[simp] theorem State.setBay_builderFrame (s : State) (b : BayId) (x : Bay) :
    (s.setBay b x).builderFrame = s.builderFrame := rfl

@[simp] theorem State.placeControl_builderFrame (s : State) (b : BayId) (f : ControlFrame) :
    (s.placeControl b f).builderFrame = s.builderFrame := rfl

@[simp] theorem State.enterOpening_builderFrame (s : State) (b : BayId) (c : ChannelId) (p : Place)
    (j : Job) : (s.enterOpening b c p j).builderFrame = s.builderFrame := by
  simp [State.enterOpening]

@[simp] theorem State.assign_builderFrame (s : State) (b : BayId) :
    (s.assign b).builderFrame = s.builderFrame := by
  have fuel : ∀ (n : Nat) (s : State), (State.assigns n b s).builderFrame = s.builderFrame := by
    intro n
    induction n with
    | zero => exact fun _ => rfl
    | succ n ih =>
      intro s
      unfold State.assigns
      split
      · split
        · rw [ih, State.enterOpening_builderFrame]
        · rfl
      · rfl
  exact fuel 4 s

/-- What a look can do: nothing, or the selection of a unit with its ACTIVATE (05 R92). -/
theorem State.look_cases (s : State) (b : BayId) :
    s.look b = s ∨ ∃ a f, s.look b = (s.setActivation b a).placeControl b f := by
  unfold State.look
  split
  · split
    · exact .inl rfl
    · exact .inr ⟨_, _, rfl⟩
  all_goals exact .inl rfl

@[simp] theorem State.look_builderFrame (s : State) (b : BayId) :
    (s.look b).builderFrame = s.builderFrame := by
  rcases s.look_cases b with h | ⟨a, f, h⟩ <;> simp [h]

/-- Taking a resume record removes it from its table and counts, and changes nothing else
(07 R143). -/
theorem State.takeResume_cases (s : State) (v : Option Word) (i : Identity) :
    (s.takeResume v i).2 = s ∨
      ∃ p, (s.takeResume v i).2 =
        ({ s with resume := s.resume.remove p }).count .resumeRestored := by
  unfold State.takeResume
  split
  · exact .inl rfl
  · split
    · exact .inl rfl
    · exact .inr ⟨_, rfl⟩

@[simp] theorem State.takeResume_bays (s : State) (v : Option Word) (i : Identity) :
    (s.takeResume v i).2.bays = s.bays := by
  rcases s.takeResume_cases v i with h | ⟨p, h⟩
  · rw [h]
  · rw [h]; rfl

@[simp] theorem State.takeResume_builderFrame (s : State) (v : Option Word) (i : Identity) :
    (s.takeResume v i).2.builderFrame = s.builderFrame := by
  rcases s.takeResume_cases v i with h | ⟨p, h⟩
  · rw [h]
  · rw [h]; rfl

/-- A unit's records name the place of its job (01 R19, R20). -/
def referTo (u : UnitAddr) (p : Place) (l : List UnitRecord) : List UnitRecord :=
  l.map fun r => if r.unit = u then { r with job := some p } else r

/-- A bay with a job created in a place for a unit (01 R21). -/
def Bay.created (x : Bay) (p : Place) (u : UnitAddr) (j : Job) : Bay :=
  { x with jobs := x.jobs.set p (some j), endOrder := x.endOrder.filter (· ≠ p),
           inventory := referTo u p x.inventory }

/-- A bay with a member added to the job in a place (01 R19, R20). -/
def Bay.joined (x : Bay) (p : Place) (m : Member) : Bay :=
  { x with jobs := x.jobs.modify p (Option.map fun j => { j with members := j.members ++ [m] }),
           inventory := referTo m.unit p x.inventory }

theorem State.addMember_eq (s : State) (b : BayId) (p : Place) (u : UnitAddr) (st : UnitState)
    (i : EntryId) :
    s.addMember b p u st i = s.setBay b ((s.bay b).joined p ⟨u, st, some i⟩) := by
  simp [State.addMember, Bay.joined, referTo]

/-- The one member of a new job is the one it is made for. -/
theorem newJob_members (st : StreamId) (ident : Identity) (staged : Bool) (m : Member)
    (r : Option ResumeRecord) : (newJob st ident staged m r).members = [m] := by
  unfold newJob
  split
  · rfl
  · split <;> rfl

/-- What the creation of a job can do: nothing where no place is left, and otherwise a job of one
member, linked to the entry, in the new place (01 R21). -/
theorem State.createJob_cases (s : State) (b : BayId) (u : UnitAddr) (i : EntryId)
    (staged : Bool) :
    s.createJob b u i staged = s ∨
      ∃ (p : Place) (j : Job) (t : State), (s.bay b).newPlace = some p ∧
        (∀ m ∈ j.members, m.link = some i) ∧ t.bays = s.bays ∧ t.builderFrame = s.builderFrame ∧
        s.createJob b u i staged = t.setBay b ((s.bay b).created p u j) := by
  unfold State.createJob
  split
  · exact .inl rfl
  · next p h =>
    let ident := s.identityOf (s.entry i).fields
    let taken := s.takeResume (s.bay b).ctl.vehicle ident
    have e : taken.2.bay b = s.bay b := by simp [taken, State.bay]
    refine .inr ⟨p, newJob (s.entry i).fields.stream ident staged
      ⟨u, if staged then .staged else .pending, some i⟩ taken.1, taken.2, h, ?_,
      State.takeResume_bays .., State.takeResume_builderFrame .., ?_⟩
    · simp [newJob_members]
    · simp [Bay.created, referTo, taken, ident, e]

/-- What placing a unit can do: nothing, a job for its governing entry, or membership in a job that
its bay has, linked to that entry (01 R19, R20). -/
theorem State.placeUnit_cases (s : State) (b : BayId) (r : UnitRecord) (staged : Bool) :
    s.placeUnit b r staged = s ∨ ∃ i, s.governing r.key = some i ∧
      (s.placeUnit b r staged = s.createJob b r.unit i staged ∨
        ∃ p st, s.placeUnit b r staged = s.addMember b p r.unit st i) := by
  unfold State.placeUnit
  split
  · exact .inl rfl
  · next i h =>
    dsimp only
    split
    · exact .inr ⟨i, h, .inl rfl⟩
    · next p j _ =>
      split
      · split
        · exact .inr ⟨i, h, .inr ⟨p, _, rfl⟩⟩
        · exact .inl rfl
      · split
        · exact .inr ⟨i, h, .inr ⟨p, _, rfl⟩⟩
        · exact .inl rfl

@[simp] theorem State.placeUnit_builderFrame (s : State) (b : BayId) (r : UnitRecord)
    (staged : Bool) : (s.placeUnit b r staged).builderFrame = s.builderFrame := by
  rcases s.placeUnit_cases b r staged with h | ⟨i, -, h | ⟨p, st, h⟩⟩
  · rw [h]
  · rcases s.createJob_cases b r.unit i staged with g | ⟨p, j, t, -, -, -, ht, g⟩
    · rw [h, g]
    · rw [h, g, State.setBay_builderFrame, ht]
  · rw [h, State.addMember_eq, State.setBay_builderFrame]

@[simp] theorem State.placeAll_builderFrame (s : State) (b : BayId) (d : Disposition)
    (staged : Bool) : (s.placeAll b d staged).builderFrame = s.builderFrame :=
  foldl_keeps State.builderFrame (fun t r => t.placeUnit b r staged) (fun _ _ => by simp) _ s

@[simp] theorem State.build_builderFrame (s : State) (b : BayId) :
    (s.build b).builderFrame = s.builderFrame := by
  unfold State.build
  split
  · simp [State.passes, State.disposeAll]
  · rfl

@[simp] theorem State.buildAll_builderFrame (s : State) :
    s.buildAll.builderFrame = s.builderFrame :=
  State.forBays_keeps State.builderFrame _ s fun b t => t.build_builderFrame b

@[simp] theorem State.lookAll_builderFrame (s : State) :
    s.lookAll.builderFrame = s.builderFrame :=
  State.forBays_keeps State.builderFrame _ s fun b t => t.look_builderFrame b

/-! ## Writing and releasing an entry (01 R4, R5, R9) -/

/-- A look leaves every bay's jobs and inventory. -/
theorem State.look_keeps (s : State) (b a : BayId) :
    ((s.look b).bay a).jobs = (s.bay a).jobs ∧
      ((s.look b).bay a).inventory = (s.bay a).inventory := by
  rcases s.look_cases b with h | ⟨y, f, h⟩
  · rw [h]; exact ⟨rfl, rfl⟩
  · by_cases e : b = a
    · subst e; simp [h, State.placeControl]
    · simp [h, State.placeControl, State.setBay_bay_ne _ _ e]

theorem State.lookAll_keeps (s : State) (a : BayId) :
    (s.lookAll.bay a).jobs = (s.bay a).jobs ∧
      (s.lookAll.bay a).inventory = (s.bay a).inventory :=
  s.forBays_inv
    (fun t => (t.bay a).jobs = (s.bay a).jobs ∧ (t.bay a).inventory = (s.bay a).inventory) _
    (fun b t h => ⟨(t.look_keeps b a).1.trans h.1, (t.look_keeps b a).2.trans h.2⟩) ⟨rfl, rfl⟩

/-- WRITE ENTRY as the management unit executes it, once entry and stream are found (01 R4). -/
theorem State.writeEntry_eq (s : State) {x y : Byte} {i : EntryId} {st : StreamId}
    (hx : x.toNat = i.val) (hy : y.toNat = st.val) (flags : Byte)
    (base mask target check : Word) :
    s.writeEntry x y flags base mask target check =
      if (s.stream st).isOpen = false then s.refuse .wrongState
      else if s.writeConflicts i (writtenFields st flags base mask target check) then
        s.refuse .conflict
      else s.applyWrite i (writtenFields st flags base mask target check) := by
  simp only [State.writeEntry, idx_eq_some hx, idx_eq_some hy]

/-- A WRITE ENTRY that names no entry or no stream. -/
theorem State.writeEntry_noSuch (s : State) {x y : Byte} (h : 64 ≤ x.toNat ∨ 16 ≤ y.toNat)
    (flags : Byte) (base mask target check : Word) :
    s.writeEntry x y flags base mask target check = s.refuse .noSuch := by
  unfold State.writeEntry
  split
  · next i st hi hst =>
    rcases h with h | h
    · simp [idx_eq_none h] at hi
    · simp [idx_eq_none h] at hst
  · rfl

/-- Settles O18: WRITE ENTRY's checks in their order, and the builder frame for what its own run and
the looks of a release leave. -/
theorem entriesWrittenAndReleased : Obligations.EntriesWrittenAndReleased := by
  refine ⟨fun s q rest x i hs hx => ⟨?write, fun hq => ⟨fun ha => ?release, fun ha => ?empty⟩⟩,
    fun s q rest x hs => ⟨fun hq hx => ?noEntry,
      fun y flags base mask target check hq h => ?noWrite⟩⟩
  case write =>
    intro y flags st base mask target check f hq hy hf
    obtain rfl : f = writtenFields st flags base mask target check := hf
    have handled : handleWriteEntry (s.taken rest) q.request =
        some (if (s.stream st).isOpen = false then (s.taken rest).refuse .wrongState
          else if s.writeConflicts i (writtenFields st flags base mask target check) then
            (s.taken rest).refuse .conflict
          else (s.taken rest).applyWrite i (writtenFields st flags base mask target check)) := by
      rw [hq]
      exact congrArg some (State.writeEntry_eq _ hx hy flags base mask target check)
    refine ⟨fun ho => ?_, fun ho hc => ?_, fun ho hc ha hl => ?_, fun ho hc ha => ?_⟩
    · rw [if_pos ho] at handled
      exact congrArg _ (State.execute_refused hs handled (by decide))
    · rw [if_neg (by simp [ho]), if_pos hc] at handled
      exact congrArg _ (State.execute_refused hs handled (by decide))
    · rw [if_neg (by simp [ho]), if_neg (by simp [hc]), State.applyWrite,
        if_pos ⟨ha, hl⟩] at handled
      exact congrArg _ (State.execute_done hs handled rfl)
    · have now : ¬ (((s.taken rest).entry i).active = true ∧ (s.taken rest).liveCount i ≠ 0) :=
        fun ⟨h1, h2⟩ => ha.elim (fun h => Bool.false_ne_true (h.symm.trans h1)) h2
      rw [if_neg (by simp [ho]), if_neg (by simp [hc]), State.applyWrite, if_neg now] at handled
      have frame := State.buildAll_builderFrame ((s.taken rest).modEntry i fun _ =>
        Entry.written (writtenFields st flags base mask target check))
      obtain ⟨hman, hcfg, hdep, hmgmt, hup, hclk⟩ :=
        State.fields_of_jobFrame (State.jobFrame_of_builderFrame frame)
      obtain ⟨hstr, hpool⟩ := State.blocks_of_builderFrame frame
      exact ⟨_, congrArg _ (State.execute_done hs handled hup),
        hman, hstr, hpool, hcfg, hdep, hmgmt, hup, hclk⟩
  case release =>
    have frame := State.lookAll_builderFrame ((s.taken rest).modEntry i fun e =>
      { e with released := true })
    obtain ⟨hman, hcfg, hdep, hmgmt, hup, hclk⟩ :=
      State.fields_of_jobFrame (State.jobFrame_of_builderFrame frame)
    obtain ⟨hstr, hpool⟩ := State.blocks_of_builderFrame frame
    refine ⟨_, congrArg _ (State.execute_done hs ?_ hup),
      hman, fun b => State.lookAll_keeps _ b, hstr, hpool, hcfg, hdep, hmgmt, hup, hclk⟩
    simp only [hq, handleReleaseEntry, State.releaseEntry, idx_eq_some hx]
    exact congrArg some (if_pos ha)
  case empty =>
    refine congrArg _ (State.execute_refused hs ?_ (by decide))
    simp only [hq, handleReleaseEntry, State.releaseEntry, idx_eq_some hx]
    exact congrArg some (if_neg (Bool.eq_false_iff.mp ha))
  case noEntry =>
    refine congrArg _ (State.execute_refused hs ?_ (by decide))
    simp only [hq, handleReleaseEntry, State.releaseEntry, idx_eq_none hx]
  case noWrite =>
    refine congrArg _ (State.execute_refused hs ?_ (by decide))
    simp only [hq, handleWriteEntry, State.writeEntry_noSuch _ h]

end Sys2Proof.Machine

namespace Sys2Proof.Machine

/-! SUPPORT. What the work of a transfer leaves of a bay's lists. -/

/-- A cell changed in a way that a view does not show. -/
theorem Table.map_modify {n : Nat} {α β : Type} (t : Table n α) (i : Fin n) (f : α → α) (g : α → β)
    (h : ∀ a, g (f a) = g a) : (t.modify i f).map g = t.map g := by
  apply Table.ext_get
  intro k
  by_cases e : i = k
  · subst e; simp [h]
  · simp [e]

/-- Jobs changed but for their members show the same members. -/
theorem members_modify (t : Table 8 (Option Job)) (p : Place) (f : Job → Job)
    (h : ∀ j, (f j).members = j.members) :
    (t.modify p (Option.map f)).map (Option.map Job.members) = t.map (Option.map Job.members) :=
  Table.map_modify t p _ _ fun o => by cases o <;> simp [h]

/-- What of a bay no work of a transfer changes: its controller, its inventory, and the members of
its jobs. -/
def Bay.lists (x : Bay) : Controller × List UnitRecord × Table 8 (Option (List Member)) :=
  (x.ctl, x.inventory, x.jobs.map (Option.map Job.members))

/-- The same of every bay. -/
def State.lists (s : State) :
    Table 16 (Controller × List UnitRecord × Table 8 (Option (List Member))) :=
  s.bays.map Bay.lists

@[simp] theorem State.lists_get (s : State) (b : BayId) : s.lists.get b = (s.bay b).lists :=
  Table.get_map ..

theorem State.lists_eq_iff {s t : State} :
    t.lists = s.lists ↔ ∀ b, (t.bay b).lists = (s.bay b).lists := by
  simp only [← State.lists_get]
  exact ⟨fun h b => by rw [h], Table.ext_get⟩

theorem State.lists_of_bays {s t : State} (h : t.bays = s.bays) : t.lists = s.lists :=
  congrArg (Table.map Bay.lists) h

theorem State.setBay_lists {s : State} {b : BayId} {x : Bay} (h : x.lists = (s.bay b).lists) :
    (s.setBay b x).lists = s.lists := by
  refine State.lists_eq_iff.mpr fun a => ?_
  by_cases e : b = a
  · subst e; rw [State.setBay_bay, h]
  · rw [State.setBay_bay_ne s x e]

/-! ## The outline: what the transfer and the assignment of channels leave -/

/-- The job frame together with the lists of the bays. -/
def State.outline (s : State) :
    State × Table 16 (Controller × List UnitRecord × Table 8 (Option (List Member))) :=
  (s.jobFrame, s.lists)

theorem State.outline_eq {s t : State} (h : t.jobFrame = s.jobFrame) (hb : t.lists = s.lists) :
    t.outline = s.outline := Prod.ext h hb

theorem State.jobFrame_of_outline {s t : State} (h : t.outline = s.outline) :
    t.jobFrame = s.jobFrame := congrArg Prod.fst h

theorem State.lists_of_outline {s t : State} (h : t.outline = s.outline) :
    t.lists = s.lists := congrArg Prod.snd h

theorem State.setBay_outline {s : State} {b : BayId} {x : Bay} (h : x.lists = (s.bay b).lists) :
    (s.setBay b x).outline = s.outline :=
  State.outline_eq rfl (State.setBay_lists h)

@[simp] theorem State.leaveSlot_outline (s : State) (b : BayId) (sl : SlotId) :
    (s.leaveSlot b sl).outline = s.outline :=
  State.outline_eq (by simp [State.jobFrame, State.builderFrame])
    (State.lists_of_bays (State.leaveSlot_bays ..))

@[simp] theorem State.judgeMoved_outline (s before : State) (l : List BayId) (st : StreamId) :
    (s.judgeMoved before l st).outline = s.outline :=
  State.outline_eq (by simp [State.jobFrame, State.builderFrame])
    (State.lists_of_bays (State.judgeMoved_bays ..))

@[simp] theorem State.post_outline (s : State) (n : Notice) : (s.post n).outline = s.outline :=
  State.outline_eq (by simp [State.jobFrame, State.builderFrame])
    (State.lists_of_bays (State.post_bays ..))

@[simp] theorem State.bump_outline (s : State) (b : BayId) (k : BayCounter) :
    (s.bump b k).outline = s.outline :=
  State.setBay_outline rfl

/-- A job changed but for its members. -/
theorem State.modJob_outline (s : State) (b : BayId) (p : Place) (f : Job → Job)
    (h : ∀ j, (f j).members = j.members) : (s.modJob b p f).outline = s.outline := by
  refine State.setBay_outline ?_
  simp only [Bay.lists, members_modify _ p f h]

@[simp] theorem State.bumpIf_outline (s : State) (c : Bool) (b : BayId) (k : BayCounter) :
    (s.bumpIf c b k).outline = s.outline := by
  unfold State.bumpIf
  split
  · exact State.setBay_outline rfl
  · rfl

@[simp] theorem State.makeNeeded_outline (s : State) (b : BayId) (p : Place) (d : Nat) :
    (s.makeNeeded b p d).outline = s.outline := by
  unfold State.makeNeeded
  split
  · rfl
  · split
    · rfl
    · rw [State.bumpIf_outline, State.modJob_outline]
      exact fun _ => rfl

@[simp] theorem State.dropEntries_outline (s : State) (b : BayId) (p : TxEntry → Bool) :
    (s.dropEntries b p).outline = s.outline := by
  refine foldl_keeps State.outline (fun t e => t.dropEntry b e) (fun t e => ?_) _ s
  unfold State.dropEntry State.unqueue
  rw [State.leaveSlot_outline, State.makeNeeded_outline]
  exact State.setBay_outline rfl

@[simp] theorem State.abandonProbe_outline (s : State) (b : BayId) (c : ChannelId) :
    (s.abandonProbe b c).outline = s.outline := by
  unfold State.abandonProbe
  split
  · rfl
  · split
    · rw [State.bump_outline]
      exact State.setBay_outline rfl
    · rfl

@[simp] theorem State.modChannel_outline (s : State) (b : BayId) (c : ChannelId)
    (f : Channel → Channel) : (s.modChannel b c f).outline = s.outline :=
  State.setBay_outline rfl

@[simp] theorem State.placeControl_outline (s : State) (b : BayId) (f : ControlFrame) :
    (s.placeControl b f).outline = s.outline :=
  State.setBay_outline rfl

@[simp] theorem State.removeControl_outline (s : State) (b : BayId) (p : ControlFrame → Bool) :
    (s.removeControl b p).outline = s.outline :=
  State.setBay_outline rfl

@[simp] theorem State.clearDeferred_outline (s : State) (b : BayId) :
    (s.clearDeferred b).outline = s.outline := by
  refine State.setBay_outline ?_
  simp only [Bay.lists]
  congr 2
  apply Table.ext_get
  intro p
  simp only [Table.get_map]
  cases (s.bay b).jobs.get p <;> rfl

@[simp] theorem State.freeChannel_outline (s : State) (b : BayId) (c : ChannelId) (p : Place) :
    (s.freeChannel b c p).outline = s.outline := by
  unfold State.freeChannel
  split
  · next ch j _ _ =>
    dsimp only
    rw [State.clearDeferred_outline, State.removeControl_outline, State.modJob_outline,
      State.modChannel_outline, foldl_keeps State.outline, State.abandonProbe_outline,
      State.modChannel_outline]
    · exact fun t f => t.makeNeeded_outline b p _
    · exact fun _ => rfl
  · rfl

@[simp] theorem State.freeJobChannel_outline (s : State) (b : BayId) (p : Place) :
    (s.freeJobChannel b p).outline = s.outline := by
  unfold State.freeJobChannel
  split
  · rfl
  · split
    · rfl
    · exact State.freeChannel_outline ..

@[simp] theorem State.leaveTransfer_outline (s : State) (b : BayId) (p : Place) (j : Job) :
    (s.leaveTransfer b p j).outline = s.outline := by
  unfold State.leaveTransfer
  rw [State.judgeMoved_outline, State.modJob_outline,
    State.freeJobChannel_outline, State.dropEntries_outline]
  exact fun _ => rfl

@[simp] theorem State.enterOpening_outline (s : State) (b : BayId) (c : ChannelId) (p : Place)
    (j : Job) : (s.enterOpening b c p j).outline = s.outline := by
  unfold State.enterOpening
  dsimp only
  rw [State.placeControl_outline, State.modChannel_outline, State.modJob_outline]
  · exact State.setBay_outline rfl
  · exact fun _ => rfl

@[simp] theorem State.assign_outline (s : State) (b : BayId) :
    (s.assign b).outline = s.outline := by
  have fuel : ∀ (n : Nat) (s : State), (State.assigns n b s).outline = s.outline := by
    intro n
    induction n with
    | zero => exact fun _ => rfl
    | succ n ih =>
      intro s
      unfold State.assigns
      split
      · split
        · rw [ih, State.enterOpening_outline]
        · rfl
      · rfl
  exact fuel 4 s

@[simp] theorem State.look_outline (s : State) (b : BayId) : (s.look b).outline = s.outline := by
  rcases s.look_cases b with h | ⟨a, f, h⟩
  · rw [h]
  · rw [h, State.placeControl_outline]
    exact State.setBay_outline rfl

end Sys2Proof.Machine

namespace Sys2Proof.Machine

/-! SUPPORT. What the ends of jobs and the cancellations of a withdrawal leave of the bays. -/

/-! ## The roster: what the ends of jobs leave (03 R51, R53) -/

/-- What of a bay the ends of its jobs keep: its controller, the number of its unit records, and the
unit and state of each member in each place. -/
def Bay.roster (x : Bay) : Controller × Nat × Table 8 (Option (List (UnitAddr × UnitState))) :=
  (x.ctl, x.inventory.length,
    x.jobs.map (Option.map fun j => j.members.map fun m => (m.unit, m.state)))

/-- No member of a bay's jobs is linked to an entry. -/
def Bay.unlinked (x : Bay) (i : EntryId) : Prop :=
  ∀ p j, x.jobs.get p = some j → ∀ m ∈ j.members, m.link ≠ some i

/-- Bays with the same lists have the same members in each place. -/
theorem Bay.members_of_lists {x y : Bay} (h : y.lists = x.lists) (p : Place) :
    (y.jobs.get p).map Job.members = (x.jobs.get p).map Job.members := by
  have e : y.lists.2.2.get p = x.lists.2.2.get p := by rw [h]
  simpa [Bay.lists] using e

theorem Bay.roster_of_lists {x y : Bay} (h : y.lists = x.lists) : y.roster = x.roster := by
  have hc : y.ctl = x.ctl := congrArg Prod.fst h
  have hi : y.inventory = x.inventory := congrArg (·.2.1) h
  have hm : ∀ z : Bay, (z.jobs.map (Option.map fun j => j.members.map fun m => (m.unit, m.state))) =
      z.lists.2.2.map (Option.map (List.map fun m => (m.unit, m.state))) := fun z =>
    Table.ext_get fun p => by simp [Bay.lists, Function.comp_def]
  simp only [Bay.roster, hm, h, hc, hi]

theorem Bay.unlinked_of_lists {x y : Bay} {i : EntryId} (h : y.lists = x.lists)
    (hx : x.unlinked i) : y.unlinked i := by
  intro p j hj m hm
  have e := Bay.members_of_lists h p
  rw [hj] at e
  obtain ⟨k, hk, hkm⟩ := Option.map_eq_some_iff.mp e.symm
  exact hx p k hk m (hkm ▸ hm)

/-- A step that may end jobs, and otherwise leaves the job frame, the rosters, and the entries that
no member of a bay is linked to. -/
structure State.windsDown (s t : State) : Prop where
  frame : t.jobFrame = s.jobFrame
  roster : ∀ a, (t.bay a).roster = (s.bay a).roster
  links : ∀ a i, (s.bay a).unlinked i → (t.bay a).unlinked i

theorem State.windsDown.refl (s : State) : s.windsDown s := ⟨rfl, fun _ => rfl, fun _ _ h => h⟩

theorem State.windsDown.trans {s t u : State} (h : s.windsDown t) (g : t.windsDown u) :
    s.windsDown u :=
  ⟨g.frame.trans h.frame, fun a => (g.roster a).trans (h.roster a),
    fun a i e => g.links a i (h.links a i e)⟩

theorem State.windsDown_of_outline {s t : State} (h : t.outline = s.outline) : s.windsDown t := by
  have hl := State.lists_eq_iff.mp (State.lists_of_outline h)
  exact ⟨State.jobFrame_of_outline h, fun a => Bay.roster_of_lists (hl a),
    fun a i => Bay.unlinked_of_lists (hl a)⟩

theorem State.windsDown_setBay {s : State} {b : BayId} {x : Bay}
    (hr : x.roster = (s.bay b).roster) (hl : ∀ i, (s.bay b).unlinked i → x.unlinked i) :
    s.windsDown (s.setBay b x) := by
  refine ⟨rfl, fun a => ?_, fun a i h => ?_⟩
  all_goals
    by_cases e : b = a
    · subst e; simp_all
    · simp_all [State.setBay_bay_ne _ _ e]

/-- The record of a job that ends: the links of its members go (log 9). -/
theorem State.windsDown_ended (s : State) (b : BayId) (p : Place) (f : Job → Job)
    (h : ∀ j, (f j).members = j.members.map fun m => { m with link := none }) :
    s.windsDown (s.modJob b p f) := by
  refine State.windsDown_setBay ?_ ?_
  · have e : (s.bay b).jobs.map (Option.map fun j => j.members.map fun m => (m.unit, m.state)) =
        ((s.bay b).jobs.modify p (Option.map f)).map
          (Option.map fun j => j.members.map fun m => (m.unit, m.state)) :=
      (Table.map_modify _ _ _ _ fun o => by cases o <;> simp [h]).symm
    simp only [Bay.roster, e]
  · intro i hi q j hj m hm
    by_cases e : p = q
    · subst e
      simp only [Table.get_modify_self, Option.map_eq_some_iff] at hj
      obtain ⟨k, -, rfl⟩ := hj
      rw [h] at hm
      obtain ⟨n, -, rfl⟩ := List.mem_map.mp hm
      simp
    · rw [Table.get_modify_ne _ _ e] at hj
      exact hi q j hj m hm

theorem State.windsDown_dropReferences (s : State) (b : BayId) (p : Place) :
    s.windsDown (s.dropReferences b p) :=
  State.windsDown_setBay (by simp [Bay.roster]) fun _ h => h

theorem State.windsDown_endJob (s : State) (b : BayId) (p : Place) :
    s.windsDown (s.endJob b p) := by
  unfold State.endJob
  split
  · exact .refl s
  · next j _ =>
    have given : ((s.dropEntries b (·.place = p)).freeJobChannel b p).outline = s.outline := by simp
    refine (State.windsDown_of_outline given).trans (((State.windsDown_ended _ b p (fun k =>
      { k with state := k.outcome, endTime := some s.clock.seconds,
               members := k.members.map fun m => { m with link := none } }) fun _ => rfl).trans
      (State.windsDown_dropReferences _ b p)).trans (State.windsDown_of_outline ?_))
    dsimp only
    rw [State.post_outline, State.judgeMoved_outline]
    exact State.setBay_outline rfl

theorem State.windsDown_closeOut (s : State) (b : BayId) (p : Place) :
    s.windsDown (s.closeOut b p) := by
  unfold State.closeOut
  split
  · exact .refl s
  · split
    · split
      · exact s.windsDown_endJob b p
      · split
        · exact State.windsDown_of_outline (s.leaveTransfer_outline b p _)
        · exact .refl s
    · exact .refl s

/-- Steps that wind down, one after another. -/
theorem State.windsDown_foldl {α : Type} (f : State → α → State)
    (h : ∀ (t : State) a, t.windsDown (f t a)) (l : List α) (s : State) :
    s.windsDown (l.foldl f s) :=
  foldl_inv s.windsDown f (fun t a g => g.trans (h t a)) l s (.refl s)

theorem State.windsDown_closeOutAll (s : State) (b : BayId) : s.windsDown (s.closeOutAll b) :=
  State.windsDown_foldl (State.closeOut · b ·) (fun t p => t.windsDown_closeOut b p) _ s

/-- Every bay's jobs judged, and then every bay's free channels assigned. -/
theorem State.windsDown_endings (s : State) :
    s.windsDown ((s.forBays fun b t => t.closeOutAll b).forBays fun b t => t.assign b) :=
  (State.windsDown_foldl State.closeOutAll State.windsDown_closeOutAll _ s).trans
    (State.windsDown_foldl State.assign (fun t b => State.windsDown_of_outline (t.assign_outline b))
      _ _)

/-! ## The cancellations of a withdrawal (01 R8, steps 2 and 3) -/

/-- A bay whose job in a place has lost a unit: its member is CANCELLED, the unit's record is free,
and a selection of the member is lost (01 R10, 05 R93). -/
def Bay.cancel (x : Bay) (pu : Place × UnitAddr) : Bay :=
  { x with
    jobs := x.jobs.modify pu.1 (Option.map fun j =>
      j.modMember pu.2 fun m => { m with state := .cancelled }),
    inventory := x.inventory.map fun r =>
      if r.unit = pu.2 then (if r.job = some pu.1 then { r with job := none } else r) else r,
    activation := x.activation.lose pu.1 pu.2 }

/-- A bay once a withdrawal has cancelled its units and removed its links. -/
def Bay.withdraw (x : Bay) (i : EntryId) : Bay := ((x.withdrawnUnits i).foldl Bay.cancel x).unlink i

theorem State.setMember_cancelled (s : State) (b : BayId) (pu : Place × UnitAddr) :
    s.setMember b pu.1 pu.2 .cancelled = s.setBay b ((s.bay b).cancel pu) := by
  simp [State.setMember, Bay.cancel, UnitState.terminal]

theorem State.withdrawFrom_eq (s : State) (i : EntryId) (b : BayId) :
    s.withdrawFrom i b = s.setBay b ((s.bay b).withdraw i) := by
  have cancels : ∀ (l : List (Place × UnitAddr)) (t : State),
      l.foldl (fun t pu => t.setMember b pu.1 pu.2 .cancelled) t =
        t.setBay b (l.foldl Bay.cancel (t.bay b)) := by
    intro l
    induction l with
    | nil => simp
    | cons pu l ih =>
      intro t
      rw [List.foldl_cons, State.setMember_cancelled, ih]
      simp
  simp [State.withdrawFrom, cancels, Bay.withdraw]

/-- A walk over the bays whose step changes its bay by a function of that bay alone. -/
theorem State.forBays_bay (s : State) (f : BayId → State → State) (g : Bay → Bay)
    (h : ∀ b t, f b t = t.setBay b (g (t.bay b))) (a : BayId) :
    (s.forBays f).bay a = g (s.bay a) := by
  have walk : ∀ (l : List BayId) (t : State), l.Nodup →
      (l.foldl (fun t b => f b t) t).bay a = if a ∈ l then g (t.bay a) else t.bay a := by
    intro l
    induction l with
    | nil => simp
    | cons b l ih =>
      intro t hl
      obtain ⟨hb, hl⟩ := List.nodup_cons.mp hl
      rw [List.foldl_cons, ih _ hl, h]
      by_cases e : b = a
      · subst e; simp [hb]
      · simp [State.setBay_bay_ne _ _ e, Ne.symm e]
  exact (walk allBays s (List.nodup_finRange 16)).trans (if_pos (List.mem_finRange a))

theorem State.withdrawFrom_jobFrame (s : State) (i : EntryId) :
    (s.forBays fun b t => t.withdrawFrom i b).jobFrame = s.jobFrame :=
  State.forBays_keeps State.jobFrame _ s fun b t => by rw [t.withdrawFrom_eq i b]; rfl

/-- What cancellations of units in places leave of a member in a place. -/
def Member.cancelledBy (l : List (Place × UnitAddr)) (p : Place) (m : Member) : Member :=
  if m.state.terminal = false ∧ (p, m.unit) ∈ l then { m with state := .cancelled } else m

theorem Member.cancelledBy_cons (pu : Place × UnitAddr) (l : List (Place × UnitAddr)) (p : Place)
    (m : Member) : (m.cancelledBy [pu] p).cancelledBy l p = m.cancelledBy (pu :: l) p := by
  have hc : UnitState.cancelled.terminal = true := rfl
  unfold Member.cancelledBy
  by_cases ht : m.state.terminal = false
  · by_cases hp : (p, m.unit) = pu
    · simp [ht, hp, hc]
    · simp [ht, hp]
  · simp [ht]

theorem Bay.cancel_members (x : Bay) (pu : Place × UnitAddr) (p : Place) :
    ((x.cancel pu).jobs.get p).map Job.members =
      ((x.jobs.get p).map Job.members).map (List.map (·.cancelledBy [pu] p)) := by
  obtain ⟨q, u⟩ := pu
  by_cases e : q = p
  · subst e
    cases hj : x.jobs.get q <;>
      simp [Bay.cancel, hj, Job.modMember, Member.cancelledBy, and_comm]
  · have none : ∀ m : Member, m.cancelledBy [(q, u)] p = m := fun m => by
      simp [Member.cancelledBy, Ne.symm e]
    simp [Bay.cancel, e, none]

theorem Bay.cancelAll_members (l : List (Place × UnitAddr)) (x : Bay) (p : Place) :
    ((l.foldl Bay.cancel x).jobs.get p).map Job.members =
      ((x.jobs.get p).map Job.members).map (List.map (·.cancelledBy l p)) := by
  induction l generalizing x with
  | nil => simp [Member.cancelledBy]
  | cons pu l ih =>
    rw [List.foldl_cons, ih, Bay.cancel_members, Option.map_map, List.map_comp_map]
    simp only [Function.comp_def, Member.cancelledBy_cons]

/-- The members that a withdrawal leaves in a place (01 R8). -/
theorem Bay.withdraw_members (x : Bay) (i : EntryId) (p : Place) :
    ((x.withdraw i).jobs.get p).map Job.members = ((x.jobs.get p).map Job.members).map
      (List.map fun m => (m.cancelledBy (x.withdrawnUnits i) p).unlink i) := by
  have e := Bay.cancelAll_members (x.withdrawnUnits i) x p
  have unlinked : ∀ y : Bay, ((y.unlink i).jobs.get p).map Job.members =
      ((y.jobs.get p).map Job.members).map (List.map (·.unlink i)) := fun y => by
    simp [Bay.unlink, Function.comp_def]
  rw [Bay.withdraw, unlinked, e, Option.map_map, List.map_comp_map]
  rfl

theorem Bay.withdraw_unlinked (x : Bay) (i : EntryId) : (x.withdraw i).unlinked i := by
  intro p j hj m hm
  have e := x.withdraw_members i p
  rw [hj] at e
  obtain ⟨l, -, hl⟩ := Option.map_eq_some_iff.mp e.symm
  rw [← hl] at hm
  obtain ⟨n, -, rfl⟩ := List.mem_map.mp hm
  unfold Member.unlink
  split
  · simp
  · assumption

/-- A withdrawal leaves the controller and the number of unit records. -/
theorem Bay.withdraw_keeps (x : Bay) (i : EntryId) :
    (x.withdraw i).ctl = x.ctl ∧ (x.withdraw i).inventory.length = x.inventory.length :=
  foldl_inv (fun y : Bay => y.ctl = x.ctl ∧ y.inventory.length = x.inventory.length) Bay.cancel
    (fun y pu h => ⟨h.1, by simpa [Bay.cancel] using h.2⟩) _ x ⟨rfl, rfl⟩

/-- The units that a withdrawal cancels in a place: those that a link of the entry names in PENDING
or STAGED in a live job (01 R8). -/
theorem Bay.mem_withdrawnUnits (x : Bay) (i : EntryId) (p : Place) (u : UnitAddr) :
    (p, u) ∈ x.withdrawnUnits i ↔ ∃ j, x.jobs.get p = some j ∧ j.live = true ∧
      ∃ n ∈ j.members, n.unit = u ∧ n.link = some i ∧ (n.state = .pending ∨ n.state = .staged) := by
  simp only [Bay.withdrawnUnits, Bay.jobList, List.mem_flatMap, List.mem_filterMap]
  constructor
  · rintro ⟨⟨q, j⟩, ⟨q', -, hq⟩, h⟩
    obtain ⟨k, hk, e⟩ := Option.map_eq_some_iff.mp hq
    cases e
    split at h
    · next hl =>
      obtain ⟨n, hn, e⟩ := List.mem_map.mp h
      cases e
      obtain ⟨hn, hw⟩ := List.mem_filter.mp hn
      exact ⟨j, hk, hl, n, hn, rfl, by simpa [Member.withdrawn] using hw⟩
    · cases h
  · rintro ⟨j, hj, hl, n, hn, rfl, hw⟩
    refine ⟨(p, j), ⟨p, List.mem_finRange p, by simp [hj]⟩, ?_⟩
    rw [if_pos hl]
    exact List.mem_map.mpr ⟨n, List.mem_filter.mpr ⟨hn, by simpa [Member.withdrawn] using hw⟩, rfl⟩

end Sys2Proof.Machine

namespace Sys2Proof.Machine

/-! SUPPORT. Room for new jobs (01 R21): a builder run creates at most one job for each unit record
without a job reference. A bay with a vacant place for each of them keeps all its jobs, and the room
is still there after the run. -/

/-- The occupied record places of a bay. -/
def Bay.occupied (x : Bay) : Finset Place := Finset.univ.filter fun p => (x.jobs.get p).isSome

/-- The units of the records without a job reference, with their multiplicity. -/
def freeUnits (l : List UnitRecord) : Multiset UnitAddr :=
  ((l.filter (·.job.isNone)).map (·.unit) : List UnitAddr)

/-- A bay has a vacant place for every free unit and for every unit that a pass has yet to place. -/
def Bay.room (x : Bay) (waiting : Multiset UnitAddr) : Prop :=
  x.occupied.card + Multiset.card (freeUnits x.inventory ∪ waiting) ≤ 8

theorem Bay.mem_occupied (x : Bay) (p : Place) : p ∈ x.occupied ↔ (x.jobs.get p).isSome := by
  simp [Bay.occupied]

theorem Bay.jobList_length (x : Bay) : x.jobList.length = x.occupied.card := by
  have e : x.jobList.length = (allPlaces.filter fun p => (x.jobs.get p).isSome).length := by
    unfold Bay.jobList
    induction allPlaces with
    | nil => rfl
    | cons p l ih => cases hp : x.jobs.get p <;> simp [hp, ih]
  have once : allPlaces.Nodup := List.nodup_finRange 8
  rw [e, ← List.toFinset_card_of_nodup (once.filter _)]
  congr 1
  ext p
  simp [Bay.mem_occupied, allPlaces]

/-- With a vacant place left, a new job takes one. -/
theorem Bay.newPlace_vacant {x : Bay} {p : Place} (h : x.occupied.card < 8)
    (hp : x.newPlace = some p) : x.jobs.get p = none := by
  have vacant : ∃ q, x.jobs.get q = none := by
    by_contra hn
    have full : x.occupied = Finset.univ := Finset.filter_true_of_mem fun q _ =>
      Option.isSome_iff_ne_none.mpr fun e => hn ⟨q, e⟩
    rw [full] at h
    simp at h
  obtain ⟨q, hq⟩ := vacant
  unfold Bay.newPlace at hp
  split at hp
  · next r hr =>
    cases hp
    simpa using List.find?_some hr
  · next hr =>
    have := List.find?_eq_none.mp hr q (List.mem_finRange q)
    simp [hq] at this

/-- Every job of a bay is still there, its members in front of any new ones. -/
def Bay.continues (x y : Bay) : Prop :=
  ∀ p j, x.jobs.get p = some j → ∃ k, y.jobs.get p = some k ∧ j.members <+: k.members

theorem Bay.continues.refl (x : Bay) : x.continues x := fun _ j h => ⟨j, h, List.prefix_rfl⟩

theorem Bay.continues.trans {x y z : Bay} (h : x.continues y) (g : y.continues z) :
    x.continues z := by
  intro p j hj
  obtain ⟨k, hk, hjk⟩ := h p j hj
  obtain ⟨l, hl, hkl⟩ := g p k hk
  exact ⟨l, hl, hjk.trans hkl⟩

/-- Units referred to a job are free no more, and the others are as free as before. -/
theorem freeUnits_referTo (u : UnitAddr) (p : Place) (l : List UnitRecord) :
    freeUnits (referTo u p l) = (freeUnits l).filter (· ≠ u) := by
  simp only [freeUnits, Multiset.filter_coe]
  congr 1
  induction l with
  | nil => rfl
  | cons r l ih =>
    simp only [referTo, List.map_cons] at ih ⊢
    by_cases hu : r.unit = u <;> cases hr : r.job <;> simp [hu, hr, ih]

/-- Placing a unit uses up what was kept for it. -/
theorem card_placed (free waiting : Multiset UnitAddr) (u : UnitAddr) :
    Multiset.card (free.filter (· ≠ u) ∪ waiting) + 1 ≤ Multiset.card (free ∪ (u ::ₘ waiting)) := by
  rw [← Multiset.card_cons u]
  refine Multiset.card_le_card (Multiset.le_iff_count.mpr fun v => ?_)
  by_cases e : v = u
  · subst e; simp
  · simp [e]

theorem card_waiting (free waiting : Multiset UnitAddr) (u : UnitAddr) :
    Multiset.card (free ∪ waiting) ≤ Multiset.card (free ∪ (u ::ₘ waiting)) :=
  Multiset.card_le_card (Multiset.union_le_union_left (Multiset.le_cons_self ..) _)

theorem Bay.created_room {x : Bay} {p : Place} {u : UnitAddr} {j : Job} {w : Multiset UnitAddr}
    (h : x.room (u ::ₘ w)) (hp : x.newPlace = some p) :
    (x.created p u j).room w ∧ x.continues (x.created p u j) := by
  have used := card_placed (freeUnits x.inventory) w u
  have vacant := Bay.newPlace_vacant (by unfold Bay.room at h; omega) hp
  have occ : (x.created p u j).occupied = insert p x.occupied := by
    ext q
    simp only [Bay.mem_occupied, Finset.mem_insert, Bay.created]
    by_cases e : p = q
    · subst e; simp
    · simp [e, Ne.symm e]
  constructor
  · unfold Bay.room at h ⊢
    rw [occ, Finset.card_insert_of_notMem (by simp [Bay.mem_occupied, vacant])]
    simp only [Bay.created, freeUnits_referTo]
    omega
  · intro q k hk
    have ne : p ≠ q := by rintro rfl; simp [vacant] at hk
    exact ⟨k, by simpa [Bay.created, ne] using hk, List.prefix_rfl⟩

theorem Bay.joined_room {x : Bay} {p : Place} {m : Member} {w : Multiset UnitAddr}
    (h : x.room (m.unit ::ₘ w)) : (x.joined p m).room w ∧ x.continues (x.joined p m) := by
  have used := card_placed (freeUnits x.inventory) w m.unit
  have occ : (x.joined p m).occupied = x.occupied := by
    ext q
    simp only [Bay.mem_occupied, Bay.joined]
    by_cases e : p = q
    · subst e; simp
    · simp [e]
  constructor
  · unfold Bay.room at h ⊢
    rw [occ]
    simp only [Bay.joined, freeUnits_referTo]
    omega
  · intro q k hk
    by_cases e : p = q
    · subst e; exact ⟨{ k with members := k.members ++ [m] }, by simp [Bay.joined, hk],
        List.prefix_append ..⟩
    · exact ⟨k, by simpa [Bay.joined, e] using hk, List.prefix_rfl⟩

/-- Placing a unit that a pass has reserved a place for. -/
theorem State.placeUnit_room {s : State} {b : BayId} {r : UnitRecord} {w : Multiset UnitAddr}
    (staged : Bool) (h : (s.bay b).room (r.unit ::ₘ w)) :
    ((s.placeUnit b r staged).bay b).room w ∧
      (s.bay b).continues ((s.placeUnit b r staged).bay b) := by
  have stays : (s.bay b).room w ∧ (s.bay b).continues (s.bay b) :=
    ⟨(Nat.add_le_add_left (card_waiting _ w r.unit) _).trans h, .refl _⟩
  rcases s.placeUnit_cases b r staged with e | ⟨i, -, e | ⟨p, st, e⟩⟩
  · rwa [e]
  · rcases s.createJob_cases b r.unit i staged with g | ⟨p, j, t, hp, -, -, -, g⟩
    · rwa [e, g]
    · rw [e, g, State.setBay_bay]
      exact Bay.created_room h hp
  · rw [e, State.addMember_eq, State.setBay_bay]
    exact Bay.joined_room h

/-- A pass over the free units of a disposition. -/
theorem State.placeAll_room {s : State} {b : BayId} (d : Disposition) (staged : Bool)
    (h : (s.bay b).room 0) :
    ((s.placeAll b d staged).bay b).room 0 ∧
      (s.bay b).continues ((s.placeAll b d staged).bay b) := by
  have pass : ∀ (l : List UnitRecord) (t : State), (t.bay b).room (l.map (·.unit) : List UnitAddr) →
      ((l.foldl (fun t r => t.placeUnit b r staged) t).bay b).room 0 ∧
        (t.bay b).continues ((l.foldl (fun t r => t.placeUnit b r staged) t).bay b) := by
    intro l
    induction l with
    | nil => exact fun t ht => ⟨ht, .refl _⟩
    | cons r l ih =>
      intro t ht
      obtain ⟨h1, h2⟩ := State.placeUnit_room (s := t) (r := r)
        (w := (l.map (·.unit) : List UnitAddr)) staged ht
      obtain ⟨h3, h4⟩ := ih _ h1
      exact ⟨h3, h2.trans h4⟩
  refine pass _ s ?_
  have listed : (((s.bay b).inventory.filter fun r => r.job.isNone && r.disposition = d).map
      (·.unit) : List UnitAddr) ≤ freeUnits (s.bay b).inventory :=
    Multiset.coe_le.mpr ((List.monotone_filter_right _ (by simp_all)).map _).subperm
  unfold Bay.room at h ⊢
  rw [Multiset.eq_union_left listed]
  simpa using h

end Sys2Proof.Machine

namespace Sys2Proof.Machine

/-! SUPPORT and PROOFS. WITHDRAW ENTRY, on what builder runs keep of the bays. -/

/-! ## A builder run on every bay -/

/-- Bays with the same lists are alike for the builder. -/
theorem Bay.continues_of_lists {x y : Bay} (h : y.lists = x.lists) : x.continues y := by
  intro p j hj
  have e := Bay.members_of_lists h p
  rw [hj] at e
  obtain ⟨k, hk, hkm⟩ := Option.map_eq_some_iff.mp e
  exact ⟨k, hk, hkm ▸ List.prefix_rfl⟩

theorem Bay.occupied_of_members {α : Type} {x y : Bay} {f : Job → α}
    (h : ∀ p, ((y.jobs.get p).map f).isSome = ((x.jobs.get p).map f).isSome) :
    y.occupied = x.occupied := by
  ext p
  simpa [Bay.mem_occupied] using congrArg (· = true) (h p)

theorem Bay.room_of_lists {x y : Bay} {w : Multiset UnitAddr} (h : y.lists = x.lists)
    (hx : x.room w) : y.room w := by
  have hi : y.inventory = x.inventory := congrArg (·.2.1) h
  have ho : y.occupied = x.occupied :=
    Bay.occupied_of_members (f := Job.members) fun p => by rw [Bay.members_of_lists h p]
  unfold Bay.room at hx ⊢
  rwa [ho, hi]

/-- A bay whose jobs a builder run cannot displace: it makes none there, or has a place for each. -/
def Bay.sheltered (x : Bay) : Prop := x.ctl.state ≠ .serving ∨ x.room 0

theorem Bay.sheltered_of_lists {x y : Bay} (h : y.lists = x.lists) (hx : x.sheltered) :
    y.sheltered := by
  have hc : y.ctl = x.ctl := congrArg Prod.fst h
  exact hx.imp (fun g => by rwa [hc]) (Bay.room_of_lists h)

/-- Sheltered bays stay so, and keep their jobs. -/
def State.grows (s t : State) : Prop :=
  ∀ a, (s.bay a).sheltered → (t.bay a).sheltered ∧ (s.bay a).continues (t.bay a)

theorem State.grows.refl (s : State) : s.grows s := fun _ h => ⟨h, .refl _⟩

theorem State.grows.trans {s t u : State} (h : s.grows t) (g : t.grows u) : s.grows u := by
  intro a ha
  obtain ⟨h1, h2⟩ := h a ha
  obtain ⟨h3, h4⟩ := g a h1
  exact ⟨h3, h2.trans h4⟩

theorem State.placeUnit_bay_ne (s : State) {a b : BayId} (r : UnitRecord) (staged : Bool)
    (h : b ≠ a) : (s.placeUnit b r staged).bay a = s.bay a := by
  rcases s.placeUnit_cases b r staged with e | ⟨i, -, e | ⟨p, st, e⟩⟩
  · rw [e]
  · rcases s.createJob_cases b r.unit i staged with g | ⟨p, j, t, -, -, hb, -, g⟩
    · rw [e, g]
    · rw [e, g, State.setBay_bay_ne _ _ h, State.bay, hb, State.bay]
  · rw [e, State.addMember_eq, State.setBay_bay_ne _ _ h]

theorem State.passes_bay_ne (s : State) {a b : BayId} (h : b ≠ a) :
    (s.passes b).bay a = s.bay a := by
  have place : ∀ (d : Disposition) (staged : Bool) (t : State),
      (t.placeAll b d staged).bay a = t.bay a := fun d staged t =>
    foldl_keeps (·.bay a) (fun t r => t.placeUnit b r staged)
      (fun t r => t.placeUnit_bay_ne r staged h) _ t
  rw [State.passes, place, place]
  exact s.setBay_bay_ne _ h

/-- Records changed in other fields than unit and job reference. -/
theorem freeUnits_map {f : UnitRecord → UnitRecord}
    (h : ∀ r, (f r).unit = r.unit ∧ (f r).job = r.job) (l : List UnitRecord) :
    freeUnits (l.map f) = freeUnits l := by
  simp only [freeUnits]
  congr 1
  induction l with
  | nil => rfl
  | cons r l ih => cases hr : r.job <;> simp [h, hr, ih]

theorem State.passes_room {s : State} {b : BayId} (h : (s.bay b).room 0) :
    ((s.passes b).bay b).room 0 ∧ (s.bay b).continues ((s.passes b).bay b) := by
  have free : freeUnits ((s.disposeAll b).bay b).inventory = freeUnits (s.bay b).inventory := by
    simp only [State.disposeAll, State.modInventory_eq, State.modBay_eq, State.setBay_bay]
    exact freeUnits_map (fun r => by split <;> exact ⟨rfl, rfl⟩) _
  have jobs : ((s.disposeAll b).bay b).jobs = (s.bay b).jobs := by simp [State.disposeAll]
  have h0 : ((s.disposeAll b).bay b).room 0 := by
    unfold Bay.room Bay.occupied at h ⊢
    rwa [free, jobs]
  obtain ⟨h1, c1⟩ := State.placeAll_room .needsImage false h0
  obtain ⟨h2, c2⟩ := State.placeAll_room .stageReady true h1
  refine ⟨h2, Bay.continues.trans ?_ (c1.trans c2)⟩
  exact fun p j hj => ⟨j, jobs ▸ hj, List.prefix_rfl⟩

/-- A builder run displaces no job of a sheltered bay. -/
theorem State.build_grows (s : State) (b : BayId) : s.grows (s.build b) := by
  unfold State.build
  split
  · next hs =>
    intro a ha
    have after : ((((s.passes b).assign b).look b).bay a).lists = ((s.passes b).bay a).lists :=
      State.lists_eq_iff.mp
        (State.lists_of_outline (by rw [State.look_outline, State.assign_outline])) a
    have run : ((s.passes b).bay a).sheltered ∧ (s.bay a).continues ((s.passes b).bay a) := by
      by_cases e : b = a
      · subst e
        exact (State.passes_room (ha.resolve_left (not_not_intro hs))).imp_left .inr
      · rw [s.passes_bay_ne e]
        exact ⟨ha, .refl _⟩
    exact ⟨Bay.sheltered_of_lists after run.1, run.2.trans (Bay.continues_of_lists after)⟩
  · exact .refl s

theorem State.buildAll_grows (s : State) : s.grows s.buildAll :=
  s.forBays_inv s.grows _ (fun b t h => h.trans (t.build_grows b)) (.refl s)

/-! ## An EMPTY entry that no member is linked to stays so -/

/-- An entry is EMPTY, and no member of any job is linked to it. -/
def State.forgets (s : State) (i : EntryId) : Prop :=
  (s.entry i).active = false ∧ ∀ a, (s.bay a).unlinked i

theorem State.forgets_setBay {s : State} {i : EntryId} {b : BayId} {x : Bay} (h : s.forgets i)
    (hx : x.unlinked i) : (s.setBay b x).forgets i := by
  refine ⟨h.1, fun a => ?_⟩
  by_cases e : b = a
  · subst e; rwa [State.setBay_bay]
  · rw [State.setBay_bay_ne _ _ e]; exact h.2 a

theorem State.entry_of_jobFrame {s t : State} (h : t.jobFrame = s.jobFrame) (i : EntryId) :
    t.entry i = s.entry i := by
  obtain ⟨hm, -⟩ := State.fields_of_jobFrame h
  rw [State.entry, hm, State.entry]

theorem State.forgets_of_outline {s t : State} {i : EntryId} (h : t.outline = s.outline)
    (hs : s.forgets i) : t.forgets i := by
  have hl := State.lists_eq_iff.mp (State.lists_of_outline h)
  exact ⟨by rw [State.entry_of_jobFrame (State.jobFrame_of_outline h)]; exact hs.1,
    fun a => Bay.unlinked_of_lists (hl a) (hs.2 a)⟩

/-- The governing entry of a key is ACTIVE (01 R2). -/
theorem State.governing_active {s : State} {key : MatchKey} {i : EntryId}
    (h : s.governing key = some i) : (s.entry i).active = true := by
  have m : (s.manifest.get i).matchesKey key = true := List.find?_some (p := fun k =>
    (s.manifest.get k).matchesKey key) h
  exact (Bool.and_eq_true_iff.mp m).1

theorem State.placeUnit_forgets {s : State} {i : EntryId} (b : BayId) (r : UnitRecord)
    (staged : Bool) (h : s.forgets i) : (s.placeUnit b r staged).forgets i := by
  rcases s.placeUnit_cases b r staged with e | ⟨k, hk, e⟩
  · rwa [e]
  have ne : k ≠ i := by
    rintro rfl
    exact Bool.false_ne_true (h.1.symm.trans (State.governing_active hk))
  rcases e with e | ⟨p, st, e⟩
  · rcases s.createJob_cases b r.unit k staged with g | ⟨p, j, t, -, hj, hb, hf, g⟩
    · rwa [e, g]
    · rw [e, g]
      have ht : t.forgets i := by
        refine ⟨?_, fun a => ?_⟩
        · rw [State.entry_of_jobFrame (State.jobFrame_of_builderFrame hf)]; exact h.1
        · rw [State.bay, hb]; exact h.2 a
      refine State.forgets_setBay ht fun q l hl m hm => ?_
      by_cases eq : p = q
      · subst eq
        simp only [Bay.created, Table.get_set_self, Option.some.injEq] at hl
        subst hl
        simpa [hj m hm] using ne
      · exact h.2 b q l (by simpa [Bay.created, eq] using hl) m hm
  · rw [e, State.addMember_eq]
    refine State.forgets_setBay h fun q l hl m hm => ?_
    by_cases eq : p = q
    · subst eq
      simp only [Bay.joined, Table.get_modify_self, Option.map_eq_some_iff] at hl
      obtain ⟨l, hl, rfl⟩ := hl
      rcases List.mem_append.mp hm with hm | hm
      · exact h.2 b p l hl m hm
      · simp only [List.mem_singleton] at hm
        subst hm
        simpa using ne
    · exact h.2 b q l (by simpa [Bay.joined, eq] using hl) m hm

theorem State.build_forgets {s : State} {i : EntryId} (b : BayId) (h : s.forgets i) :
    (s.build b).forgets i := by
  unfold State.build
  split
  · have place : ∀ (d : Disposition) (staged : Bool) (t : State), t.forgets i →
        (t.placeAll b d staged).forgets i := fun d staged t ht =>
      foldl_inv (·.forgets i) (fun t r => t.placeUnit b r staged)
        (fun t r g => State.placeUnit_forgets b r staged g) _ t ht
    have disposed : (s.disposeAll b).forgets i := State.forgets_setBay h (h.2 b)
    refine State.forgets_of_outline ?_
      (place .stageReady true _ (place .needsImage false _ disposed))
    rw [State.look_outline, State.assign_outline]
    rfl
  · exact h

theorem State.buildAll_forgets {s : State} {i : EntryId} (h : s.forgets i) :
    s.buildAll.forgets i :=
  s.forBays_inv (·.forgets i) _ (fun b _ g => State.build_forgets b g) h

/-! ## WITHDRAW ENTRY (01 R8) -/

/-- What applying replacements can do: the manifest changes, in ACTIVE entries alone, and the
builder may run (01 R6). -/
theorem State.applyReplacements_cases (s : State) :
    ∃ m : Table 64 Entry, (∀ k, (s.entry k).active = false → m.get k = s.entry k) ∧
      (s.applyReplacements = { s with manifest := m } ∨
        s.applyReplacements = ({ s with manifest := m } : State).buildAll) := by
  have fold : ∀ (l : List EntryId) (t : State),
      l.foldl (fun t i => t.modEntry i Entry.replace) t =
        { t with manifest := l.foldl (fun m i => m.modify i Entry.replace) t.manifest } := by
    intro l
    induction l with
    | nil => exact fun _ => rfl
    | cons k l ih => exact fun t => ih _
  have other : ∀ (k : EntryId) (l : List EntryId) (m : Table 64 Entry), k ∉ l →
      (l.foldl (fun m i => m.modify i Entry.replace) m).get k = m.get k := by
    intro k l
    induction l with
    | nil => exact fun _ _ => rfl
    | cons i l ih =>
      intro m hk
      obtain ⟨hi, hl⟩ := not_or.mp (List.mem_cons.not.mp hk)
      rw [List.foldl_cons, ih _ hl, Table.get_modify_ne _ _ (Ne.symm hi)]
  unfold State.applyReplacements
  dsimp only
  split
  · exact ⟨s.manifest, fun _ _ => rfl, .inl rfl⟩
  · refine ⟨_, fun k hk => other k _ s.manifest ?_, .inr (by rw [fold])⟩
    simp [State.replaceable, hk]

/-- A withdrawal up to the removal of the links: steps 1 to 3 of the rule (01 R8). -/
def State.cancelled (s : State) (i : EntryId) : State :=
  (s.modEntry i fun e => { e with replacement := none }).forBays fun b t => t.withdrawFrom i b

/-- The state that a withdrawal leaves to the builder: step 4 taken too, the free channels given
out, and the entry EMPTY (log 8). -/
def State.emptied (s : State) (i : EntryId) : State :=
  (((s.cancelled i).forBays fun b t => t.closeOutAll b).forBays fun b t => t.assign b).modEntry i
    fun e => { e with active := false, released := false }

theorem State.cancelled_bay (s : State) (i : EntryId) (a : BayId) :
    (s.cancelled i).bay a = (s.bay a).withdraw i :=
  State.forBays_bay _ _ (·.withdraw i) (fun b t => t.withdrawFrom_eq i b) a

/-- Steps 1 to 4 leave the job frame but for the entry, and each bay as its own cancellations leave
it, wound down. -/
theorem State.emptied_cases (s : State) (i : EntryId) :
    (s.emptied i).config = s.config ∧ (s.emptied i).departures = s.departures ∧
      (s.emptied i).mgmt = s.mgmt ∧ (s.emptied i).uplink = s.uplink ∧
      (s.emptied i).clock = s.clock ∧
      (s.emptied i).entry i =
        { s.entry i with active := false, released := false, replacement := none } ∧
      (∀ a, ((s.emptied i).bay a).roster = ((s.bay a).withdraw i).roster) ∧
      ∀ a, ((s.emptied i).bay a).unlinked i := by
  obtain ⟨t, ends, e⟩ : ∃ t, (s.cancelled i).windsDown t ∧
      s.emptied i = t.modEntry i fun e => { e with active := false, released := false } :=
    ⟨_, State.windsDown_endings _, rfl⟩
  have frame : t.jobFrame = (s.modEntry i fun e => { e with replacement := none }).jobFrame :=
    ends.frame.trans (State.withdrawFrom_jobFrame _ i)
  obtain ⟨-, hcfg, hdep, hmgmt, hup, hclk⟩ := State.fields_of_jobFrame frame
  rw [e]
  refine ⟨hcfg, hdep, hmgmt, hup, hclk, ?_, fun a => ?_, fun a => ?_⟩
  · rw [State.modEntry_entry, State.entry_of_jobFrame frame, State.modEntry_entry]
  · rw [← State.cancelled_bay]
    exact ends.roster a
  · refine ends.links a i ?_
    rw [State.cancelled_bay]
    exact (s.bay a).withdraw_unlinked i

/-- What the rest of a withdrawal is: other entries' replacements, and one or two builder runs. -/
theorem State.withdraw_cases (s : State) (i : EntryId) :
    ∃ m : Table 64 Entry, m.get i = (s.emptied i).entry i ∧
      (s.withdraw i = ({ s.emptied i with manifest := m } : State).buildAll ∨
        s.withdraw i = ({ s.emptied i with manifest := m } : State).buildAll.buildAll) := by
  obtain ⟨m, hm, h⟩ := (s.emptied i).applyReplacements_cases
  have e : s.withdraw i = (s.emptied i).applyReplacements.buildAll := rfl
  refine ⟨m, hm i ?_, ?_⟩
  · obtain ⟨-, -, -, -, -, he, -⟩ := s.emptied_cases i
    rw [he]
  · rw [e]
    exact h.imp (fun g => by rw [g]) (fun g => by rw [g])

/-- One or two builder runs on every bay. -/
theorem State.builds_cases {v u : State} {i : EntryId}
    (h : u = v.buildAll ∨ u = v.buildAll.buildAll) (hf : v.forgets i) :
    u.builderFrame = v.builderFrame ∧ v.grows u ∧ u.forgets i := by
  rcases h with h | h <;> rw [h]
  · exact ⟨v.buildAll_builderFrame, v.buildAll_grows, State.buildAll_forgets hf⟩
  · exact ⟨(State.buildAll_builderFrame _).trans v.buildAll_builderFrame,
      v.buildAll_grows.trans (State.buildAll_grows _),
      State.buildAll_forgets (State.buildAll_forgets hf)⟩

/-- A withdrawal, from the state that it leaves to the builder: the frames, what a sheltered bay
keeps, and that no member is linked to the entry. -/
theorem State.withdraw_builds (s : State) (i : EntryId) :
    (s.withdraw i).config = s.config ∧ (s.withdraw i).departures = s.departures ∧
      (s.withdraw i).mgmt = s.mgmt ∧ (s.withdraw i).uplink = s.uplink ∧
      (s.withdraw i).clock = s.clock ∧
      (s.withdraw i).entry i =
        { s.entry i with active := false, released := false, replacement := none } ∧
      (∀ a, ((s.emptied i).bay a).sheltered →
        ((s.emptied i).bay a).continues ((s.withdraw i).bay a)) ∧
      ∀ a, ((s.withdraw i).bay a).unlinked i := by
  obtain ⟨hcfg, hdep, hmgmt, hup, hclk, hent, -, hlink⟩ := s.emptied_cases i
  obtain ⟨m, hm, h⟩ := s.withdraw_cases i
  generalize s.emptied i = w at *
  generalize s.withdraw i = u at *
  have hf : ({ w with manifest := m } : State).forgets i :=
    ⟨by rw [State.entry, hm, hent], hlink⟩
  obtain ⟨frame, grown, forgotten⟩ := State.builds_cases h hf
  obtain ⟨fman, fcfg, fdep, fmgmt, fup, fclk⟩ :=
    State.fields_of_jobFrame (State.jobFrame_of_builderFrame frame)
  refine ⟨fcfg.trans hcfg, fdep.trans hdep, fmgmt.trans hmgmt, fup.trans hup, fclk.trans hclk, ?_,
    fun a ha => (grown a ha).2, forgotten.2⟩
  rw [State.entry, fman, ← hent]
  exact hm

/-- Bays with the same roster have the same units and states in each place. -/
theorem Bay.states_of_roster {x y : Bay} (h : y.roster = x.roster) (p : Place) :
    (y.jobs.get p).map (fun j => j.members.map fun m => (m.unit, m.state)) =
      (x.jobs.get p).map fun j => j.members.map fun m => (m.unit, m.state) := by
  have e : y.roster.2.2.get p = x.roster.2.2.get p := by rw [h]
  simpa [Bay.roster] using e

/-- A bay whose unit records and jobs together leave room is sheltered, and so it is after the
cancellations and the ends of jobs. -/
theorem Bay.sheltered_withdrawn {x y : Bay} {i : EntryId} (h : y.roster = (x.withdraw i).roster)
    (hx : x.ctl.state ≠ .serving ∨ x.inventory.length + x.jobList.length ≤ 8) : y.sheltered := by
  obtain ⟨wc, wi⟩ := x.withdraw_keeps i
  have hc : y.ctl = x.ctl := (congrArg Prod.fst h).trans wc
  have hi : y.inventory.length = x.inventory.length := (congrArg (·.2.1) h).trans wi
  have hy : y.occupied = (x.withdraw i).occupied :=
    Bay.occupied_of_members fun p => by rw [Bay.states_of_roster h p]
  have ho : (x.withdraw i).occupied = x.occupied := Bay.occupied_of_members (f := Job.members)
    fun p => by rw [Bay.withdraw_members, Option.isSome_map]
  refine hx.imp (fun g => by rwa [hc]) fun g => ?_
  have free : Multiset.card (freeUnits y.inventory) ≤ y.inventory.length := by
    simpa [freeUnits] using List.length_filter_le ..
  rw [Bay.jobList_length] at g
  unfold Bay.room
  rw [hy, ho, Multiset.union_zero]
  omega

theorem Member.unlink_unit (m : Member) (i : EntryId) : (m.unlink i).unit = m.unit := by
  unfold Member.unlink
  split <;> rfl

theorem Member.unlink_state (m : Member) (i : EntryId) : (m.unlink i).state = m.state := by
  unfold Member.unlink
  split <;> rfl

theorem Member.cancelledBy_unit (m : Member) (l : List (Place × UnitAddr)) (p : Place) :
    (m.cancelledBy l p).unit = m.unit := by
  unfold Member.cancelledBy
  split <;> rfl

theorem Member.cancelledBy_state (m : Member) (l : List (Place × UnitAddr)) (p : Place) :
    (m.cancelledBy l p).state =
      if m.state.terminal = false ∧ (p, m.unit) ∈ l then .cancelled else m.state := by
  unfold Member.cancelledBy
  split <;> rfl

/-- The units and states that a withdrawal leaves of a live job (01 R8, step 2). -/
theorem Bay.withdraw_states {x : Bay} {p : Place} {j : Job} (i : EntryId)
    (hj : x.jobs.get p = some j) (hl : j.live = true) :
    ((x.withdraw i).jobs.get p).map (fun k => k.members.map fun m => (m.unit, m.state)) =
      some (j.members.map fun m => (m.unit,
        if m.state.terminal = false ∧ ∃ n ∈ j.members, n.unit = m.unit ∧
            n.link = some i ∧ (n.state = .pending ∨ n.state = .staged)
        then .cancelled else m.state)) := by
  have named : ∀ u, (p, u) ∈ x.withdrawnUnits i ↔ ∃ n ∈ j.members, n.unit = u ∧
      n.link = some i ∧ (n.state = .pending ∨ n.state = .staged) := fun u => by
    rw [Bay.mem_withdrawnUnits, hj]
    simp [hl]
  have e := congrArg (Option.map (List.map fun m : Member => (m.unit, m.state)))
    (x.withdraw_members i p)
  rw [Option.map_map, hj] at e
  refine e.trans ?_
  simp only [Option.map_some, List.map_map, Function.comp_def, Member.unlink_unit,
    Member.unlink_state, Member.cancelledBy_unit, Member.cancelledBy_state, named]

/-- An entry that no member of any job is linked to has no live job. -/
theorem State.liveCount_unlinked {s : State} {i : EntryId} (h : ∀ a, (s.bay a).unlinked i) :
    s.liveCount i = 0 := by
  have none : ∀ b, (s.bay b).jobList.filter (fun pj => pj.2.live && pj.2.linkedTo i) = [] := by
    intro b
    refine List.filter_eq_nil_iff.mpr fun pj hpj => ?_
    obtain ⟨p, -, hp⟩ := List.mem_filterMap.mp hpj
    obtain ⟨j, hj, rfl⟩ := Option.map_eq_some_iff.mp hp
    have free : j.linkedTo i = false := by
      simpa [Job.linkedTo] using h b p j hj
    simp [free]
  simp [State.liveCount, none]

/-- Settles O19: steps 1 to 4 of 01 R8 leave each bay as its own cancellations do, and the builder
runs that follow link no member to the EMPTY entry and displace no job of a sheltered bay. -/
theorem entryWithdrawn : Obligations.EntryWithdrawn := by
  refine ⟨fun s q rest x i hs hq hx => ⟨fun ha => ?active, fun ha => ?empty⟩,
    fun s q rest x hs hq hx => ?noEntry⟩
  case active =>
    have handled : handleWithdrawEntry (s.taken rest) q.request =
        some (((s.taken rest).withdraw i).done (u32 (s.withdrawCount i))) := by
      have count : (s.taken rest).withdrawCount i = s.withdrawCount i := rfl
      simp only [hq, handleWithdrawEntry, State.withdrawEntry, idx_eq_some hx, count]
      rw [if_pos (show ((s.taken rest).entry i).active = true from ha)]
    obtain ⟨hcfg, hdep, hmgmt, hup, hclk, hent, hgrow, hlink⟩ := (s.taken rest).withdraw_builds i
    obtain ⟨-, -, -, -, -, -, hroster, -⟩ := (s.taken rest).emptied_cases i
    generalize (s.taken rest).emptied i = w at *
    generalize (s.taken rest).withdraw i = u at *
    refine ⟨u, congrArg _ (State.execute_done hs handled hup), hent,
      fun b p j m hj hm => hlink b p j hj m hm, fun b p j hj hl hb => ?_,
      State.liveCount_unlinked hlink, hcfg, hdep, hmgmt, hup, hclk⟩
    have states := (Bay.states_of_roster (hroster b) p).trans (Bay.withdraw_states i hj hl)
    obtain ⟨e, he, hem⟩ := Option.map_eq_some_iff.mp states
    obtain ⟨k, hk, hpre⟩ := hgrow b (Bay.sheltered_withdrawn (hroster b) hb) p e he
    have len : j.members.length = e.members.length := by
      simpa using (congrArg List.length hem).symm
    refine ⟨k, hk, ?_⟩
    rw [len, ← List.prefix_iff_eq_take.mp hpre]
    exact hem
  case empty =>
    refine congrArg _ (State.execute_refused hs ?_ (by decide))
    simp only [hq, handleWithdrawEntry, State.withdrawEntry, idx_eq_some hx]
    exact congrArg some (if_neg (Bool.eq_false_iff.mp ha))
  case noEntry =>
    refine congrArg _ (State.execute_refused hs ?_ (by decide))
    simp only [hq, handleWithdrawEntry, State.withdrawEntry, idx_eq_none hx]

end Sys2Proof.Machine

namespace Sys2Proof.Machine

/-! SUPPORT and PROOFS. The pool's promise (02 R40): what each step does to the occupied slots and
the credits held, and that their sum stays within the pool.

Three updates count: a stream's credits change, a slot is filled or freed, and the arbiter grants
what is spare. Every operation of the bridge is made of these and of updates that leave streams and
pool; the lemmas below follow the operations' own composition, from the slots up to the commands. -/

/-! ## Sums over a table -/

/-- A sum over a table once a cell is set: the old cell's share goes, the new one's comes. -/
theorem Table.sum_set {n : Nat} {α : Type} (t : Table n α) (f : α → Nat) (i : Fin n) (a : α) :
    ((t.set i a).cells.map f).sum + f (t.get i) = (t.cells.map f).sum + f a := by
  obtain ⟨l, hl⟩ := t
  have hi : i.val < l.length := hl ▸ i.isLt
  have whole : (l.map f).sum =
      ((l.take i).map f).sum + f l[i.val] + ((l.drop (i + 1)).map f).sum := by
    conv_lhs => rw [← List.take_append_drop i.val l, List.drop_eq_getElem_cons hi]
    simp only [List.map_append, List.map_cons, List.sum_append, List.sum_cons, Nat.add_assoc]
  simp only [Table.set, Table.get, List.get_eq_getElem, List.set_eq_take_append_cons_drop, hi,
    if_true, List.map_append, List.map_cons, List.sum_append, List.sum_cons, whole]
  omega

/-- The occupied slots as a sum over the pool. -/
theorem State.occupied_eq (s : State) :
    s.occupied = (s.pool.cells.map fun o => o.isSome.toNat).sum := by
  unfold State.occupied
  induction s.pool.cells with
  | nil => rfl
  | cons o l ih => cases o <;> simp [ih, Nat.add_comm]

/-- Changing a stream moves the credits held by its own alone. -/
theorem State.modStream_totalHeld (s : State) (st : StreamId) (f : Stream → Stream) :
    (s.modStream st f).totalHeld + (s.stream st).held =
      s.totalHeld + (f (s.stream st)).held :=
  Table.sum_set s.streams Stream.held st _

/-- Setting a slot moves the occupied slots by its own state alone. -/
theorem State.setSlot_occupied (s : State) (sl : SlotId) (o : Option Slot) :
    ({ s with pool := s.pool.set sl o } : State).occupied + (s.pool.get sl).isSome.toNat =
      s.occupied + o.isSome.toNat := by
  simp only [State.occupied_eq]
  exact Table.sum_set s.pool (fun o => o.isSome.toNat) sl o

/-! ## Credits -/

/-- A grant raises the credits held by no more than itself (02 R40). -/
theorem Stream.held_granted (x : Stream) (n age : Nat) :
    ({ x with limit := x.limit + BitVec.ofNat 16 n, age := age } : Stream).held ≤ x.held + n := by
  simp only [Stream.held]
  bv_omega

/-- A spent credit is held no more (02 R31, R34). -/
theorem Stream.held_spent (x : Stream) (h : 0 < x.held) :
    ({ x with accepted := x.accepted + 1 } : Stream).held + 1 = x.held := by
  simp only [Stream.held] at h ⊢
  bv_omega

@[simp] theorem Stream.held_revoke (x : Stream) : x.revoke.held = 0 := by
  simp [Stream.held, Stream.revoke]

/-! ## An accepted block's stream (02 R34) -/

theorem State.modStream_modStream (s : State) (st : StreamId) (f g : Stream → Stream) :
    (s.modStream st f).modStream st g = s.modStream st fun x => g (f x) := by
  simp [State.modStream, Table.modify]

/-- A stream that has taken a block in: a credit is spent, the carousel is past its sequence, and it
is counted (02 R34). -/
def Stream.tookIn (n : Nat) (x : Stream) : Stream :=
  { x with accepted := x.accepted + 1,
           position := if n < x.length then (n + 1) % x.length else x.position,
           counters := x.counters.modify StreamCounter.accepted.index satInc }

theorem State.acceptBlock_eq (s : State) (st : StreamId) (n : Nat) :
    s.acceptBlock st n = s.modStream st (Stream.tookIn n) := by
  unfold State.acceptBlock State.advance State.countStream
  rw [State.modStream_modStream, State.modStream_modStream]
  congr 1
  funext x
  unfold Stream.tookIn
  by_cases h : n < x.length <;> simp [h]

/-! ## What the arbiter can do (02 R40) -/

/-- The stream that the arbiter picks is wanting (02 R40). -/
theorem State.arbiterPick_wanting {s : State} {st : StreamId} (h : s.arbiterPick = some st) :
    (s.stream st).wanting s.config.streamWindow = true := by
  have pick : ∀ a ∈ s.arbiterPick, (s.stream a).wanting s.config.streamWindow = true := by
    unfold State.arbiterPick
    refine List.foldlRecOn (motive := fun acc => ∀ a ∈ acc,
      (s.stream a).wanting s.config.streamWindow = true) _ _ (by simp) fun acc hacc b hb => ?_
    have wants : (s.stream b).wanting s.config.streamWindow = true := (List.mem_filter.mp hb).2
    split
    · simpa using wants
    · split
      · simpa using wants
      · exact hacc
  exact pick st h

/-- What the arbiter can do, one wanting stream at a time (02 R40). -/
theorem State.arbitrate_inv (P : State → Prop) {s : State} (h : P s)
    (grant : ∀ (t : State) (st : StreamId), P t →
      (t.stream st).wanting t.config.streamWindow = true → P (t.grantTo st)) : P s.arbitrate := by
  have grants : ∀ (n : Nat) (t : State), P t → P (State.grants n t) := by
    intro n
    induction n with
    | zero => exact fun _ ht => ht
    | succ n ih =>
      intro t ht
      unfold State.grants
      split
      · exact ht
      · split
        · exact ht
        · next st e => exact ih _ (grant t st ht (State.arbiterPick_wanting e))
  exact grants 16 s h

/-! ## The promise under the updates that count -/

section Promise
variable {s : State} {b : BayId} {st : StreamId} {sl : SlotId} {p : Place} {c : ChannelId}

/-- The promise looks at the streams and the pool alone. -/
theorem State.poolPromise.of_same {t : State} (h : s.poolPromise) (hs : t.streams = s.streams)
    (hp : t.pool = s.pool) : t.poolPromise := by
  unfold State.poolPromise State.occupied State.totalHeld at h ⊢
  rwa [hs, hp]

/-- What a builder run may change is neither. -/
theorem State.poolPromise.of_builderFrame {t : State} (h : s.poolPromise)
    (e : t.builderFrame = s.builderFrame) : t.poolPromise :=
  h.of_same (State.blocks_of_builderFrame e).1 (State.blocks_of_builderFrame e).2

theorem State.poolPromise.ite {C : Prop} [Decidable C] {t u : State} (ht : t.poolPromise)
    (hu : u.poolPromise) : (if C then t else u).poolPromise := by
  split
  · exact ht
  · exact hu

theorem State.poolPromise.modStream {f : Stream → Stream} (h : s.poolPromise)
    (hf : (f (s.stream st)).held ≤ (s.stream st).held) : (s.modStream st f).poolPromise := by
  have credits := s.modStream_totalHeld st f
  have slots : (s.modStream st f).occupied = s.occupied := rfl
  unfold State.poolPromise at h ⊢
  omega

/-- A slot set to what occupies no more than it did. -/
theorem State.poolPromise.setSlot {o : Option Slot} (h : s.poolPromise)
    (ho : o.isSome.toNat ≤ (s.pool.get sl).isSome.toNat) :
    ({ s with pool := s.pool.set sl o } : State).poolPromise := by
  have slots := s.setSlot_occupied sl o
  have credits : ({ s with pool := s.pool.set sl o } : State).totalHeld = s.totalHeld := rfl
  unfold State.poolPromise at h ⊢
  omega

theorem State.poolPromise.freeSlot (h : s.poolPromise) :
    ({ s with pool := s.pool.set sl none } : State).poolPromise :=
  h.setSlot (Nat.zero_le _)

/-- Every stream changed in a way that leaves its credits. -/
theorem State.poolPromise.mapStreams {f : Stream → Stream} (h : s.poolPromise)
    (hf : ∀ x : Stream, (f x).held = x.held) :
    ({ s with streams := s.streams.map f } : State).poolPromise := by
  have credits : ({ s with streams := s.streams.map f } : State).totalHeld = s.totalHeld := by
    simp [State.totalHeld, Table.map, Function.comp_def, hf]
  have slots : ({ s with streams := s.streams.map f } : State).occupied = s.occupied := rfl
  unfold State.poolPromise at h ⊢
  rwa [credits, slots]

/-- No update of a bay touches streams or pool. -/
theorem State.poolPromise.modBay {f : Bay → Bay} (h : s.poolPromise) :
    (s.modBay b f).poolPromise := h

theorem State.poolPromise.foldl {α : Type} {f : State → α → State} {l : List α}
    (h : s.poolPromise) (hf : ∀ (t : State) (a : α), t.poolPromise → (f t a).poolPromise) :
    (l.foldl f s).poolPromise :=
  foldl_inv _ f hf l s h

/-! ## Streams and slots (02) -/

theorem State.poolPromise.makeDue (h : s.poolPromise) : (s.makeDue st).poolPromise :=
  h.of_same (State.makeDue_streams ..) (State.makeDue_pool ..)

theorem State.poolPromise.post {n : Notice} (h : s.poolPromise) : (s.post n).poolPromise :=
  h.of_same (State.post_streams ..) (State.post_pool ..)

theorem State.poolPromise.bumpIf {q : Bool} {k : BayCounter} (h : s.poolPromise) :
    (s.bumpIf q b k).poolPromise :=
  .ite h h

theorem State.poolPromise.bumpBy {k : BayCounter} {n : Nat} (h : s.poolPromise) :
    (s.bumpBy b k n).poolPromise := by
  unfold State.bumpBy
  induction n with
  | zero => exact h
  | succ n ih => exact ih

/-- A grant stays within the spare capacity (02 R40). -/
theorem State.poolPromise.grantTo (h : s.poolPromise) : (s.grantTo st).poolPromise := by
  refine .makeDue ?_
  have granted := (s.stream st).held_granted
    (min s.spare (s.config.streamWindow - (s.stream st).held)) 0
  generalize hn : min s.spare (s.config.streamWindow - (s.stream st).held) = n at granted ⊢
  have credits := s.modStream_totalHeld st fun x =>
    { x with limit := x.limit + (BitVec.ofNat 16 n : Half), age := 0 }
  have slots : ∀ f, (s.modStream st f).occupied = s.occupied := fun _ => rfl
  have spare : s.spare = Config.poolSlots - s.occupied - s.totalHeld := rfl
  unfold State.poolPromise at h ⊢
  rw [slots]
  omega

theorem State.poolPromise.arbitrate (h : s.poolPromise) : s.arbitrate.poolPromise :=
  State.arbitrate_inv State.poolPromise h fun _ _ ht _ => ht.grantTo

theorem State.poolPromise.recomputeResume (h : s.poolPromise) :
    (s.recomputeResume st).poolPromise :=
  h.modStream (Nat.le_refl _)

theorem State.poolPromise.satisfy (h : s.poolPromise) : (s.satisfy st).poolPromise :=
  .arbitrate (.post (.makeDue (h.modStream (by simp [Stream.held, Stream.revoke]))))

theorem State.poolPromise.unsatisfy (h : s.poolPromise) : (s.unsatisfy st).poolPromise :=
  .arbitrate (.makeDue (.recomputeResume (h.modStream (Nat.le_refl _))))

theorem State.poolPromise.judge (h : s.poolPromise) : (s.judge st).poolPromise := by
  rcases s.judge_cases st with e | e | e | e <;> rw [e]
  exacts [h, h.recomputeResume, h.satisfy, h.unsatisfy]

theorem State.poolPromise.judgeMoved {before : State} {l : List BayId} (h : s.poolPromise) :
    (s.judgeMoved before l st).poolPromise :=
  .ite h h.judge

theorem State.poolPromise.judgeAll {l : List StreamId} (h : s.poolPromise) :
    (s.judgeAll l).poolPromise :=
  .foldl h fun _ _ h => h.judge

theorem State.poolPromise.leaveSlot (h : s.poolPromise) : (s.leaveSlot b sl).poolPromise := by
  unfold State.leaveSlot
  split
  · exact h
  · next x e => exact .ite h.freeSlot.arbitrate (h.setSlot (by simp [e]))

theorem State.poolPromise.makeNeeded {d : Nat} (h : s.poolPromise) :
    (s.makeNeeded b p d).poolPromise :=
  h.of_same (State.makeNeeded_streams ..) (State.makeNeeded_pool ..)

theorem State.poolPromise.dropEntry {e : TxEntry} (h : s.poolPromise) :
    (s.dropEntry b e).poolPromise :=
  .leaveSlot (h.of_same (State.unqueue_streams ..) (State.unqueue_pool ..))

theorem State.poolPromise.dropEntries {q : TxEntry → Bool} (h : s.poolPromise) :
    (s.dropEntries b q).poolPromise :=
  .foldl h fun _ _ h => h.dropEntry

theorem State.poolPromise.detachBay (h : s.poolPromise) : (s.detachBay sl b).poolPromise :=
  h.of_same (State.detachBay_streams ..) (State.detachBay_pool ..)

theorem State.poolPromise.detachSlot {counted : Bool} (h : s.poolPromise) :
    (s.detachSlot sl counted).poolPromise := by
  unfold State.detachSlot
  split
  · exact h
  · exact .arbitrate (.freeSlot (.judgeMoved (.foldl h fun _ _ h => .detachBay (.bumpIf h))))

theorem State.poolPromise.expireSlots (h : s.poolPromise) : s.expireSlots.poolPromise := by
  refine .foldl h fun t sl ht => ?_
  split
  · exact ht
  · exact .ite ht.detachSlot ht

theorem State.poolPromise.zeroAges (h : s.poolPromise) : s.zeroAges.poolPromise :=
  h.mapStreams fun x => by split <;> rfl

theorem State.poolPromise.ageStreams (h : s.poolPromise) : s.ageStreams.poolPromise :=
  h.mapStreams fun x => by split <;> rfl

end Promise

end Sys2Proof.Machine

namespace Sys2Proof.Machine

/-! SUPPORT. The pool's promise through jobs, the builder and activation (01, 03, 05). -/

section Promise
variable {s : State} {b : BayId} {st : StreamId} {sl : SlotId} {p : Place} {c : ChannelId}

/-! ## Jobs and channels (03) -/

theorem State.poolPromise.forBays {f : BayId → State → State} (h : s.poolPromise)
    (hf : ∀ (b : BayId) (t : State), t.poolPromise → (f b t).poolPromise) :
    (s.forBays f).poolPromise :=
  s.forBays_inv _ f hf h

theorem State.poolPromise.requestInventory {q : Bool} (h : s.poolPromise) :
    (s.requestInventory b q).poolPromise :=
  .ite h h

theorem State.poolPromise.abandonProbe (h : s.poolPromise) : (s.abandonProbe b c).poolPromise := by
  unfold State.abandonProbe
  split
  · exact h
  · exact .ite h h

theorem State.poolPromise.freeChannel (h : s.poolPromise) : (s.freeChannel b c p).poolPromise := by
  unfold State.freeChannel
  split
  · exact .modBay (.modBay (.modBay (.modBay (.foldl (.abandonProbe (.modBay h)) fun _ _ h =>
      h.makeNeeded))))
  · exact h

theorem State.poolPromise.freeJobChannel (h : s.poolPromise) :
    (s.freeJobChannel b p).poolPromise := by
  unfold State.freeJobChannel
  split
  · exact h
  · split
    · exact h
    · exact h.freeChannel

theorem State.poolPromise.assign (h : s.poolPromise) : (s.assign b).poolPromise :=
  h.of_builderFrame (State.assign_builderFrame ..)

theorem State.poolPromise.look (h : s.poolPromise) : (s.look b).poolPromise :=
  h.of_builderFrame (State.look_builderFrame ..)

theorem State.poolPromise.lookAll (h : s.poolPromise) : s.lookAll.poolPromise :=
  h.of_builderFrame (State.lookAll_builderFrame ..)

theorem State.poolPromise.checkCompletion (h : s.poolPromise) :
    (s.checkCompletion b p).poolPromise := by
  unfold State.checkCompletion
  split
  · exact h
  · split
    · exact h
    · exact .ite h h

theorem State.poolPromise.endJob (h : s.poolPromise) : (s.endJob b p).poolPromise := by
  unfold State.endJob
  split
  · exact h
  · exact .post (.judgeMoved (.modBay (.modBay (.modBay h.dropEntries.freeJobChannel))))

theorem State.poolPromise.leaveTransfer {j : Job} (h : s.poolPromise) :
    (s.leaveTransfer b p j).poolPromise :=
  .judgeMoved (.modBay h.dropEntries.freeJobChannel)

theorem State.poolPromise.closeOut (h : s.poolPromise) : (s.closeOut b p).poolPromise := by
  unfold State.closeOut
  split
  · exact h
  · exact .ite (.ite h.endJob (.ite h.leaveTransfer h)) h

theorem State.poolPromise.closeOutAll (h : s.poolPromise) : (s.closeOutAll b).poolPromise :=
  .foldl h fun _ _ h => h.closeOut

theorem State.poolPromise.setMember {u : UnitAddr} {v : UnitState} (h : s.poolPromise) :
    (s.setMember b p u v).poolPromise :=
  .ite h h

/-! ## The builder and activation (01, 05) -/

theorem State.poolPromise.build (h : s.poolPromise) : (s.build b).poolPromise :=
  h.of_builderFrame (State.build_builderFrame ..)

theorem State.poolPromise.buildAll (h : s.poolPromise) : s.buildAll.poolPromise :=
  h.of_builderFrame (State.buildAll_builderFrame ..)

theorem State.poolPromise.applyReplacements (h : s.poolPromise) :
    s.applyReplacements.poolPromise := by
  obtain ⟨m, -, e | e⟩ := s.applyReplacements_cases <;> rw [e]
  · exact h
  · exact .buildAll h

theorem State.poolPromise.afterEnd (h : s.poolPromise) : (s.afterEnd b).poolPromise :=
  h.assign.applyReplacements.build

theorem State.poolPromise.outcome {t : ActTarget} {previous : Version} {o : UnitState}
    {cause : ResultCause} {report : Option UnitReportFrame} (h : s.poolPromise) :
    (s.outcome b t previous o cause report).poolPromise := by
  unfold State.outcome
  extract_lets link s1 s2 s3 s4 s5 ended s6 s7
  have h3 : s3.poolPromise := by
    unfold s3
    split
    · exact h
    · exact .modBay h
  have h6 : s6.poolPromise := by
    have h5 : s5.poolPromise := .closeOut (.modBay (.post h3))
    exact .ite h5.afterEnd h5
  exact .look (.ite (.requestInventory (.modBay h6)) (.modBay h6))

theorem State.poolPromise.abandonActivation (h : s.poolPromise) :
    (s.abandonActivation b).poolPromise := by
  unfold State.abandonActivation
  split <;> exact h

theorem State.poolPromise.sendActivate {t : ActTarget} {gone : Bool} (h : s.poolPromise) :
    (s.sendActivate b t gone).1.poolPromise := by
  unfold State.sendActivate
  split
  · exact h
  · exact .look (.modBay (.modBay h))

theorem State.poolPromise.firstExpiry (h : s.poolPromise) : (s.firstExpiry b).poolPromise := by
  unfold State.firstExpiry
  split <;> exact h

theorem State.poolPromise.secondExpiry (h : s.poolPromise) : (s.secondExpiry b).poolPromise := by
  unfold State.secondExpiry
  split
  · exact .outcome (.modBay h)
  all_goals exact h

theorem State.poolPromise.reportOutside {u : UnitAddr} {f : UnitReportFrame} (h : s.poolPromise) :
    (s.reportOutside b u f).poolPromise :=
  .look (.modBay (.modBay h))

theorem State.poolPromise.judgeReport {f : UnitReportFrame} (h : s.poolPromise) :
    (s.judgeReport b f).poolPromise := by
  unfold State.judgeReport
  refine .ite ?_ (.modBay h)
  split
  · exact .modBay h
  · split
    · exact .ite (.outcome h) h.reportOutside
    · exact .ite (.outcome (.modBay h)) h.reportOutside
    all_goals exact h.reportOutside

end Promise

end Sys2Proof.Machine

namespace Sys2Proof.Machine

/-! SUPPORT. The pool's promise through the bay controller, the version table and the port
(01, 06, 07). -/

section Promise
variable {s : State} {b : BayId} {st : StreamId} {sl : SlotId} {p : Place} {c : ChannelId}

/-! ## The bay controller (06, 07) -/

theorem State.poolPromise.enter {st : BayState} {cause : BayCause} (h : s.poolPromise) :
    (s.enter b st cause).poolPromise :=
  .post (.modBay h)

theorem State.poolPromise.writeResume {v : Word} {j : Job} (h : s.poolPromise) :
    (s.writeResume v j).poolPromise := by
  unfold State.writeResume
  split
  · exact h
  · split
    · exact h
    · split <;> exact h

theorem State.poolPromise.writeResumes {counted : Bool} (h : s.poolPromise) :
    (s.writeResumes b counted).poolPromise := by
  unfold State.writeResumes
  split
  · exact h
  · exact .foldl h fun _ _ h => .bumpIf h.writeResume

theorem State.poolPromise.giveUpBlocks (h : s.poolPromise) : (s.giveUpBlocks b).poolPromise := by
  refine .modBay (.foldl h.dropEntries fun t ch ht => ?_)
  split
  · exact ht
  · split
    · exact ht
    · exact .foldl ht fun _ _ h => h.makeNeeded

theorem State.poolPromise.teardown {cause : DropCause} (h : s.poolPromise) :
    (s.teardown b cause).poolPromise :=
  .modBay (.post (.modBay (.judgeAll (.applyReplacements (.modBay (.modBay (.abandonActivation
    (.writeResumes (.giveUpBlocks (.ite (.judgeAll (.modBay h)) (.modBay h)))))))))))

theorem State.poolPromise.dropLink {cause : DropCause} (h : s.poolPromise) :
    (s.dropLink b cause).poolPromise := by
  unfold State.dropLink
  extract_lets x timer s1 s2
  have h1 : s1.poolPromise := .bumpBy (.modBay h)
  have h2 : s2.poolPromise := .ite h1 h1.teardown
  split
  · exact h
  · exact .ite (.modBay h) h
  all_goals exact .modBay h2

theorem State.poolPromise.withhold {left : BayState} (h : s.poolPromise) :
    (s.withhold b left).poolPromise :=
  .dropEntries (.ite h.judgeAll h)

theorem State.poolPromise.resumeServing {cause : BayCause} (h : s.poolPromise) :
    (s.resumeServing b cause).poolPromise :=
  .build (.assign (.modBay (.judgeAll h.enter)))

theorem State.poolPromise.enterDeparting {cause : BayCause} (h : s.poolPromise) :
    (s.enterDeparting b cause).poolPromise :=
  .withhold (.modBay h.enter)

theorem State.poolPromise.enterHolding (h : s.poolPromise) : (s.enterHolding b).poolPromise :=
  .withhold (.modBay (.modBay h.enter))

theorem State.poolPromise.leaveHolding (h : s.poolPromise) : (s.leaveHolding b).poolPromise :=
  .ite (.enterDeparting (.modBay h)) (.resumeServing (.modBay h))

theorem State.poolPromise.processHello {f : HelloFrame} (h : s.poolPromise) :
    (s.processHello b f).poolPromise := by
  have others : (s.dropDuplicates b f.vehicle).poolPromise :=
    .foldl h fun _ _ h => .dropLink (.modBay h)
  have flushed : ((s.dropDuplicates b f.vehicle).flushForeign b f.vehicle).poolPromise := by
    unfold State.flushForeign
    split
    · exact others
    · exact .ite others (.bumpBy (.modBay others))
  exact .modBay (.requestInventory (.modBay flushed))

theorem State.poolPromise.enterIntake (h : s.poolPromise) : (s.enterIntake b).poolPromise := by
  unfold State.enterIntake
  extract_lets s1 s2
  have h1 : s1.poolPromise := .modBay h.enter
  have h2 : s2.poolPromise := by
    unfold s2
    split
    · exact h1
    · exact .processHello (.modBay h1)
  exact .ite h2.requestInventory h2

theorem State.poolPromise.takeQualified (h : s.poolPromise) : (s.takeQualified b).poolPromise := by
  unfold State.takeQualified
  split
  · exact h.enterIntake
  · exact h.leaveHolding
  all_goals exact h

theorem State.poolPromise.takeQualificationLost (h : s.poolPromise) :
    (s.takeQualificationLost b).poolPromise := by
  unfold State.takeQualificationLost
  split
  · exact h.enter
  · exact h.enterHolding
  · exact h.enterHolding
  all_goals exact h

theorem State.poolPromise.takeTrainingBegun (h : s.poolPromise) :
    (s.takeTrainingBegun b).poolPromise := by
  unfold State.takeTrainingBegun
  split
  · exact h.enter
  all_goals exact h

theorem State.poolPromise.takeTrainingDone {r : RateCode} (h : s.poolPromise) :
    (s.takeTrainingDone b r).poolPromise := by
  unfold State.takeTrainingDone
  split
  · exact h.enter
  all_goals exact h

theorem State.poolPromise.reportVehicle {v : VehicleState} (h : s.poolPromise) :
    (s.reportVehicle b v).poolPromise := by
  unfold State.reportVehicle
  extract_lets s1 s2
  have h1 : s1.poolPromise := .modBay h
  have h2 : s2.poolPromise := by
    unfold s2
    split
    · exact .ite h1.enterDeparting h1
    · exact .ite h1 h1.resumeServing
    all_goals exact h1
  exact .ite h2.look h2

theorem State.poolPromise.takeHeartbeat {code : Byte} (h : s.poolPromise) :
    (s.takeHeartbeat b code).poolPromise := by
  unfold State.takeHeartbeat
  dsimp only
  split
  · exact .modBay h
  · exact .ite h.reportVehicle (.modBay h)

theorem State.poolPromise.takeHello {f : HelloFrame} (h : s.poolPromise) :
    (s.takeHello b f).poolPromise := by
  unfold State.takeHello
  dsimp only
  split
  · exact .modBay h
  · refine .ite (.modBay h) ?_
    split
    · exact .modBay h
    · exact h.processHello
    iterate 3 exact .ite (.reportVehicle (.modBay (.modBay h))) (.modBay h)
    all_goals exact h

/-! ## The version table (01) -/

theorem State.poolPromise.cancelVanished {r : UnitRecord} (h : s.poolPromise) :
    (s.cancelVanished b r).poolPromise := by
  unfold State.cancelVanished
  split
  · exact h
  · exact .setMember (.ite h.abandonActivation h)

theorem State.poolPromise.setServiceTime (h : s.poolPromise) :
    (s.setServiceTime b).poolPromise := by
  unfold State.setServiceTime
  split <;> exact h

theorem State.poolPromise.completeIntake {items : List InventoryItem} (h : s.poolPromise) :
    (s.completeIntake b items).poolPromise := by
  unfold State.completeIntake
  extract_lets a s1 s2 s3
  have h3 : s3.poolPromise :=
    .post (.build (.modBay (.modBay (.setServiceTime (.enter (.bumpBy (.modBay h)))))))
  exact .ite h3.enterDeparting h3

theorem State.poolPromise.refresh {items : List InventoryItem} (h : s.poolPromise) :
    (s.refresh b items).poolPromise :=
  .post (.afterEnd (.modBay (.closeOutAll (.bumpBy (.modBay (.foldl h fun _ _ h =>
    h.cancelVanished))))))

theorem State.poolPromise.takeInventory {items : List InventoryItem} (h : s.poolPromise) :
    (s.takeInventory b items).poolPromise := by
  unfold State.takeInventory
  dsimp only
  split
  · exact .ite h.completeIntake (.modBay h)
  · exact h.refresh
  all_goals exact .modBay h

/-! ## The bay port (06) -/

theorem State.poolPromise.qualify (h : s.poolPromise) : (s.qualify b).poolPromise :=
  .takeQualified (.modBay (.modBay h))

theorem State.poolPromise.losePort {why : BayCounter} (h : s.poolPromise) :
    (s.losePort b why).poolPromise :=
  .ite (.takeQualificationLost (.modBay (.modBay (.modBay (.modBay h))))) (.modBay h)

theorem State.poolPromise.receive {take : State → State} (h : s.poolPromise)
    (ht : ∀ t : State, t.poolPromise → (take t).poolPromise) : (s.receive b take).poolPromise := by
  unfold State.receive
  split
  · have heard : ∀ t : State, t.poolPromise → (t.judgeQualifier b).poolPromise :=
      fun t h => .ite (.qualify (.modBay h)) (.modBay h)
    exact ht _ (.modBay (heard _ (.modBay h)))
  all_goals exact h

theorem State.poolPromise.frameError {sort : BayCounter} (h : s.poolPromise) :
    (s.frameError b sort).poolPromise := by
  unfold State.frameError
  split
  · split
    · exact .modBay h
    · exact .losePort (.modBay h)
  all_goals exact h

theorem State.poolPromise.receiveIf {fits : Bool} {take : State → State} (h : s.poolPromise)
    (ht : ∀ t : State, t.poolPromise → (take t).poolPromise) :
    (s.receiveIf b fits take).poolPromise :=
  .ite (h.receive ht) h.frameError

theorem State.poolPromise.badFrame {bytes : List Byte} (h : s.poolPromise) :
    (s.badFrame b bytes).poolPromise := by
  unfold State.badFrame
  split
  iterate 3 exact h.frameError
  exact h

theorem State.poolPromise.startProbing (h : s.poolPromise) : (s.startProbing b).poolPromise :=
  .takeTrainingBegun (.modBay h)

theorem State.poolPromise.signalDetected (h : s.poolPromise) :
    (s.signalDetected b).poolPromise := by
  unfold State.signalDetected
  dsimp only
  split
  · exact .startProbing (.modBay h)
  all_goals exact .modBay h

theorem State.poolPromise.forcedOver (h : s.poolPromise) : (s.forcedOver b).poolPromise :=
  .ite (.ite h.startProbing (.modBay h)) h

theorem State.poolPromise.trained {r : RateCode} (h : s.poolPromise) :
    (s.trained b r).poolPromise := by
  unfold State.trained
  extract_lets s1 s2
  have h2 : s2.poolPromise := .takeTrainingDone (.modBay (.modBay h))
  exact .ite h2.qualify h2

theorem State.poolPromise.takeCaps {code : Byte} (h : s.poolPromise) :
    (s.takeCaps b code).poolPromise := by
  unfold State.takeCaps
  split
  · exact .ite (.trained (.modBay h)) (.modBay (.modBay h))
  · split
    · exact h
    · exact .trained (.modBay h)
  · exact .receive h fun _ h => .modBay h
  all_goals exact h

theorem State.poolPromise.fallbackFailed (h : s.poolPromise) :
    (s.fallbackFailed b).poolPromise :=
  .ite (.dropLink (.modBay h)) h

theorem State.poolPromise.signalGone (h : s.poolPromise) : (s.signalGone b).poolPromise := by
  unfold State.signalGone
  dsimp only
  split
  iterate 2 exact .dropLink (.modBay h)
  all_goals exact .modBay h

theorem State.poolPromise.watchdogTwo (h : s.poolPromise) : (s.watchdogTwo b).poolPromise := by
  unfold State.watchdogTwo
  split
  · exact h.losePort
  all_goals exact h

theorem State.poolPromise.watchdogEight (h : s.poolPromise) : (s.watchdogEight b).poolPromise := by
  unfold State.watchdogEight
  split
  iterate 2 exact h.dropLink
  all_goals exact h

theorem State.poolPromise.intakeExpired (h : s.poolPromise) : (s.intakeExpired b).poolPromise :=
  .ite (.dropLink (.modBay h)) h

theorem State.poolPromise.holdingExpired (h : s.poolPromise) : (s.holdingExpired b).poolPromise :=
  .ite (.dropLink (.modBay h)) h

end Promise

end Sys2Proof.Machine

namespace Sys2Proof.Machine

/-! SUPPORT. The pool's promise through the transfer of blocks and the course of time
(02, 03, 04). -/

section Promise
variable {s : State} {b : BayId} {st : StreamId} {sl : SlotId} {p : Place} {c : ChannelId}

/-! ## The transfer of blocks (02, 03) -/

/-- A credit spent by a dropped frame is gone before the arbiter evaluates (02 R31, R32). -/
theorem State.poolPromise.spendDropped (h : s.poolPromise) : (s.spendDropped st).poolPromise := by
  unfold State.spendDropped
  split
  · next held =>
    have spent := (s.stream st).held_spent held
    exact .arbitrate (h.modStream (by omega))
  · exact h

/-- Moving the carousel leaves the credits. -/
theorem State.poolPromise.advance {n : Nat} (h : s.poolPromise) : (s.advance st n).poolPromise :=
  h.modStream (by split <;> exact Nat.le_refl _)

/-- An accepted block leaves room for itself: its credit is spent (02 R34, R40). -/
theorem State.acceptBlock_room {n : Nat} (h : s.poolPromise) (held : 0 < (s.stream st).held) :
    (s.acceptBlock st n).occupied + (s.acceptBlock st n).totalHeld + 1 ≤ Config.poolSlots := by
  have credits := s.modStream_totalHeld st (Stream.tookIn n)
  have spent : ((s.stream st).tookIn n).held + 1 = (s.stream st).held := Stream.held_spent _ held
  have slots : (s.modStream st (Stream.tookIn n)).occupied = s.occupied := rfl
  unfold State.poolPromise at h
  rw [State.acceptBlock_eq]
  omega

theorem State.poolPromise.takeBlock {d : Nat} (h : s.poolPromise) :
    (s.takeBlock b sl p c d).poolPromise := by
  unfold State.takeBlock
  split
  · exact h
  · exact .modBay (.bumpIf (.modBay h))

/-- A slot filled where there is room for it. -/
theorem State.poolPromise_of_room {o : Option Slot}
    (room : s.occupied + s.totalHeld + 1 ≤ Config.poolSlots) :
    ({ s with pool := s.pool.set sl o } : State).poolPromise := by
  have slots := s.setSlot_occupied sl o
  have credits : ({ s with pool := s.pool.set sl o } : State).totalHeld = s.totalHeld := rfl
  have one : o.isSome.toNat ≤ 1 := Bool.toNat_le _
  unfold State.poolPromise
  omega

theorem State.poolPromise.afterOffer (h : s.poolPromise) : (s.afterOffer st).poolPromise :=
  .ite h.arbitrate.judge.makeDue h.arbitrate.judge

theorem State.poolPromise.countStream {k : StreamCounter} (h : s.poolPromise) :
    (s.countStream st k).poolPromise :=
  h.modStream (Nat.le_refl _)

/-- An accepted block fills a slot at most (02 R35). -/
theorem State.offerBlock_poolPromise {f : BlockFrame} {t : State}
    (room : s.occupied + s.totalHeld + 1 ≤ Config.poolSlots)
    (e : s.offerBlock st f = .next t) : t.poolPromise := by
  unfold State.offerBlock at e
  dsimp only at e
  split at e
  · cases e
    exact .afterOffer (.countStream ((Nat.le_succ _).trans room))
  · split at e
    · cases e
    · cases e
      exact .afterOffer (.foldl (State.poolPromise_of_room room) fun _ _ h => h.takeBlock)

theorem State.poolPromise.judgeBlock {f : BlockFrame} {t : State} (h : s.poolPromise)
    (e : s.judgeBlock st f = .next t) : t.poolPromise := by
  unfold State.judgeBlock at e
  dsimp only at e
  split at e
  · cases e; exact h.countStream
  split at e
  · cases e; exact .spendDropped (.advance h.countStream)
  split at e
  · cases e; exact .spendDropped h.countStream
  split at e
  · cases e; exact h.countStream
  · next held =>
    exact State.offerBlock_poolPromise
      (State.acceptBlock_room h (Nat.pos_of_ne_zero held)) e

theorem State.poolPromise.takeBlockFrame {f : BlockFrame} {t : State} (h : s.poolPromise)
    (e : s.takeBlockFrame f = .next t) : t.poolPromise := by
  unfold State.takeBlockFrame State.arriveBlock at e
  split at e
  · split at e
    · split at e
      · cases e; exact h
      · exact State.poolPromise.judgeBlock (s := s.count .validUplinkFrames) h e
    · cases e; exact h
  · cases e; exact h

theorem State.poolPromise.probeReceived {n : Nat} (h : s.poolPromise) :
    (s.probeReceived b c n).poolPromise := by
  unfold State.probeReceived
  split <;> exact h

theorem State.poolPromise.probeTimedOut {n : Nat} (h : s.poolPromise) :
    (s.probeTimedOut b c n).poolPromise := by
  unfold State.probeTimedOut
  split <;> exact h

theorem State.poolPromise.startProbe {n : Nat} (h : s.poolPromise) :
    (s.startProbe b c n).poolPromise := by
  unfold State.startProbe
  split <;> exact h

theorem State.poolPromise.removeOffset {d : Nat} (h : s.poolPromise) :
    (s.removeOffset b p d).poolPromise := by
  unfold State.removeOffset
  split
  · exact h
  · exact .bumpIf (.modBay h)

theorem State.poolPromise.applyReceipt {n : Nat} (h : s.poolPromise) :
    (s.applyReceipt b c p n).poolPromise := by
  unfold State.applyReceipt
  split
  · exact .ite (.modBay (.removeOffset (.probeReceived (.modBay h))))
      (.ite (.modBay h.removeOffset) (.modBay h))
  · exact h

theorem State.poolPromise.takeReceipt {f : ReceiptFrame} (h : s.poolPromise) :
    (s.takeReceipt b f).poolPromise := by
  unfold State.takeReceipt
  split
  · exact .modBay h
  · exact .judgeMoved (.checkCompletion (.foldl h fun _ _ h => h.applyReceipt))

theorem State.poolPromise.flightTimedOut (h : s.poolPromise) :
    (s.flightTimedOut b c).poolPromise := by
  unfold State.flightTimedOut
  split
  · exact h
  · split
    · exact h
    · exact .judgeMoved (.modBay (.makeNeeded (.probeTimedOut (.modBay h))))

theorem State.poolPromise.receiptTimeouts (h : s.poolPromise) : s.receiptTimeouts.poolPromise := by
  have due : ∀ (n : Nat) (t : State) (b : BayId) (c : ChannelId), t.poolPromise →
      (State.flightsDue n t b c).poolPromise := by
    intro n
    induction n with
    | zero => exact fun _ _ _ ht => ht
    | succ n ih => exact fun t b c ht => .ite (ih _ _ _ ht.flightTimedOut) ht
  exact .forBays h fun b _ ht => .foldl ht fun _ c hu => due 16 _ b c hu

theorem State.poolPromise.openGivenUp (h : s.poolPromise) : (s.openGivenUp b c p).poolPromise :=
  .assign (.modBay h.freeChannel)

theorem State.poolPromise.takeOpenAck {f : OpenAckFrame} (h : s.poolPromise) :
    (s.takeOpenAck b f).poolPromise := by
  unfold State.takeOpenAck
  split
  · exact .modBay h
  · exact .ite (.ite (.openGivenUp (.modBay h)) (.judge (.checkCompletion (.modBay (.modBay
      (.modBay h)))))) (.modBay h)

theorem State.poolPromise.openExpiry (h : s.poolPromise) : (s.openExpiry b c).poolPromise := by
  unfold State.openExpiry
  split
  · exact h
  · split
    · exact h
    · exact .ite h (.ite (.openGivenUp (.modBay h)) (.ite (.modBay h) (.modBay (.modBay h))))

theorem State.poolPromise.afterClose (h : s.poolPromise) : (s.afterClose b p).poolPromise :=
  .look (.ite h.closeOut.afterEnd h.closeOut.assign)

theorem State.poolPromise.failMember {u : UnitAddr} (h : s.poolPromise) :
    (s.failMember b p u).poolPromise :=
  .modBay h.setMember

theorem State.poolPromise.stageMember {u : UnitAddr} {v : Version} (h : s.poolPromise) :
    (s.stageMember b p u v).poolPromise :=
  .modBay h.setMember

theorem State.poolPromise.closeGood {j : Job} {f : CloseResultFrame} (h : s.poolPromise) :
    (s.closeGood b c p j f).poolPromise := by
  unfold State.closeGood
  refine .afterClose (.modBay (.freeChannel ?_))
  refine .foldl h fun t u h => ?_
  exact .ite h.stageMember h.failMember

theorem State.poolPromise.closeFailed {j : Job} (h : s.poolPromise) :
    (s.closeFailed b c p j).poolPromise :=
  .ite (.afterClose (.modBay h.freeChannel))
    (.afterClose (.modBay (.freeChannel (.foldl (.modBay h) fun _ _ h => h.failMember))))

theorem State.poolPromise.takeCloseResult {f : CloseResultFrame} (h : s.poolPromise) :
    (s.takeCloseResult b f).poolPromise := by
  unfold State.takeCloseResult
  split
  · exact .modBay h
  · exact .ite (.ite h.closeGood (.closeFailed (.modBay h))) (.modBay h)

theorem State.poolPromise.closeExpiry (h : s.poolPromise) : (s.closeExpiry b c).poolPromise := by
  unfold State.closeExpiry
  split
  · exact h
  · split
    · exact h
    · exact .ite (.closeFailed (.modBay h)) h

/-! ## Time (04) -/

theorem State.poolPromise.recompute (h : s.poolPromise) : (s.recompute b).poolPromise := by
  have late : ∀ (t : State) (n : Nat) (w : Word), t.poolPromise →
      (t.enterLate b n w).poolPromise := by
    intro t n w ht
    unfold State.enterLate
    dsimp only
    split
    · exact ht
    · exact .ite (.modBay ht.post) ht
  unfold State.recompute
  refine .ite (.modBay h) ?_
  split
  · exact .modBay h
  · exact .ite (.modBay h) (late _ _ _ (.modBay h))

theorem State.poolPromise.expireRecords (h : s.poolPromise) : s.expireRecords.poolPromise := by
  refine .foldl h fun t p ht => ?_
  split
  · exact ht
  · exact .ite ht ht

theorem State.poolPromise.secondEvent (h : s.poolPromise) : s.secondEvent.poolPromise :=
  .ite h (.lookAll (.expireRecords (.forBays h fun _ _ h => h.recompute)))

theorem State.poolPromise.advanceSub (h : s.poolPromise) : s.advanceSub.poolPromise :=
  .ite (.secondEvent h) h

theorem State.poolPromise.takeIf {due : State → Bool} {take : State → State} (h : s.poolPromise)
    (ht : ∀ t : State, t.poolPromise → (take t).poolPromise) : (s.takeIf due take).poolPromise :=
  .ite (ht s h) h

theorem State.poolPromise.activationExpiry (h : s.poolPromise) :
    (s.activationExpiry b).poolPromise := by
  unfold State.activationExpiry
  split
  · exact h.firstExpiry
  · exact h.secondExpiry
  all_goals exact h

theorem State.poolPromise.switchFailed (h : s.poolPromise) : (s.switchFailed b).poolPromise :=
  .ite (.modBay (.modBay h)) h

theorem State.poolPromise.resendCaps (h : s.poolPromise) : (s.resendCaps b).poolPromise :=
  .ite (.modBay h) h

theorem State.poolPromise.channelTimers (h : s.poolPromise) :
    (s.channelTimers b c).poolPromise :=
  .takeIf (.takeIf h fun _ h => h.openExpiry) fun _ h => h.closeExpiry

theorem State.poolPromise.portTimers (h : s.poolPromise) : (s.portTimers b).poolPromise := by
  unfold State.portTimers
  refine .takeIf ?_ fun _ h => h.watchdogEight
  refine .takeIf ?_ fun _ h => h.watchdogTwo
  refine .takeIf ?_ fun _ h => h.resendCaps
  refine .takeIf ?_ fun _ h => h.forcedOver
  refine .takeIf ?_ fun _ h => h.fallbackFailed
  exact .takeIf h fun _ h => h.switchFailed

theorem State.poolPromise.bayTimers (h : s.poolPromise) : (s.bayTimers b).poolPromise := by
  unfold State.bayTimers
  refine .takeIf ?_ fun _ h => h.holdingExpired
  refine .takeIf ?_ fun _ h => h.intakeExpired
  refine .portTimers (.takeIf ?_ fun _ h => h.activationExpiry)
  exact .foldl h fun _ _ h => h.channelTimers

theorem State.poolPromise.millisecond (h : s.poolPromise) : s.millisecond.poolPromise :=
  .ite (.advanceSub h) (.receiptTimeouts (.forBays (.expireSlots (.advanceSub (.ageStreams h)))
    fun _ _ h => h.bayTimers))

theorem State.poolPromise.idle (h : s.poolPromise) : s.idle.poolPromise :=
  .ite (.millisecond h) h

end Promise

end Sys2Proof.Machine

namespace Sys2Proof.Machine

/-! SUPPORT and PROOFS. The pool's promise through resets, the uplink, requests and the bay
transmitter, and with them through every command (06, 08). -/

section Promise
variable {s : State} {b : BayId} {st : StreamId} {sl : SlotId} {p : Place} {c : ChannelId}

/-! ## Reset and the uplink (08) -/

theorem State.reset_poolPromise : State.reset.poolPromise := by
  unfold State.poolPromise
  decide

/-- What a reset keeps of the state leaves the streams CLOSED and the pool free (08 R164). -/
theorem State.clear_poolPromise : s.clear.poolPromise :=
  State.reset_poolPromise.of_same rfl rfl

theorem State.poolPromise.postStart {q : Bool} (h : s.poolPromise) :
    (s.postStart q).poolPromise :=
  .post h

theorem State.poolPromise.completeReset {cause : ResetCause} {straps : BitVec 4}
    (h : s.poolPromise) : (s.completeReset cause straps).poolPromise :=
  .postStart h

theorem State.resetByRequest_poolPromise : s.resetByRequest.poolPromise := by
  have began : s.beginReset.poolPromise := State.clear_poolPromise (s := s.saveJobs)
  have ended := began.completeReset (cause := .request) (straps := Config.strapPins s.strapReads)
  exact ended.of_same rfl rfl

theorem State.poolPromise.pinAsserted (h : s.poolPromise) : s.pinAsserted.poolPromise := by
  have began : s.beginReset.poolPromise := State.clear_poolPromise (s := s.saveJobs)
  exact .ite h (began.of_same rfl rfl)

theorem State.poweredOn_poolPromise {straps : BitVec 4} : (s.poweredOn straps).poolPromise := by
  unfold State.poweredOn
  refine .postStart ?_
  exact State.reset_poolPromise.of_same rfl rfl

theorem State.poolPromise.linkUp (h : s.poolPromise) : s.linkUp.poolPromise := by
  unfold State.linkUp
  refine .ite h (.ite ?_ h)
  refine .foldl ?_ fun t a h => ?_
  · exact .post h
  · exact h.makeDue

theorem State.poolPromise.linkDown (h : s.poolPromise) : s.linkDown.poolPromise := by
  unfold State.linkDown
  refine .ite h (.ite State.resetByRequest_poolPromise ?_)
  refine State.poolPromise.foldl (f := fun t _ => t.discardResponse) ?_ fun _ _ h => h
  split <;> exact h

theorem State.poolPromise.respond {dest : Address} {kind : Byte} {tag : Half} {code : Code}
    {body : List Byte} (h : s.poolPromise) : (s.respond dest kind tag code body).poolPromise :=
  .ite h h

theorem State.poolPromise.rejectFrame {f : EthFrame} (h : s.poolPromise) :
    (s.rejectFrame f).poolPromise := by
  refine .ite ?_ h
  split <;> exact h

theorem State.poolPromise.takeRequest {f : RequestFrame} (h : s.poolPromise) :
    (s.takeRequest f).poolPromise := by
  have answered : ∀ (t : State) (kind : Byte) (tag : Half) (code : Code) (k : BridgeCounter),
      t.poolPromise → (t.answerAtArrival f.src kind tag code k).poolPromise :=
    fun t _ _ _ _ ht => ht.respond
  have judged : ∀ t : State, t.poolPromise → (t.judgeRequest f).poolPromise := by
    intro t ht
    refine .ite (answered _ _ _ _ _ ht) (.ite (answered _ _ _ _ _ ht)
      (.ite (answered _ _ _ _ _ ht) ?_))
    split
    · exact answered _ _ _ _ _ ht
    · exact ht
  exact .ite (judged _ h) h

theorem State.poolPromise.queuePassDown {body : List Byte} (h : s.poolPromise) :
    (s.queuePassDown b body).poolPromise :=
  .ite (.modBay h) (.modBay h)

theorem State.poolPromise.takePassDown {f : PassDownFrame} (h : s.poolPromise) :
    (s.takePassDown f).poolPromise := by
  refine .ite (.ite ?_ h) h
  split
  · exact h
  · exact .queuePassDown h

theorem State.poolPromise.sendResponse (h : s.poolPromise) : s.sendResponse.poolPromise := by
  unfold State.sendResponse
  split
  · exact .ite State.resetByRequest_poolPromise h
  · exact h

theorem State.poolPromise.sendNotice (h : s.poolPromise) : s.sendNotice.poolPromise := by
  unfold State.sendNotice
  split <;> exact h

theorem State.poolPromise.sendStreamStatus (h : s.poolPromise) :
    s.sendStreamStatus.poolPromise := by
  unfold State.sendStreamStatus
  split <;> exact h

theorem State.poolPromise.sendPassUp (h : s.poolPromise) : s.sendPassUp.poolPromise := by
  unfold State.sendPassUp
  split <;> exact h

/-! ## Requests (08) -/

theorem State.poolPromise.store {q : Parameter} {v : Nat} (h : s.poolPromise) :
    (s.store q v).poolPromise := by
  have window : (s.setWindow v).poolPromise := .ite (.arbitrate (.zeroAges h)) (.zeroAges h)
  cases q
  case holdLimit => exact .expireSlots h
  case streamWindow => exact window
  case receiptTimeout => exact .receiptTimeouts h
  case windowStart => exact .lookAll h
  case windowEnd => exact .lookAll h
  all_goals exact h

theorem State.poolPromise.done {body : List Byte} (h : s.poolPromise) :
    (s.done body).state.poolPromise := h

theorem State.poolPromise.refuse {code : Code} (h : s.poolPromise) :
    (s.refuse code).state.poolPromise := h

theorem State.poolPromise.modEntry {i : EntryId} {f : Entry → Entry} (h : s.poolPromise) :
    (s.modEntry i f).poolPromise := h

theorem State.poolPromise.openStream {x y : Byte} {l m : Half} (h : s.poolPromise) :
    (s.openStream x y l m).state.poolPromise := by
  unfold State.openStream
  split
  · exact .refuse h
  · split
    · exact .refuse h
    · exact .done (.makeDue (h.modStream (by simp [Stream.held, Stream.opened])))

theorem State.poolPromise.closeStream {x : Byte} (h : s.poolPromise) :
    (s.closeStream x).state.poolPromise := by
  unfold State.closeStream
  split
  · exact .refuse h
  · next st _ =>
    split
    · exact .refuse h
    · have freed : (s.freeSlotsOf st).poolPromise := by
        refine .foldl h fun t sl ht => ?_
        split
        · exact ht
        · exact .ite ht.detachSlot ht
      have closed : ∀ (t : State) (l : List StreamId), t.poolPromise →
          ({ t with due := l } : State).poolPromise := fun _ _ ht => ht
      exact .done (.arbitrate (closed _ _ (freed.modStream (by simp [Stream.held, Stream.revoke]))))

theorem State.poolPromise.setLevel {x y : Byte} (h : s.poolPromise) :
    (s.setLevel x y).state.poolPromise := by
  unfold State.setLevel
  split
  · exact .refuse h
  · split
    · exact .done (h.modStream (Nat.le_refl _))
    · exact .refuse h

theorem State.poolPromise.writeConfig {x y : Byte} {v : Word} (h : s.poolPromise) :
    (s.writeConfig x y v).state.poolPromise := by
  unfold State.writeConfig
  split
  · exact .refuse h
  · exact .refuse h
  · exact .done h.store

theorem State.poolPromise.applyWrite {i : EntryId} {f : EntryFields} (h : s.poolPromise) :
    (s.applyWrite i f).state.poolPromise := by
  unfold State.applyWrite
  split
  · exact .done (.modEntry h)
  · exact .done (.buildAll (.modEntry h))

theorem State.poolPromise.writeEntry {x y z : Byte} {k m t v : Word} (h : s.poolPromise) :
    (s.writeEntry x y z k m t v).state.poolPromise := by
  unfold State.writeEntry
  split
  · dsimp only
    split
    · exact .refuse h
    · split
      · exact .refuse h
      · exact h.applyWrite
  · exact .refuse h

theorem State.poolPromise.withdraw {i : EntryId} (h : s.poolPromise) :
    (s.withdraw i).poolPromise := by
  unfold State.withdraw
  refine .buildAll (.applyReplacements (.modEntry (.forBays (.forBays (.forBays (.modEntry h) ?_)
    fun _ _ h => h.closeOutAll) fun _ _ h => h.assign)))
  intro b t ht
  rw [State.withdrawFrom_eq]
  exact .modBay (f := fun _ => (t.bay b).withdraw i) ht

theorem State.poolPromise.withdrawEntry {x : Byte} (h : s.poolPromise) :
    (s.withdrawEntry x).state.poolPromise := by
  unfold State.withdrawEntry
  split
  · exact .refuse h
  · split
    · exact .done h.withdraw
    · exact .refuse h

theorem State.poolPromise.releaseEntry {x : Byte} (h : s.poolPromise) :
    (s.releaseEntry x).state.poolPromise := by
  unfold State.releaseEntry
  split
  · exact .refuse h
  · split
    · exact .done (.lookAll (.modEntry h))
    · exact .refuse h

theorem State.poolPromise.loadInto {v w : Word} (h : s.poolPromise) :
    (s.loadInto v w).1.poolPromise := by
  unfold State.loadInto
  split
  · exact h
  · split
    · split <;> exact h
    · split
      · exact h
      · split <;> exact h

theorem State.poolPromise.loadDeparture {x : Byte} {v w : Word} (h : s.poolPromise) :
    (s.loadDeparture x v w).state.poolPromise := by
  unfold State.loadDeparture
  split
  · exact .refuse h
  · exact h.loadInto

theorem State.poolPromise.clearBlock {x y : Byte} (h : s.poolPromise) :
    (s.clearBlock x y).state.poolPromise := by
  unfold State.clearBlock
  split
  · split
    · exact .refuse h
    · exact .done (.build (.modBay h))
  · exact .refuse h

theorem State.poolPromise.readCounters {x y z : Byte} (h : s.poolPromise) :
    (s.readCounters x y z).state.poolPromise := by
  unfold State.readCounters
  dsimp only
  split
  · split
    · exact .refuse h
    · exact .done (.ite (.modBay h) h)
  · split
    · exact .refuse h
    · exact .done (.ite (h.modStream (Nat.le_refl _)) h)
  · exact .done (.ite h h)
  · exact .refuse h

theorem State.poolPromise.resetBay {x : Byte} (h : s.poolPromise) :
    (s.resetBay x).state.poolPromise := by
  unfold State.resetBay
  split
  · exact .refuse h
  · exact .done h.dropLink

/-- What a reading request answers leaves the state (03 R72, 08 R152, R153). -/
@[simp] theorem State.readConfig_state (s : State) (x y : Byte) : (s.readConfig x y).state = s := by
  unfold State.readConfig
  split <;> rfl

@[simp] theorem State.readEntry_state (s : State) (x : Byte) : (s.readEntry x).state = s := by
  unfold State.readEntry
  split <;> rfl

@[simp] theorem State.readBay_state (s : State) (x : Byte) : (s.readBay x).state = s := by
  unfold State.readBay
  split <;> rfl

@[simp] theorem State.readJob_state (s : State) (x y : Byte) : (s.readJob x y).state = s := by
  unfold State.readJob
  split <;> rfl

@[simp] theorem State.readInventory_state (s : State) (x : Byte) :
    (s.readInventory x).state = s := by
  unfold State.readInventory
  split <;> rfl

@[simp] theorem State.readResume_state (s : State) (x : Byte) : (s.readResume x).state = s := by
  unfold State.readResume
  split <;> rfl

theorem State.poolPromise.answer {q : QueuedRequest} {a : Answer} (h : a.state.poolPromise) :
    (State.answer q a).poolPromise :=
  .respond (.ite h h)

/-- A request executed keeps the promise when its handler's answer does. -/
theorem State.poolPromise.execute {handle : State → Request → Option Answer} (h : s.poolPromise)
    (ha : ∀ (t : State) (r : Request) (a : Answer), t.poolPromise → handle t r = some a →
      a.state.poolPromise) : (s.execute handle).poolPromise := by
  refine .ite ?_ h
  split
  · exact h
  · split
    · exact h
    · next q rest a e => exact .answer (ha _ _ _ (by exact h) e)

/-! ## The bay transmitter (06) -/

theorem State.poolPromise.sendCaps (h : s.poolPromise) : (s.sendCaps b).poolPromise := by
  unfold State.sendCaps
  split <;> exact h

theorem State.poolPromise.sendRetrain (h : s.poolPromise) : (s.sendRetrain b).poolPromise := by
  unfold State.sendRetrain
  split <;> exact h

theorem State.poolPromise.sendChannelOpen (h : s.poolPromise) :
    (s.sendChannelOpen b).poolPromise := by
  unfold State.sendChannelOpen
  split <;> exact h

theorem State.poolPromise.sendChannelClose (h : s.poolPromise) :
    (s.sendChannelClose b).poolPromise := by
  unfold State.sendChannelClose
  split <;> exact h

theorem State.poolPromise.sendActivateFrame (h : s.poolPromise) :
    (s.sendActivateFrame b).poolPromise := by
  unfold State.sendActivateFrame
  split
  · split
    · exact .ite (.modBay (.modBay (.sendActivate (.modBay h)))) (.sendActivate (.modBay h))
    all_goals exact h
  · exact h

theorem State.poolPromise.sendRevert (h : s.poolPromise) : (s.sendRevert b).poolPromise := by
  unfold State.sendRevert
  split
  · next u previous _ =>
    have sent : ((s.controlSent b (.revert u previous)).bump b .revertsSent).poolPromise :=
      .modBay (.modBay (.modBay (.modBay h)))
    dsimp only
    split
    · exact .modBay sent
    all_goals exact sent
  · exact h

theorem State.poolPromise.sendInventoryRequest (h : s.poolPromise) :
    (s.sendInventoryRequest b).poolPromise := by
  unfold State.sendInventoryRequest
  split <;> exact h

theorem State.poolPromise.sendEntry {e : TxEntry} {x : Slot} (h : s.poolPromise) :
    (s.sendEntry b e x).poolPromise := by
  unfold State.sendEntry
  refine .leaveSlot (.modBay (.modBay (.startProbe ?_)))
  exact .modBay (.modBay h)

theorem State.poolPromise.sendBlock (h : s.poolPromise) : (s.sendBlock b).poolPromise := by
  unfold State.sendBlock
  split
  · split
    · exact h
    · exact h.sendEntry
  · exact h

theorem State.poolPromise.sendPassDown (h : s.poolPromise) : (s.sendPassDown b).poolPromise := by
  unfold State.sendPassDown
  split <;> exact h

/-! ## Every command -/

theorem exec_poolPromise {i : Instr} {t : State} (h : s.poolPromise) (e : exec i s = .next t) :
    t.poolPromise := by
  cases i
  case block => exact h.takeBlockFrame e
  case resetBridge =>
    have halted : (s.execute handleResetBridge).poolPromise :=
      h.execute fun t r a ht e => by cases r <;> cases e; exact ht
    change (if _ then Host.Outcome.next _ else Host.Outcome.next _ : Result) = .next t at e
    split at e
    · cases e; exact State.resetByRequest_poolPromise
    · cases e; exact halted
  all_goals cases e
  -- power, reset and the uplink
  case powerOnComplete => exact State.poweredOn_poolPromise
  case resetPinAsserted => exact h.pinAsserted
  case resetPinReleased => exact .ite h.completeReset h
  case uplinkLinkUp => exact h.linkUp
  case uplinkLinkDown => exact h.linkDown
  case uplinkFrameRejected => exact h.rejectFrame
  case requestArrival => exact h.takeRequest
  case passDown => exact h.takePassDown
  case sendResponse => exact h.sendResponse
  case sendNotice => exact h.sendNotice
  case sendStreamStatus => exact h.sendStreamStatus
  case sendPassUp => exact h.sendPassUp
  -- requests
  case setClock =>
    exact h.execute fun t r a ht e => by cases r <;> cases e; exact .done (.secondEvent ht)
  case readStatus =>
    exact h.execute fun t r a ht e => by cases r <;> cases e; exact .done ht
  case writeConfig =>
    exact h.execute fun t r a ht e => by cases r <;> cases e; exact ht.writeConfig
  case readConfig =>
    exact h.execute fun t r a ht e => by cases r <;> cases e; rwa [State.readConfig_state]
  case openStream =>
    exact h.execute fun t r a ht e => by cases r <;> cases e; exact ht.openStream
  case closeStream =>
    exact h.execute fun t r a ht e => by cases r <;> cases e; exact ht.closeStream
  case setLevel =>
    exact h.execute fun t r a ht e => by cases r <;> cases e; exact ht.setLevel
  case writeEntry =>
    exact h.execute fun t r a ht e => by cases r <;> cases e; exact ht.writeEntry
  case readEntry =>
    exact h.execute fun t r a ht e => by cases r <;> cases e; rwa [State.readEntry_state]
  case withdrawEntry =>
    exact h.execute fun t r a ht e => by cases r <;> cases e; exact ht.withdrawEntry
  case releaseEntry =>
    exact h.execute fun t r a ht e => by cases r <;> cases e; exact ht.releaseEntry
  case loadDeparture =>
    exact h.execute fun t r a ht e => by cases r <;> cases e; exact ht.loadDeparture
  case readBay =>
    exact h.execute fun t r a ht e => by cases r <;> cases e; rwa [State.readBay_state]
  case readJob =>
    exact h.execute fun t r a ht e => by cases r <;> cases e; rwa [State.readJob_state]
  case readInventory =>
    exact h.execute fun t r a ht e => by cases r <;> cases e; rwa [State.readInventory_state]
  case clearBlock =>
    exact h.execute fun t r a ht e => by cases r <;> cases e; exact ht.clearBlock
  case readResume =>
    exact h.execute fun t r a ht e => by cases r <;> cases e; rwa [State.readResume_state]
  case readCounters =>
    exact h.execute fun t r a ht e => by cases r <;> cases e; exact ht.readCounters
  case setNoticeMask =>
    exact h.execute fun t r a ht e => by cases r <;> cases e; exact ht
  case resetBay =>
    exact h.execute fun t r a ht e => by cases r <;> cases e; exact ht.resetBay
  -- time and expiries
  case secondEvent => exact .secondEvent h
  case holdLimitExpiry => exact h.detachSlot
  case openTimerExpiry => exact h.openExpiry
  case receiptTimeout => exact h.flightTimedOut
  case closeTimerExpiry => exact h.closeExpiry
  case activationFirstExpiry => exact h.firstExpiry
  case activationSecondExpiry => exact h.secondExpiry
  case switchTimerExpiry => exact h.switchFailed
  case switchFallbackExpiry => exact h.fallbackFailed
  case forcedPeriodEnd => exact h.forcedOver
  case capsResend => exact h.resendCaps
  case watchdogTwoPeriods => exact h.watchdogTwo
  case watchdogEightPeriods => exact h.watchdogEight
  case intakeTimerExpiry => exact h.intakeExpired
  case holdingTimerExpiry => exact h.holdingExpired
  -- bay links and the agent's frames
  case signalDetect => exact h.signalDetected
  case signalAtNewRate => exact .ite (.modBay h) h
  case signalAtFallbackRate => exact .ite (.modBay h) h
  case signalLost => exact h.signalGone
  case bayFrameError => exact h.badFrame
  case frameCutShort => exact .modBay h
  case agentCaps => exact h.takeCaps
  case hello => exact h.receive fun _ h => h.takeHello
  case heartbeat => exact h.receive fun _ h => h.takeHeartbeat
  case inventory => exact h.receiveIf fun _ h => h.takeInventory
  case openAck => exact h.receive fun _ h => h.takeOpenAck
  case receipt => exact h.receiveIf fun _ h => h.takeReceipt
  case closeResult => exact h.receiveIf fun _ h => h.takeCloseResult
  case unitReport => exact h.receive fun _ h => h.judgeReport
  case passUp => exact h.receiveIf fun _ h => .ite h (.modBay h)
  -- the bay transmitter
  case sendCaps => exact h.sendCaps
  case sendRetrain => exact h.sendRetrain
  case sendChannelOpen => exact h.sendChannelOpen
  case sendChannelClose => exact h.sendChannelClose
  case sendActivate => exact h.sendActivateFrame
  case sendRevert => exact h.sendRevert
  case sendInventoryRequest => exact h.sendInventoryRequest
  case sendBlock => exact h.sendBlock
  case sendPassDown => exact h.sendPassDown

end Promise

/-- Settles O4: an idle step and every command keep the promise, whose credits the grants take from
what is spare and whose slots the accepted blocks pay for. -/
theorem poolPromiseKept : Obligations.PoolPromiseKept := by
  intro s t h e
  unfold step at e
  split at e
  · cases e
    exact h.idle
  · next rest _ => exact exec_poolPromise (s := { s with pending := rest }) h e

/-- Settles O3: at power-on the queues are empty, no slot is occupied and no credit held, and the
configuration values are those of 08's table. -/
theorem invariantsAtReset : Obligations.InvariantsAtReset := by
  refine ⟨State.reset_poolPromise, ?_, ?_⟩
  · unfold State.queuesBounded
    decide
  · intro q
    cases q
    case maxRate b => exact ⟨Nat.zero_le _, Nat.le_of_lt_succ (Fin.isLt _)⟩
    all_goals decide

end Sys2Proof.Machine

namespace Sys2Proof.Machine

/-! SUPPORT and PROOFS. What grants and judgements leave of a stream, and the drops of a BLOCK
(02 R30 to R33, R40 to R45). -/

/-! ## What the arbiter and a judgement leave of a stream -/

/-- What of a stream no grant changes: all but its credit limit and its age (02 R40). -/
def Stream.footing (x : Stream) : Stream := { x with limit := 0, age := 0 }

/-- What of a stream no judgement changes: all but its limit, age, satisfaction and resume point
(02 R42, R43, R45). -/
def Stream.record (x : Stream) : Stream := { x.footing with satisfied := false, resume := 0 }

theorem Stream.fields_of_record {x y : Stream} (h : y.record = x.record) :
    y.isOpen = x.isOpen ∧ y.length = x.length ∧ y.position = x.position ∧
      y.accepted = x.accepted ∧ y.counters = x.counters := by
  have keep {α : Type} (g : Stream → α) : g y.record = g x.record := congrArg g h
  exact ⟨keep Stream.isOpen, keep Stream.length, keep Stream.position, keep Stream.accepted,
    keep Stream.counters⟩

theorem Stream.judgement_of_footing {x y : Stream} (h : y.footing = x.footing) :
    y.satisfied = x.satisfied ∧ y.resume = x.resume := by
  have keep {α : Type} (g : Stream → α) : g y.footing = g x.footing := congrArg g h
  exact ⟨keep Stream.satisfied, keep Stream.resume⟩

theorem Stream.record_of_footing {x y : Stream} (h : y.footing = x.footing) :
    y.record = x.record := by
  simp only [Stream.record, h]

/-- A view of the streams that a change of one stream does not show. -/
theorem State.modStream_view {α : Type} (g : Stream → α) {s : State} {st : StreamId}
    {f : Stream → Stream} (h : ∀ x, g (f x) = g x) (tt : StreamId) :
    g ((s.modStream st f).stream tt) = g (s.stream tt) := by
  by_cases e : st = tt
  · subst e; rw [State.modStream_stream, h]
  · rw [State.modStream_stream_ne s f e]

@[simp] theorem State.grantTo_footing (s : State) (st tt : StreamId) :
    ((s.grantTo st).stream tt).footing = (s.stream tt).footing := by
  rw [State.grantTo, State.makeDue_stream]
  exact State.modStream_view Stream.footing (fun _ => by rfl) tt

@[simp] theorem State.arbitrate_footing (s : State) (st : StreamId) :
    (s.arbitrate.stream st).footing = (s.stream st).footing :=
  State.arbitrate_inv (fun t => (t.stream st).footing = (s.stream st).footing) rfl
    fun t tt ht _ => (t.grantTo_footing tt st).trans ht

theorem State.arbitrate_record (s : State) (st : StreamId) :
    (s.arbitrate.stream st).record = (s.stream st).record :=
  Stream.record_of_footing (s.arbitrate_footing st)

theorem State.mem_makeDue {s : State} {st tt : StreamId} :
    tt ∈ (s.makeDue st).due ↔ tt ∈ s.due ∨ tt = st := by
  unfold State.makeDue
  split
  · next h => exact ⟨.inl, fun m => m.elim id fun e => e ▸ h⟩
  · simp

/-- A CLOSED stream gets no grant, and its status becomes due by none (02 R39, R40). -/
theorem State.arbitrate_closed {s : State} {st : StreamId} (h : (s.stream st).isOpen = false) :
    s.arbitrate.stream st = s.stream st ∧ (st ∈ s.arbitrate.due → st ∈ s.due) := by
  refine State.arbitrate_inv
    (fun t => t.stream st = s.stream st ∧ (st ∈ t.due → st ∈ s.due)) ⟨rfl, id⟩ ?_
  intro t tt ⟨hst, hdue⟩ hw
  have ne : tt ≠ st := by
    rintro rfl
    simp [Stream.wanting, hst, h] at hw
  rw [State.grantTo]
  refine ⟨by rw [State.makeDue_stream, State.modStream_stream_ne _ _ ne, hst], fun m => hdue ?_⟩
  exact (State.mem_makeDue.mp m).resolve_right (Ne.symm ne)

@[simp] theorem State.satisfy_record (s : State) (st tt : StreamId) :
    ((s.satisfy st).stream tt).record = (s.stream tt).record := by
  rw [State.satisfy, State.arbitrate_record, State.post_stream, State.makeDue_stream]
  exact State.modStream_view Stream.record (fun _ => by rfl) tt

@[simp] theorem State.recomputeResume_record (s : State) (st tt : StreamId) :
    ((s.recomputeResume st).stream tt).record = (s.stream tt).record :=
  State.modStream_view Stream.record (fun _ => by rfl) tt

@[simp] theorem State.unsatisfy_record (s : State) (st tt : StreamId) :
    ((s.unsatisfy st).stream tt).record = (s.stream tt).record := by
  rw [State.unsatisfy, State.arbitrate_record, State.makeDue_stream,
    State.recomputeResume_record]
  exact State.modStream_view Stream.record (fun _ => by rfl) tt

@[simp] theorem State.judge_record (s : State) (st tt : StreamId) :
    ((s.judge st).stream tt).record = (s.stream tt).record := by
  rcases s.judge_cases st with h | h | h | h <;> simp [h]

@[simp] theorem State.judgeMoved_record (s before : State) (l : List BayId) (st tt : StreamId) :
    ((s.judgeMoved before l st).stream tt).record = (s.stream tt).record := by
  rcases s.judgeMoved_cases before l st with ⟨-, h⟩ | ⟨-, h⟩ <;> simp [h]

/-! ## A BLOCK judged against its stream (02 R30 to R34) -/

/-- A valid BLOCK whose stream number is above 15 (02 R30, 08 R146). -/
theorem execBlock_noStream {s : State} {f : BlockFrame} (hup : s.uplink.up = true)
    (hr : s.resetHeld = false) (hf : f.fits = true) (h : 16 ≤ f.stream.toNat) :
    exec (.block f) s = .next ((s.count .validUplinkFrames).count .blocksForNoStream) := by
  have receiving : s.receiving = true := by simp [State.receiving, hup, hr]
  simp [exec, execBlock, State.takeBlockFrame, receiving, hf, State.arriveBlock, idx_eq_none h]

/-- A valid BLOCK handed to the entry of its stream. -/
theorem execBlock_judged {s : State} {f : BlockFrame} {st : StreamId} (hup : s.uplink.up = true)
    (hr : s.resetHeld = false) (hf : f.fits = true) (h : f.stream.toNat = st.val) :
    exec (.block f) s = (s.count .validUplinkFrames).judgeBlock st f := by
  have receiving : s.receiving = true := by simp [State.receiving, hup, hr]
  simp [exec, execBlock, State.takeBlockFrame, receiving, hf, State.arriveBlock, idx_eq_some h]

/-- The payload length that a sequence asks for (02 R32). -/
theorem Stream.payloadFits_iff (x : Stream) (n len : Nat) :
    x.payloadFits n len = true ↔ len = if n + 1 = x.length then x.lastLength else 1024 := by
  unfold Stream.payloadFits
  split
  · exact decide_eq_true_iff
  · exact decide_eq_true_iff

/-- The frame fits: right CRC, sequence below L, and the payload length asked for (02 R31, R32). -/
def Stream.admits (x : Stream) (f : BlockFrame) : Prop :=
  crc32 f.payload = f.crc ∧ f.sequence.toNat < x.length ∧
    x.payloadFits f.sequence.toNat f.payload.length = true

section Judged
variable {s : State} {st : StreamId} {f : BlockFrame}

theorem State.judgeBlock_closed (ho : (s.stream st).isOpen = false) :
    s.judgeBlock st f = .next (s.countStream st .droppedClosed) := by
  simp [State.judgeBlock, ho]

theorem State.judgeBlock_badCrc (ho : (s.stream st).isOpen = true)
    (hc : crc32 f.payload ≠ f.crc) :
    s.judgeBlock st f =
      .next (((s.countStream st .droppedCrc).advance st f.sequence.toNat).spendDropped st) := by
  simp [State.judgeBlock, ho, hc]

theorem State.judgeBlock_unfit (ho : (s.stream st).isOpen = true)
    (hc : crc32 f.payload = f.crc)
    (h : (s.stream st).length ≤ f.sequence.toNat ∨
      (s.stream st).payloadFits f.sequence.toNat f.payload.length = false) :
    s.judgeBlock st f = .next ((s.countStream st .droppedCrc).spendDropped st) := by
  simp [State.judgeBlock, ho, hc, h]

theorem State.judgeBlock_uncredited (ho : (s.stream st).isOpen = true)
    (h : (s.stream st).admits f) (hh : (s.stream st).held = 0) :
    s.judgeBlock st f = .next (s.countStream st .droppedUncredited) := by
  obtain ⟨hc, hn, hp⟩ := h
  simp [State.judgeBlock, ho, hc, Nat.not_le.mpr hn, hp, hh]

theorem State.judgeBlock_accepted (ho : (s.stream st).isOpen = true)
    (h : (s.stream st).admits f) (hh : (s.stream st).held ≠ 0) :
    s.judgeBlock st f = (s.acceptBlock st f.sequence.toNat).offerBlock st f := by
  obtain ⟨hc, hn, hp⟩ := h
  simp [State.judgeBlock, ho, hc, Nat.not_le.mpr hn, hp, hh]

/-- A dropped frame spends a credit where its stream holds one, and the arbiter's grants then change
no more than limits and ages (02 R31, R32). -/
theorem State.spendDropped_stream (s : State) (st : StreamId) :
    ((s.spendDropped st).stream st).position = (s.stream st).position ∧
      ((s.spendDropped st).stream st).counters = (s.stream st).counters ∧
      ((s.spendDropped st).stream st).accepted =
        if (s.stream st).held = 0 then (s.stream st).accepted else (s.stream st).accepted + 1 := by
  unfold State.spendDropped
  split
  · next h =>
    obtain ⟨-, -, position, accepted, counters⟩ := Stream.fields_of_record
      ((s.modStream st fun x => { x with accepted := x.accepted + 1 }).arbitrate_record st)
    rw [State.modStream_stream] at position accepted counters
    exact ⟨position, counters, by rw [if_neg (Nat.ne_of_gt h)]; exact accepted⟩
  · next h => exact ⟨rfl, rfl, by rw [if_pos (Nat.eq_zero_of_not_pos h)]⟩

theorem State.spendDropped_frame (s : State) (st : StreamId) :
    (s.spendDropped st).bays = s.bays ∧ (s.spendDropped st).pool = s.pool ∧
      (s.spendDropped st).uplink = s.uplink ∧ (s.spendDropped st).resume = s.resume := by
  unfold State.spendDropped
  split <;> simp

/-- What a drop under 02 R31 and R32 leaves, the carousel then standing at a position. -/
def State.dropped (s t : State) (st : StreamId) (position : Nat) : Prop :=
  t.streamCounter st .droppedCrc = satInc (s.streamCounter st .droppedCrc) ∧
    (t.stream st).position = position ∧
    (t.stream st).accepted =
      (if (s.stream st).held = 0 then (s.stream st).accepted else (s.stream st).accepted + 1) ∧
    t.bays = s.bays ∧ t.pool = s.pool ∧ t.uplink = s.uplink ∧ t.resume = s.resume

/-- A stream that has counted the drop and taken its carousel position gives up the credit. -/
theorem State.spendDropped_dropped {g : Stream → Stream} {n : Nat}
    (hg : g (s.stream st) = { s.stream st with
      position := n,
      counters := (s.stream st).counters.modify StreamCounter.droppedCrc.index satInc }) :
    s.dropped ((s.modStream st g).spendDropped st) st n := by
  obtain ⟨position, counters, accepted⟩ := (s.modStream st g).spendDropped_stream st
  rw [State.modStream_stream, hg] at position counters accepted
  refine ⟨?_, position, accepted, (s.modStream st g).spendDropped_frame st⟩
  rw [State.streamCounter, counters, Table.get_modify_self, State.streamCounter]

theorem State.judgeBlock_badCrc_dropped (ho : (s.stream st).isOpen = true)
    (hc : crc32 f.payload ≠ f.crc) :
    ∃ t, s.judgeBlock st f = .next t ∧ s.dropped t st (if f.sequence.toNat < (s.stream st).length
      then (f.sequence.toNat + 1) % (s.stream st).length else (s.stream st).position) := by
  refine ⟨_, State.judgeBlock_badCrc ho hc, ?_⟩
  unfold State.advance State.countStream
  rw [State.modStream_modStream]
  exact State.spendDropped_dropped (by dsimp only; split <;> rfl)

theorem State.judgeBlock_unfit_dropped (ho : (s.stream st).isOpen = true)
    (hc : crc32 f.payload = f.crc)
    (h : (s.stream st).length ≤ f.sequence.toNat ∨
      (s.stream st).payloadFits f.sequence.toNat f.payload.length = false) :
    ∃ t, s.judgeBlock st f = .next t ∧ s.dropped t st (s.stream st).position :=
  ⟨_, State.judgeBlock_unfit ho hc h, State.spendDropped_dropped rfl⟩

end Judged

/-- Settles O10: the tests of 02 R30 to R33 in their order; a wrong CRC moves the carousel before
the drop spends its credit, and the arbiter then leaves position, accepted count and counters. -/
theorem blocksDropped : Obligations.BlocksDropped := by
  intro s f hup hr hf
  refine ⟨execBlock_noStream hup hr hf, fun st hst => ?_⟩
  rw [execBlock_judged hup hr hf hst]
  refine ⟨fun ho => ?closed, fun ho hc => ?crc, fun ho hc h => ?unfit,
    fun ho hc hn hp hh => ?uncredited⟩
  case closed => exact State.judgeBlock_closed (s := s.count .validUplinkFrames) ho
  case crc => exact State.judgeBlock_badCrc_dropped (s := s.count .validUplinkFrames) ho hc
  case unfit =>
    refine State.judgeBlock_unfit_dropped (s := s.count .validUplinkFrames) ho hc (h.imp_right ?_)
    exact fun hp => Bool.eq_false_iff.mpr (mt (Stream.payloadFits_iff ..).mp hp)
  case uncredited =>
    exact State.judgeBlock_uncredited (s := s.count .validUplinkFrames) ho
      ⟨hc, hn, (Stream.payloadFits_iff ..).mpr hp⟩ hh

end Sys2Proof.Machine

namespace Sys2Proof.Machine

/-! SUPPORT and PROOFS. The judgement of a stream, and a BLOCK accepted (02 R34 to R45, 03 R63,
R71). -/

/-! ## Wanted sequences (03 R71) -/

theorem Bay.mem_jobList {x : Bay} {p : Place} {j : Job} :
    (p, j) ∈ x.jobList ↔ x.jobs.get p = some j := by
  simp only [Bay.jobList, List.mem_filterMap, Option.map_eq_some_iff, Prod.mk.injEq]
  constructor
  · rintro ⟨q, -, k, hk, rfl, rfl⟩; exact hk
  · exact fun h => ⟨p, List.mem_finRange p, j, h, rfl, rfl⟩

theorem State.mem_wantingJobs {s : State} {st : StreamId} {j : Job} :
    j ∈ s.wantingJobs st ↔ ∃ b p, s.job b p = some j ∧ j.stream = st ∧
      (s.bay b).jobWants j = true := by
  simp only [State.wantingJobs, List.mem_flatMap, List.mem_map, List.mem_filter, Bool.and_eq_true,
    decide_eq_true_eq, Prod.exists]
  constructor
  · rintro ⟨b, -, p, k, ⟨hk, hs, hw⟩, rfl⟩
    exact ⟨b, p, Bay.mem_jobList.mp hk, hs, hw⟩
  · rintro ⟨b, p, hj, hs, hw⟩
    exact ⟨b, List.mem_finRange b, p, j, ⟨Bay.mem_jobList.mpr hj, hs, hw⟩, rfl⟩

/-- The wanted ranges of a job: what its cursor has not reached, and its gaps (03 R71). -/
theorem Job.mem_wantedOffsets {j : Job} {g : Gap} :
    g ∈ j.wantedOffsets ↔
      (g = ⟨j.cursor, j.identity.length - 1⟩ ∧ j.cursor < j.identity.length) ∨ g ∈ j.gaps := by
  unfold Job.wantedOffsets
  split
  · next h => simp [h]
  · next h => simp [h]

/-- A job that wants blocks is one in RECEIVING on a SERVING bay with a wanted range (02 R41). -/
theorem Bay.jobWants_iff {x : Bay} {j : Job} :
    x.jobWants j = true ↔
      x.ctl.state = .serving ∧ j.state = .receiving ∧ ∃ g, g ∈ j.wantedOffsets := by
  have ranges : (∃ g, g ∈ j.wantedOffsets) ↔
      (j.cursor < j.identity.length ∨ j.gaps.isEmpty = false) := by
    simp only [Job.mem_wantedOffsets, exists_or, List.isEmpty_eq_false_iff_exists_mem]
    simp
  simp [Bay.jobWants, ranges, and_assoc]

/-- The distances ahead of the carousel at which some job wants blocks of a stream. -/
def State.distances (s : State) (st : StreamId) : List Nat :=
  (s.wantingJobs st).flatMap fun j => j.wantedOffsets.map (j.distanceAhead (s.stream st).position)

theorem Job.distanceAhead_eq (j : Job) (c first last : Nat) :
    j.distanceAhead c ⟨first, last⟩ =
      if first ≤ j.offsetOf c ∧ j.offsetOf c ≤ last then 0
      else ringDist j.identity.length c (j.sequenceOf first) := by
  simp [Job.distanceAhead, Gap.has]

/-- They are the distances of the claims. -/
theorem State.mem_distances {s : State} {st : StreamId} {n : Nat} :
    n ∈ s.distances st ↔ s.wantedAhead st n := by
  simp only [State.distances, List.mem_flatMap, List.mem_map, State.mem_wantingJobs,
    Bay.jobWants_iff, State.wantedAhead]
  constructor
  · rintro ⟨j, ⟨b, p, hj, hs, hb, hr, -⟩, ⟨first, last⟩, hg, rfl⟩
    refine ⟨b, p, j, first, last, hb, hj, hs, hr, ?_, j.distanceAhead_eq _ _ _⟩
    simpa [Job.mem_wantedOffsets, and_assoc] using hg
  · rintro ⟨b, p, j, first, last, hb, hj, hs, hr, hg, rfl⟩
    have mem : (⟨first, last⟩ : Gap) ∈ j.wantedOffsets := by
      simpa [Job.mem_wantedOffsets, and_assoc] using hg
    exact ⟨j, ⟨b, p, hj, hs, hb, hr, _, mem⟩, _, mem, j.distanceAhead_eq _ _ _⟩

theorem State.wantingJobs_eq_nil {s : State} {st : StreamId} :
    s.wantingJobs st = [] ↔ ∀ n, ¬ s.wantedAhead st n := by
  simp only [← State.mem_distances, List.eq_nil_iff_forall_not_mem]
  constructor
  · intro h n hn
    obtain ⟨j, hj, -⟩ := List.mem_flatMap.mp hn
    exact h j hj
  · intro h j hj
    obtain ⟨b, p, -, -, hw⟩ := State.mem_wantingJobs.mp hj
    obtain ⟨-, -, g, hg⟩ := Bay.jobWants_iff.mp hw
    exact h _ (List.mem_flatMap.mpr ⟨j, hj, List.mem_map_of_mem hg⟩)

/-- The resume point is the carousel position where nothing is wanted, and otherwise lies ahead of
it by the smallest distance (02 R45). -/
theorem State.resumePoint_spec (s : State) (st : StreamId) :
    ((∀ n, ¬ s.wantedAhead st n) → s.resumePoint st = (s.stream st).position) ∧
      ∀ n, s.wantedAhead st n → (∀ m, s.wantedAhead st m → n ≤ m) →
        s.resumePoint st = ((s.stream st).position + n) % (s.stream st).length := by
  simp only [← State.mem_distances]
  have e : s.resumePoint st = match s.distances st with
    | [] => (s.stream st).position
    | d :: ds => ((s.stream st).position + ds.foldl min d) % (s.stream st).length := rfl
  rw [e]
  cases h : s.distances st with
  | nil => simp
  | cons d ds =>
    refine ⟨fun none => absurd List.mem_cons_self (none d), fun n hn least => ?_⟩
    have smallest : (d :: ds).min? = some n := List.min?_eq_some_iff.mpr ⟨hn, least⟩
    rw [List.min?_cons'] at smallest
    dsimp only
    rw [Option.some.inj smallest]

/-! ## The judgement (02 R41 to R45) -/

/-- What is wanted is read off the bays and the carousel position. -/
theorem State.wantedAhead_congr {s t : State} {st : StreamId} (hb : t.bays = s.bays)
    (hp : (t.stream st).position = (s.stream st).position) (n : Nat) :
    t.wantedAhead st n ↔ s.wantedAhead st n := by
  simp only [State.wantedAhead, State.bay, State.job, hb, hp]

theorem State.wantedAhead_modStream {s : State} {st : StreamId} {f : Stream → Stream} {n : Nat}
    (hp : (f (s.stream st)).position = (s.stream st).position) :
    (s.modStream st f).wantedAhead st n ↔ s.wantedAhead st n :=
  State.wantedAhead_congr (s := s) (t := s.modStream st f) rfl
    (by rw [State.modStream_stream, hp]) n

/-- What a judgement shows reads the bays and the stream, whatever its limit and age. -/
theorem State.judged_congr {s t : State} {st : StreamId} (hb : t.bays = s.bays)
    (hs : (t.stream st).footing = (s.stream st).footing) (h : s.judged st) : t.judged st := by
  obtain ⟨-, length, position, -⟩ := Stream.fields_of_record (Stream.record_of_footing hs)
  obtain ⟨satisfied, resume⟩ := Stream.judgement_of_footing hs
  unfold State.judged at h ⊢
  simpa only [State.wantedAhead_congr hb position, satisfied, resume, length, position] using h

theorem State.judged.arbitrate {s : State} {st : StreamId} (h : s.judged st) :
    s.arbitrate.judged st :=
  State.judged_congr (State.arbitrate_bays s) (s.arbitrate_footing st) h

theorem State.judged.makeDue {s : State} {st tt : StreamId} (h : s.judged st) :
    (s.makeDue tt).judged st :=
  State.judged_congr (State.makeDue_bays ..) (by rw [State.makeDue_stream]) h

theorem State.judged.post {s : State} {st : StreamId} {n : Notice} (h : s.judged st) :
    (s.post n).judged st :=
  State.judged_congr (State.post_bays ..) (by rw [State.post_stream]) h

/-- A stream changed where it stands shows the judgement when its new satisfaction and resume point
do. -/
theorem State.judged_modStream {s : State} {st : StreamId} {f : Stream → Stream}
    (hf : (f (s.stream st)).record = (s.stream st).record)
    (hs : (f (s.stream st)).satisfied = true ↔ ∀ n, ¬ s.wantedAhead st n)
    (hr : (f (s.stream st)).resume = s.resumePoint st) : (s.modStream st f).judged st := by
  obtain ⟨-, length, position, -⟩ := Stream.fields_of_record hf
  unfold State.judged
  simp only [State.wantedAhead_modStream position, s.modStream_stream st f, hr, position, length]
  exact ⟨hs, s.resumePoint_spec st⟩

/-- A recomputed resume point shows the judgement where the satisfaction does. -/
theorem State.recomputeResume_judged {s : State} {st : StreamId}
    (h : (s.stream st).satisfied = true ↔ ∀ n, ¬ s.wantedAhead st n) :
    (s.recomputeResume st).judged st :=
  State.judged_modStream rfl h rfl

/-- A stream that nothing wants shows the judgement once it is satisfied (02 R42). -/
theorem State.satisfy_judged {s : State} {st : StreamId} (h : ∀ n, ¬ s.wantedAhead st n) :
    (s.satisfy st).judged st :=
  .arbitrate (.post (.makeDue (State.judged_modStream rfl (iff_of_true rfl h)
    ((s.resumePoint_spec st).1 h).symm)))

/-- A stream that something wants shows the judgement once it is unsatisfied (02 R43). -/
theorem State.unsatisfy_judged {s : State} {st : StreamId} (h : ¬ ∀ n, ¬ s.wantedAhead st n) :
    (s.unsatisfy st).judged st := by
  refine .arbitrate (.makeDue (State.recomputeResume_judged ?_))
  rw [State.modStream_stream]
  refine iff_of_false Bool.false_ne_true fun none => h fun n => ?_
  exact mt (State.wantedAhead_modStream rfl).mpr (none n)

/-- An OPEN stream judged shows the judgement. -/
theorem State.judge_judged {s : State} {st : StreamId} (h : (s.stream st).isOpen = true) :
    (s.judge st).judged st := by
  have wanted : (s.wantingJobs st).isEmpty = true ↔ ∀ n, ¬ s.wantedAhead st n :=
    List.isEmpty_iff.trans State.wantingJobs_eq_nil
  unfold State.judge
  dsimp only
  rw [if_pos h]
  split
  · next none =>
    split
    · next hs => exact State.recomputeResume_judged (iff_of_true hs (wanted.mp none))
    · exact State.satisfy_judged (wanted.mp none)
  · next some =>
    split
    · exact State.unsatisfy_judged (mt wanted.mpr some)
    · next hs => exact State.recomputeResume_judged (iff_of_false hs (mt wanted.mpr some))

/-! ## An accepted block offered (02 R35, 03 R63) -/

/-- The first job of a bay that meets a test, in record place order. -/
theorem Bay.find_job_iff {x : Bay} {q : Place × Job → Bool} {p : Place} {j : Job} :
    x.jobList.find? q = some (p, j) ↔ x.jobs.get p = some j ∧ q (p, j) = true ∧
      ∀ r k, r < p → x.jobs.get r = some k → q (r, k) = false := by
  unfold Bay.jobList
  rw [List.find?_filterMap, allPlaces, ← Fin.find?_eq_find?_finRange, Option.bind_eq_some_iff]
  simp only [Fin.find?_eq_some_iff, Option.map_eq_some_iff, Prod.mk.injEq]
  constructor
  · rintro ⟨r, ⟨hr, first⟩, k, hk, rfl, rfl⟩
    rw [hk] at hr
    exact ⟨hk, hr, fun t l ht hl => by simpa [hl] using first t ht⟩
  · rintro ⟨hj, hq, first⟩
    refine ⟨p, ⟨by simpa [hj] using hq, fun r hr => ?_⟩, j, hj, rfl, rfl⟩
    cases hk : x.jobs.get r with
    | none => rfl
    | some k => exact first r k hr hk

/-- The offsets that a bay holds queued or in flight for a job with a channel (03 R59). -/
theorem Bay.mem_heldOffsets {x : Bay} {p : Place} {j : Job} {c : ChannelId} {d : Nat}
    (hc : j.channel = some c) :
    d ∈ x.heldOffsets p j ↔ (∃ e ∈ x.txQueue, e.place = p ∧ e.offset = d) ∨
      ∃ ch, x.channels[c.val]? = some ch ∧ ∃ f ∈ ch.inFlight, j.offsetOf f.sequence = d := by
  simp only [Bay.heldOffsets, Bay.queuedOffsets, Bay.flights, hc, List.mem_append, List.mem_map,
    List.mem_filter, decide_eq_true_eq, and_assoc]
  cases x.channels[c.val]? <;> simp

theorem inGaps_iff {l : List Gap} {d : Nat} :
    inGaps l d = true ↔ ∃ g ∈ l, g.first ≤ d ∧ d ≤ g.last := by
  simp [inGaps, Gap.has]

/-- A bay takes a block where the claims say that it does (03 R63). -/
theorem State.takes_iff {s : State} {b : BayId} {st : StreamId} {n : Nat} {p : Place}
    {c : ChannelId} {d : Nat} :
    (s.bay b).takes st n = some (p, c, d) ↔ s.takesBlock b st n p c d := by
  -- what R63 asks of the offset, in the machine's words
  have missing : ∀ (q : Place) (j : Job) (e : ChannelId), j.channel = some e → ∀ k,
      (inGaps j.gaps k && !((s.bay b).heldOffsets q j).contains k) = true ↔
        (∃ g ∈ j.gaps, g.first ≤ k ∧ k ≤ g.last) ∧
          (∀ t ∈ (s.bay b).txQueue, t.place = q → t.offset ≠ k) ∧
          ∀ ch, s.channel b e = some ch → ∀ f ∈ ch.inFlight, j.offsetOf f.sequence ≠ k := by
    intro q j e he k
    rw [Bool.and_eq_true, inGaps_iff, Bool.not_eq_true', ← Bool.not_eq_true, List.contains_iff_mem,
      Bay.mem_heldOffsets he]
    simp only [State.channel, not_or, not_exists, not_and, ne_eq]
  unfold State.takesBlock Bay.takes
  constructor
  · intro h
    split at h
    · next room =>
      split at h
      · cases h
      · next q j hf =>
        obtain ⟨hj, hq, first⟩ := Bay.find_job_iff.mp hf
        dsimp only at h
        split at h
        · cases h
        · next e he =>
          have taken : (q, e, j.offsetOf n) = (p, c, d) ∧ (j.cursor ≤ j.offsetOf n ∨
              (inGaps j.gaps (j.offsetOf n) &&
                !((s.bay b).heldOffsets q j).contains (j.offsetOf n)) = true) := by
            split at h
            · next hcur => exact ⟨Option.some.inj h, .inl hcur⟩
            · split at h
              · next hgap => exact ⟨Option.some.inj h, .inr hgap⟩
              · cases h
          obtain ⟨same, why⟩ := taken
          cases same
          rw [missing p j c he] at why
          simp only [Bool.and_eq_true, decide_eq_true_eq] at hq
          exact ⟨room.1, room.2, j, hj, hq.1, hq.2, he,
            fun r k hr hk => by simpa using first r k hr hk, rfl, why⟩
    · cases h
  · rintro ⟨hs, hroom, j, hj, hst, hr, hc, first, rfl, h⟩
    have found : (s.bay b).jobList.find? (fun pj => pj.2.stream = st && pj.2.state = .receiving) =
        some (p, j) := by
      refine Bay.find_job_iff.mpr ⟨hj, by simp [hst, hr], fun q k hq hk => ?_⟩
      simpa using first q k hq hk
    rw [if_pos ⟨hs, hroom⟩, found]
    dsimp only
    rw [hc]
    dsimp only
    split
    · rfl
    · next hcur => exact if_pos ((missing p j c hc _).mpr (h.resolve_left hcur))

theorem State.mem_takers {s : State} {st : StreamId} {n : Nat} {b : BayId} {p : Place}
    {c : ChannelId} {d : Nat} : (b, p, c, d) ∈ s.takers st n ↔ s.takesBlock b st n p c d := by
  rw [← State.takes_iff, State.takers, List.mem_filterMap]
  constructor
  · rintro ⟨a, -, ha⟩
    obtain ⟨k, hk, e⟩ := Option.map_eq_some_iff.mp ha
    cases e
    exact hk
  · exact fun h => ⟨b, List.mem_finRange b, by rw [h, Option.map_some]⟩

theorem State.mem_takers_bay {s : State} {st : StreamId} {n : Nat} {b : BayId} :
    b ∈ (s.takers st n).map (·.1) ↔ ∃ p c d, s.takesBlock b st n p c d := by
  simp only [List.mem_map, Prod.exists, State.mem_takers, exists_and_right, exists_eq_right]

/-- Each bay takes a block once. -/
theorem State.takers_nodup (s : State) (st : StreamId) (n : Nat) :
    ((s.takers st n).map (·.1)).Nodup := by
  rw [State.takers, List.map_filterMap]
  refine (List.nodup_finRange 16).filterMap fun a b c ha hb => ?_
  simp only [Option.map_map, Option.mem_def, Option.map_eq_some_iff, Function.comp_apply] at ha hb
  obtain ⟨-, -, rfl⟩ := ha
  obtain ⟨-, -, h⟩ := hb
  exact h.symm

/-- What a bay shows once it has taken a block: the entry at its queue's tail, the job's cursor past
the offset, and a gap where the cursor has passed offsets over (03 R63). -/
def Bay.tookBlock (x y : Bay) (sl : SlotId) (p : Place) (c : ChannelId) (d : Nat) : Prop :=
  y.txQueue = x.txQueue ++ [⟨sl, p, c, d⟩] ∧
    (∀ j, x.jobs.get p = some j → y.jobs.get p = some { j with
      cursor := max j.cursor (d + 1),
      gaps := if j.cursor < d then (addRange j.gaps ⟨j.cursor, d - 1⟩).1 else j.gaps }) ∧
    (∀ q, q ≠ p → y.jobs.get q = x.jobs.get q) ∧
    y.channels = x.channels ∧ y.ctl = x.ctl ∧ y.port = x.port ∧ y.inventory = x.inventory

/-- A bay's counter that may be incremented after another change of the bay. -/
theorem State.setBay_bumpIf (s : State) (b : BayId) (x : Bay) (q : Bool) (k : BayCounter) :
    ∃ n, (s.setBay b x).bumpIf q b k = s.setBay b { x with counters := n } ∧
      (n = x.counters ∨ n = x.counters.modify k.index satInc) := by
  unfold State.bumpIf
  split
  · exact ⟨_, by simp, .inr rfl⟩
  · exact ⟨_, rfl, .inl rfl⟩

/-- What taking a block does to a bay that has the job (03 R63). -/
theorem State.takeBlock_eq {s : State} {b : BayId} {p : Place} {j : Job} (hj : s.job b p = some j)
    (sl : SlotId) (c : ChannelId) (d : Nat) :
    ∃ n, s.takeBlock b sl p c d = s.setBay b { s.bay b with
      jobs := (s.bay b).jobs.modify p (Option.map fun k => { k with
        gaps := if j.cursor < d then (addRange j.gaps ⟨j.cursor, d - 1⟩).1 else j.gaps,
        cursor := max k.cursor (d + 1) }),
      txQueue := (s.bay b).txQueue ++ [⟨sl, p, c, d⟩], counters := n } := by
  unfold State.takeBlock
  rw [hj]
  dsimp only
  obtain ⟨n, hn, -⟩ := s.setBay_bumpIf b { s.bay b with
    jobs := (s.bay b).jobs.modify p (Option.map fun k => { k with
      gaps := (if j.cursor < d then addRange j.gaps ⟨j.cursor, d - 1⟩ else (j.gaps, false)).1,
      cursor := max k.cursor (d + 1) }) }
    (if j.cursor < d then addRange j.gaps ⟨j.cursor, d - 1⟩ else (j.gaps, false)).2 .gapJoins
  refine ⟨n, ?_⟩
  simp only [State.modJob_eq, State.modBay_eq, hn, State.setBay_bay, State.setBay_setBay]
  split <;> rfl

theorem State.takeBlock_bay {s : State} {b : BayId} {p : Place} {j : Job} (hj : s.job b p = some j)
    (sl : SlotId) (c : ChannelId) (d : Nat) :
    (s.bay b).tookBlock ((s.takeBlock b sl p c d).bay b) sl p c d := by
  obtain ⟨n, hn⟩ := State.takeBlock_eq hj sl c d
  have hj' : (s.bay b).jobs.get p = some j := hj
  rw [hn, State.setBay_bay]
  refine ⟨rfl, fun k hk => ?_, fun q hq => Table.get_modify_ne _ _ (Ne.symm hq), rfl, rfl, rfl, rfl⟩
  obtain rfl := Option.some.inj (hk.symm.trans hj')
  rw [Table.get_modify_self, hk, Option.map_some]

/-- A block taken by one bay changes no other. -/
theorem State.takeBlock_bay_ne (s : State) {a b : BayId} (sl : SlotId) (p : Place) (c : ChannelId)
    (d : Nat) (h : b ≠ a) : (s.takeBlock b sl p c d).bay a = s.bay a := by
  cases hj : s.job b p with
  | none => simp [State.takeBlock, hj]
  | some j =>
    obtain ⟨n, hn⟩ := State.takeBlock_eq hj sl c d
    rw [hn, State.setBay_bay_ne _ _ h]

/-- The taking bays take a block one after another. -/
theorem State.takeBlocks_bay {sl : SlotId} (l : List (BayId × Place × ChannelId × Nat))
    (s : State) (hl : (l.map (·.1)).Nodup)
    (hj : ∀ b p c d, (b, p, c, d) ∈ l → ∃ j, s.job b p = some j) (b : BayId) :
    (b ∉ l.map (·.1) → (l.foldl (fun t k => t.takeBlock k.1 sl k.2.1 k.2.2.1 k.2.2.2) s).bay b =
      s.bay b) ∧
    ∀ p c d, (b, p, c, d) ∈ l → (s.bay b).tookBlock
      ((l.foldl (fun t k => t.takeBlock k.1 sl k.2.1 k.2.2.1 k.2.2.2) s).bay b) sl p c d := by
  induction l generalizing s with
  | nil => simp
  | cons k l ih =>
    obtain ⟨a, q, e, i⟩ := k
    obtain ⟨ha, hl⟩ := List.nodup_cons.mp hl
    have other : ∀ b, b ≠ a → (s.takeBlock a sl q e i).bay b = s.bay b :=
      fun b hb => s.takeBlock_bay_ne sl q e i (Ne.symm hb)
    have apart : ∀ b p c d, (b, p, c, d) ∈ l → b ≠ a := by
      rintro b p c d hm rfl
      exact ha (List.mem_map.mpr ⟨_, hm, rfl⟩)
    obtain ⟨rest, took⟩ := ih (s.takeBlock a sl q e i) hl fun b p c d hm => by
      rw [State.job, other b (apart b p c d hm)]
      exact hj b p c d (List.mem_cons_of_mem _ hm)
    rw [List.foldl_cons]
    refine ⟨fun hb => ?_, fun p c d hm => ?_⟩
    · obtain ⟨hba, hbl⟩ := not_or.mp (List.mem_cons.not.mp hb)
      rw [rest hbl, other b hba]
    · rcases List.mem_cons.mp hm with head | hm
      · cases head
        obtain ⟨j, hj⟩ := hj b q e i List.mem_cons_self
        rw [rest ha]
        exact State.takeBlock_bay hj sl e i
      · rw [← other b (apart b p c d hm)]
        exact took p c d hm

/-! ## The frame of the work on blocks -/

/-- What the work on blocks cannot change: all but the streams with their due statuses, the pool,
the bays, the notices and the counters (02). -/
def State.blockFrame (s : State) : State :=
  { s with streams := State.reset.streams, due := State.reset.due, pool := State.reset.pool,
           notices := State.reset.notices, counters := State.reset.counters,
           bays := State.reset.bays }

theorem State.fields_of_blockFrame {s t : State} (h : t.blockFrame = s.blockFrame) :
    s.sameLoads t ∧ t.uplink = s.uplink ∧ t.mgmt = s.mgmt ∧ t.resume = s.resume ∧
      t.clock = s.clock := by
  have keep {α : Type} (g : State → α) : g t.blockFrame = g s.blockFrame := congrArg g h
  exact ⟨⟨keep State.config, keep State.manifest, keep State.departures, keep State.straps,
    keep State.strapReads, keep State.resetCause, keep State.resetHeld⟩, keep State.uplink,
    keep State.mgmt, keep State.resume, keep State.clock⟩

@[simp] theorem State.setBay_blockFrame (s : State) (b : BayId) (x : Bay) :
    (s.setBay b x).blockFrame = s.blockFrame := rfl

@[simp] theorem State.makeDue_blockFrame (s : State) (st : StreamId) :
    (s.makeDue st).blockFrame = s.blockFrame := by
  simp [State.blockFrame]

@[simp] theorem State.arbitrate_blockFrame (s : State) :
    s.arbitrate.blockFrame = s.blockFrame := by
  simp [State.blockFrame]

@[simp] theorem State.judge_blockFrame (s : State) (st : StreamId) :
    (s.judge st).blockFrame = s.blockFrame := by
  simp [State.blockFrame]

@[simp] theorem State.judgeMoved_blockFrame (s before : State) (l : List BayId) (st : StreamId) :
    (s.judgeMoved before l st).blockFrame = s.blockFrame := by
  simp [State.blockFrame]

@[simp] theorem State.takeBlock_blockFrame (s : State) (b : BayId) (sl : SlotId) (p : Place)
    (c : ChannelId) (d : Nat) : (s.takeBlock b sl p c d).blockFrame = s.blockFrame := by
  cases hj : s.job b p with
  | none => simp [State.takeBlock, hj]
  | some j =>
    obtain ⟨n, hn⟩ := State.takeBlock_eq hj sl c d
    rw [hn, State.setBay_blockFrame]

theorem State.takeBlock_blocks (s : State) (b : BayId) (sl : SlotId) (p : Place) (c : ChannelId)
    (d : Nat) : (s.takeBlock b sl p c d).streams = s.streams ∧
      (s.takeBlock b sl p c d).pool = s.pool := by
  cases hj : s.job b p with
  | none => simp [State.takeBlock, hj]
  | some j =>
    obtain ⟨n, hn⟩ := State.takeBlock_eq hj sl c d
    rw [hn]
    exact ⟨rfl, rfl⟩

/-! ## What follows the offer (02 R34, R40, R45) -/

/-- The grants and the judgement after an offer: bays, pool and frame stay, the stream keeps its
record and shows the judgement, and its status is due where its resume point is not its position. -/
theorem State.afterOffer_spec {s : State} {st : StreamId} (h : (s.stream st).isOpen = true) :
    (s.afterOffer st).bays = s.bays ∧ (s.afterOffer st).pool = s.pool ∧
      (s.afterOffer st).blockFrame = s.blockFrame ∧
      ((s.afterOffer st).stream st).record = (s.stream st).record ∧
      (s.afterOffer st).judged st ∧
      (((s.afterOffer st).stream st).resume ≠ ((s.afterOffer st).stream st).position →
        st ∈ (s.afterOffer st).due) := by
  have record := (s.arbitrate.judge_record st st).trans (s.arbitrate_record st)
  have isOpen : (s.arbitrate.stream st).isOpen = true :=
    (Stream.fields_of_record (s.arbitrate_record st)).1.trans h
  have judged := State.judge_judged isOpen
  unfold State.afterOffer
  dsimp only
  split
  · refine ⟨by simp, by simp, by simp, by rw [State.makeDue_stream, record], judged.makeDue,
      fun _ => State.mem_makeDue.mpr (.inr rfl)⟩
  · next settled =>
    exact ⟨by simp, by simp, by simp, record, judged, fun moved => absurd moved settled⟩

/-! ## An accepted block (02 R34, R35) -/

/-- What an offered block leaves of the stream that took it in, and of all but streams, pool and
bays: its judgement is shown and its status due where the resume point is not the position. -/
def State.offered (s t : State) (st : StreamId) (n : Nat) : Prop :=
  (t.stream st).accepted = (s.stream st).accepted + 1 ∧
    (t.stream st).position = (n + 1) % (s.stream st).length ∧
    t.streamCounter st .accepted = satInc (s.streamCounter st .accepted) ∧
    t.judged st ∧ ((t.stream st).resume ≠ (t.stream st).position → st ∈ t.due) ∧
    t.uplink = s.uplink ∧ t.resume = s.resume ∧ s.sameLoads t

section Offered
variable {s u : State} {st : StreamId} {n : Nat} {g : Stream → Stream}

/-- A stream that has taken a block in and lost no more than other counts is offered by what
follows. -/
theorem State.afterOffer_offered (ho : (s.stream st).isOpen = true)
    (hn : n < (s.stream st).length)
    (hu : (u.stream st) = { (s.stream st).tookIn n with counters := (u.stream st).counters })
    (hc : u.streamCounter st .accepted = satInc (s.streamCounter st .accepted))
    (hf : u.blockFrame = s.blockFrame) : s.offered (u.afterOffer st) st n := by
  have isOpen : (u.stream st).isOpen = true := by rw [hu]; exact ho
  obtain ⟨-, -, frame, record, judged, due⟩ := State.afterOffer_spec isOpen
  obtain ⟨-, -, position, accepted, counters⟩ := Stream.fields_of_record record
  obtain ⟨loads, uplink, -, resume, -⟩ := State.fields_of_blockFrame (frame.trans hf)
  refine ⟨by rw [accepted, hu]; rfl, ?_, ?_, judged, due, uplink, resume, loads⟩
  · rw [position, hu]
    exact if_pos hn
  · rw [← hc, State.streamCounter, counters, State.streamCounter]

theorem Stream.tookIn_accepted (x : Stream) (n : Nat) :
    (x.tookIn n).counters.get StreamCounter.accepted.index =
      satInc (x.counters.get StreamCounter.accepted.index) :=
  Table.get_modify_self ..

end Offered

/-- An accepted block that no bay takes is passed unused (02 R35). -/
theorem State.offerBlock_unused {s : State} {st : StreamId} {f : BlockFrame}
    (ho : (s.stream st).isOpen = true) (hn : f.sequence.toNat < (s.stream st).length)
    (none : ∀ b p c d, ¬ s.takesBlock b st f.sequence.toNat p c d) :
    ∃ t, (s.acceptBlock st f.sequence.toNat).offerBlock st f = .next t ∧
      s.offered t st f.sequence.toNat ∧
      t.streamCounter st .passedUnused = satInc (s.streamCounter st .passedUnused) ∧
      t.pool = s.pool ∧ t.bays = s.bays := by
  have takers : s.takers st f.sequence.toNat = [] :=
    List.eq_nil_iff_forall_not_mem.mpr fun ⟨b, p, c, d⟩ hm => none b p c d (State.mem_takers.mp hm)
  rw [State.acceptBlock_eq]
  have same : (s.modStream st (Stream.tookIn f.sequence.toNat)).takers st f.sequence.toNat =
      s.takers st f.sequence.toNat := rfl
  unfold State.offerBlock
  rw [same, takers]
  refine ⟨_, rfl, ?_⟩
  rw [State.countStream, State.modStream_modStream]
  generalize hu : s.modStream st _ = u
  have stream : u.stream st = { (s.stream st).tookIn f.sequence.toNat with
      counters := ((s.stream st).tookIn f.sequence.toNat).counters.modify
        StreamCounter.passedUnused.index satInc } := by rw [← hu, State.modStream_stream]
  have isOpen : (u.stream st).isOpen = true := by rw [stream]; exact ho
  obtain ⟨bays, pool, -, record, -⟩ := State.afterOffer_spec isOpen
  obtain ⟨-, -, -, -, counters⟩ := Stream.fields_of_record record
  refine ⟨State.afterOffer_offered ho hn (by rw [stream]) ?_ (by subst hu; rfl), ?_,
    by rw [pool, ← hu]; rfl, by rw [bays, ← hu]; rfl⟩
  · rw [State.streamCounter, stream]
    exact (Table.get_modify_ne _ _ (by decide)).trans (Stream.tookIn_accepted ..)
  · rw [State.streamCounter, counters, stream]
    exact (Table.get_modify_self ..).trans
      (congrArg satInc (Table.get_modify_ne _ _ (by decide)))

/-- What placing a block in a slot leaves: streams and frame as they were, the slot filled, the bays
as their taking says (02 R35, R36). -/
theorem State.placeBlock_spec (s : State) (sl : SlotId) (st : StreamId) (f : BlockFrame)
    (l : List (BayId × Place × ChannelId × Nat)) :
    (s.placeBlock sl st f l).streams = s.streams ∧
      (s.placeBlock sl st f l).blockFrame = s.blockFrame ∧
      (s.placeBlock sl st f l).pool = s.pool.set sl (some
        ⟨st, f.sequence.toNat, f.payload, l.map (·.1), s.clock.ticks⟩) :=
  ⟨foldl_keeps State.streams _ (fun t _ => (t.takeBlock_blocks ..).1) l _,
    foldl_keeps State.blockFrame _ (fun t _ => t.takeBlock_blockFrame ..) l _,
    foldl_keeps State.pool _ (fun t _ => (t.takeBlock_blocks ..).2) l _⟩

/-- Each bay of an offer's takers takes the block once, and the others stay. -/
theorem State.placeTakers_bay (s : State) (sl : SlotId) (st : StreamId) (f : BlockFrame) (n : Nat)
    (b : BayId) :
    ((∀ p c d, ¬ s.takesBlock b st n p c d) →
      (s.placeBlock sl st f (s.takers st n)).bay b = s.bay b) ∧
    ∀ p c d, s.takesBlock b st n p c d →
      (s.bay b).tookBlock ((s.placeBlock sl st f (s.takers st n)).bay b) sl p c d := by
  have jobs : ∀ b p c d, (b, p, c, d) ∈ s.takers st n → ∃ j, s.job b p = some j := by
    intro b p c d hm
    obtain ⟨-, -, j, hj, -⟩ := State.mem_takers.mp hm
    exact ⟨j, hj⟩
  obtain ⟨rest, took⟩ := State.takeBlocks_bay (sl := sl) (s.takers st n)
    { s with pool := s.pool.set sl (some
      ⟨st, f.sequence.toNat, f.payload, (s.takers st n).map (·.1), s.clock.ticks⟩) }
    (s.takers_nodup st n) jobs b
  refine ⟨fun none => rest fun hm => ?_, fun p c d h => took p c d (State.mem_takers.mpr h)⟩
  obtain ⟨p, c, d, h⟩ := State.mem_takers_bay.mp hm
  exact none p c d h

/-- An accepted block that some bay takes fills the lowest free slot for the bays that take it
(02 R35, R36). -/
theorem State.offerBlock_placed {s : State} {st : StreamId} {f : BlockFrame} {sl : SlotId}
    (ho : (s.stream st).isOpen = true) (hn : f.sequence.toNat < (s.stream st).length)
    (taken : ∃ b p c d, s.takesBlock b st f.sequence.toNat p c d) (hsl : s.freeSlot = some sl) :
    ∃ t, (s.acceptBlock st f.sequence.toNat).offerBlock st f = .next t ∧
      s.offered t st f.sequence.toNat ∧
      t.pool = s.pool.set sl (some ⟨st, f.sequence.toNat, f.payload,
        (s.takers st f.sequence.toNat).map (·.1), s.clock.ticks⟩) ∧
      ∀ b, ((∀ p c d, ¬ s.takesBlock b st f.sequence.toNat p c d) → t.bay b = s.bay b) ∧
        ∀ p c d, s.takesBlock b st f.sequence.toNat p c d →
          (s.bay b).tookBlock (t.bay b) sl p c d := by
  have nonempty : (s.takers st f.sequence.toNat).isEmpty ≠ true := by
    obtain ⟨b, p, c, d, h⟩ := taken
    exact fun e => List.not_mem_nil (List.isEmpty_iff.mp e ▸ State.mem_takers.mpr h)
  rw [State.acceptBlock_eq]
  generalize ha : s.modStream st (Stream.tookIn f.sequence.toNat) = a
  have stream : a.stream st = (s.stream st).tookIn f.sequence.toNat := by
    rw [← ha, State.modStream_stream]
  have takers : a.takers st f.sequence.toNat = s.takers st f.sequence.toNat := by subst ha; rfl
  have free : a.freeSlot = some sl := by subst ha; exact hsl
  have isOpen : (a.stream st).isOpen = true := by rw [stream]; exact ho
  have offer : a.offerBlock st f =
      .next ((a.placeBlock sl st f (s.takers st f.sequence.toNat)).afterOffer st) := by
    unfold State.offerBlock
    dsimp only
    rw [takers, if_neg nonempty, free]
  refine ⟨_, offer, ?_⟩
  obtain ⟨streams, frame, pool⟩ :=
    a.placeBlock_spec sl st f (s.takers st f.sequence.toNat)
  have bays := a.placeTakers_bay sl st f f.sequence.toNat
  rw [takers] at bays
  generalize a.placeBlock sl st f (s.takers st f.sequence.toNat) = u at streams frame pool bays ⊢
  have stays : u.stream st = a.stream st := congrArg (Table.get · st) streams
  obtain ⟨sameBays, samePool, -⟩ := State.afterOffer_spec (s := u) (by rw [stays]; exact isOpen)
  refine ⟨State.afterOffer_offered ho hn (by rw [stays, stream]) ?_ ?_, ?_, fun b => ?_⟩
  · rw [State.streamCounter, stays, stream]
    exact Stream.tookIn_accepted ..
  · rw [frame, ← ha]; rfl
  · rw [samePool, pool, ← ha]; rfl
  · rw [State.bay, sameBays]
    subst ha
    exact bays b

/-- Settles O11: the accepted block is offered, and what follows the offer shows the judgement of
the stream's jobs after it. -/
theorem blockAccepted : Obligations.BlockAccepted := by
  intro s f st hup hr hf hst ho hc hn hp hh
  have accepted : exec (.block f) s =
      ((s.count .validUplinkFrames).acceptBlock st f.sequence.toNat).offerBlock st f :=
    (execBlock_judged hup hr hf hst).trans
      (State.judgeBlock_accepted (s := s.count .validUplinkFrames) ho
        ⟨hc, hn, (Stream.payloadFits_iff ..).mpr hp⟩ hh)
  rw [accepted]
  constructor
  · intro none
    obtain ⟨t, e, ⟨credit, position, count, judged, due, uplink, resume, loads⟩, unused, pool,
      bays⟩ := State.offerBlock_unused (s := s.count .validUplinkFrames) ho hn none
    exact ⟨t, e, credit, position, count, unused, pool, bays, uplink, resume, judged, due, loads⟩
  · intro b₀ p₀ c₀ d₀ sl took free
    obtain ⟨t, e, ⟨credit, position, count, judged, due, uplink, resume, loads⟩, pool, bays⟩ :=
      State.offerBlock_placed (s := s.count .validUplinkFrames) ho hn ⟨b₀, p₀, c₀, d₀, took⟩ free
    exact ⟨t, e, credit, position, count, ⟨_, by rw [pool, Table.get_set_self], rfl, rfl, rfl, rfl,
      fun b => State.mem_takers_bay⟩,
      fun k hk => by rw [pool, Table.get_set_ne _ _ (Ne.symm hk)]; rfl,
      fun b => (bays b).1, fun b => (bays b).2, judged, due, uplink, resume, loads⟩

end Sys2Proof.Machine

namespace Sys2Proof.Machine

/-! SUPPORT and PROOFS. Bays detached from slots: by the hold limit, and by CLOSE STREAM
(02 R27 to R29, R36, R38, 03 R60, R62). -/

/-! ## Gap ranges only grow (03 R60) -/

theorem mem_insertGap {g h : Gap} {l : List Gap} : h ∈ insertGap g l ↔ h = g ∨ h ∈ l := by
  induction l with
  | nil => simp [insertGap]
  | cons a l ih =>
    unfold insertGap
    split
    · simp
    · simp [ih, or_left_comm]

theorem nearestGap_mem {g n : Gap} {l : List Gap} (h : nearestGap g l = some n) : n ∈ l := by
  induction l generalizing n with
  | nil => cases h
  | cons a l ih =>
    simp only [nearestGap] at h
    split at h
    · cases h; exact List.mem_cons_self
    · next m hm =>
      split at h
      · cases h; exact List.mem_cons_self
      · cases h; exact List.mem_cons_of_mem _ (ih hm)

theorem Gap.has_join {g h : Gap} {d : Nat} (hd : g.has d = true ∨ h.has d = true) :
    (g.join h).has d = true := by
  simp only [Gap.has, Gap.join, decide_eq_true_eq, inf_le_iff, le_sup_iff] at hd ⊢
  omega

theorem Gap.has_foldl_join {l : List Gap} {g : Gap} {d : Nat}
    (hd : g.has d = true ∨ ∃ h ∈ l, h.has d = true) : (l.foldl Gap.join g).has d = true := by
  induction l generalizing g with
  | nil => simpa using hd
  | cons a l ih =>
    refine ih ?_
    simp only [List.exists_mem_cons_iff, ← or_assoc] at hd
    exact hd.imp_left Gap.has_join

theorem inGaps_eq_true {l : List Gap} {d : Nat} :
    inGaps l d = true ↔ ∃ g ∈ l, g.has d = true := List.any_eq_true

theorem inGaps_insertGap {g : Gap} {l : List Gap} {d : Nat} :
    inGaps (insertGap g l) d = true ↔ g.has d = true ∨ inGaps l d = true := by
  simp [inGaps_eq_true, mem_insertGap]

/-- A list with a range added covers the range and all that it covered (03 R60). -/
theorem inGaps_addRange {g : Gap} {l : List Gap} {d : Nat}
    (h : g.has d = true ∨ inGaps l d = true) : inGaps (addRange l g).1 d = true := by
  unfold addRange
  dsimp only
  split
  · split
    · exact inGaps_insertGap.mpr h
    · split
      · exact inGaps_insertGap.mpr h
      · next n hn =>
        rw [inGaps_eq_true] at h
        rw [inGaps_insertGap, inGaps_eq_true]
        rcases h with h | ⟨k, hk, hd⟩
        · exact .inl (Gap.has_join (.inr h))
        · by_cases e : k = n
          · exact .inl (Gap.has_join (.inl (e ▸ hd)))
          · exact .inr ⟨k, by simpa [e] using hk, hd⟩
  · rw [inGaps_eq_true] at h
    rw [inGaps_insertGap, inGaps_eq_true]
    rcases h with h | ⟨k, hk, hd⟩
    · exact .inl (Gap.has_foldl_join (.inl h))
    · by_cases e : k.touches g = true
      · exact .inl (Gap.has_foldl_join (.inr ⟨k, List.mem_filter.mpr ⟨hk, e⟩, hd⟩))
      · exact .inr ⟨k, by simpa [e] using hk, hd⟩

/-- An offset made needed lies in a gap range, and what lay in one still does (03 R62). -/
theorem inGaps_gapsNeeding {l : List Gap} {d i : Nat} (h : i = d ∨ inGaps l i = true) :
    inGaps (gapsNeeding l d) i = true := by
  unfold gapsNeeding
  split
  · next hd => exact h.elim (fun e => e ▸ hd) id
  · exact inGaps_addRange (h.imp_left fun e => by simp [Gap.has, e])

/-! ## Queued entries shed (03 R62) -/

/-- A bay that has lost the queued entries meeting a test, their offsets needed again by their jobs:
no job has changed but in its gap ranges, and no block detached has been counted. -/
structure Bay.shed (x y : Bay) (D : TxEntry → Bool) : Prop where
  queue : y.txQueue = x.txQueue.filter fun e => !D e
  jobs : ∀ p j, x.jobs.get p = some j → ∃ k, y.jobs.get p = some k ∧
    { k with gaps := [] } = { j with gaps := [] } ∧
    ∀ d, (inGaps j.gaps d = true ∨ ∃ e ∈ x.txQueue, D e = true ∧ e.place = p ∧ e.offset = d) →
      inGaps k.gaps d = true
  detached : y.counters.get BayCounter.blocksDetached.index =
    x.counters.get BayCounter.blocksDetached.index
  channels : y.channels = x.channels
  ctl : y.ctl = x.ctl
  port : y.port = x.port
  inventory : y.inventory = x.inventory

section Shed
variable {x y z : Bay} {D E : TxEntry → Bool}

theorem Bay.shed.congr (h : x.shed y D) (e : ∀ t ∈ x.txQueue, D t = E t) : x.shed y E where
  queue := by
    rw [h.queue]
    exact List.filter_congr fun t ht => by rw [e t ht]
  jobs p j hj := by
    obtain ⟨k, hk, same, needed⟩ := h.jobs p j hj
    refine ⟨k, hk, same, fun d hd => needed d (hd.imp_right ?_)⟩
    rintro ⟨t, ht, hE, place⟩
    exact ⟨t, ht, (e t ht).trans hE, place⟩
  detached := h.detached
  channels := h.channels
  ctl := h.ctl
  port := h.port
  inventory := h.inventory

theorem Bay.shed.none (x : Bay) : x.shed x fun _ => false where
  queue := by simp
  jobs p j hj := ⟨j, hj, rfl, by simp⟩
  detached := rfl
  channels := rfl
  ctl := rfl
  port := rfl
  inventory := rfl

theorem Bay.shed.trans (h : x.shed y D) (h' : y.shed z E) : x.shed z fun t => D t || E t where
  queue := by
    rw [h'.queue, h.queue, List.filter_filter]
    simp [Bool.and_comm]
  jobs p j hj := by
    obtain ⟨k, hk, same, needed⟩ := h.jobs p j hj
    obtain ⟨l, hl, same', needed'⟩ := h'.jobs p k hk
    refine ⟨l, hl, same'.trans same, fun d hd => needed' d ?_⟩
    rcases hd with hd | ⟨t, ht, hDE, place⟩
    · exact .inl (needed d (.inl hd))
    · cases hD : D t with
      | true => exact .inl (needed d (.inr ⟨t, ht, hD, place⟩))
      | false => exact .inr ⟨t, by simp [h.queue, ht, hD], by simpa [hD] using hDE, place⟩
  detached := h'.detached.trans h.detached
  channels := h'.channels.trans h.channels
  ctl := h'.ctl.trans h.ctl
  port := h'.port.trans h.port
  inventory := h'.inventory.trans h.inventory

/-- A bay that sheds entries in turn. -/
theorem State.foldl_shed {α : Type} {f : State → α → State} {b : BayId} {D : α → TxEntry → Bool}
    (step : ∀ (t : State) a, (t.bay b).shed ((f t a).bay b) (D a)) (l : List α) (s : State) :
    (s.bay b).shed ((l.foldl f s).bay b) fun e => l.any fun a => D a e := by
  induction l generalizing s with
  | nil => exact .none _
  | cons a l ih => exact (step s a).trans (ih (f s a))

end Shed

/-- What making an offset needed writes: the jobs of its bay, and a count of joins (03 R62). -/
theorem State.makeNeeded_eq (s : State) (b : BayId) (p : Place) (d : Nat) :
    ∃ jobs n, s.makeNeeded b p d = s.setBay b { s.bay b with jobs := jobs, counters := n } ∧
      n.get BayCounter.blocksDetached.index =
        (s.bay b).counters.get BayCounter.blocksDetached.index := by
  unfold State.makeNeeded
  split
  · exact ⟨_, _, (s.setBay_self b).symm, rfl⟩
  · next j hj =>
    split
    · exact ⟨_, _, (s.setBay_self b).symm, rfl⟩
    · dsimp only
      obtain ⟨n, hn, counted⟩ := s.setBay_bumpIf b { s.bay b with
        jobs := (s.bay b).jobs.modify p (Option.map fun k =>
          { k with gaps := (addRange j.gaps ⟨d, d⟩).1 }) } (addRange j.gaps ⟨d, d⟩).2 .gapJoins
      refine ⟨_, n, hn, ?_⟩
      rcases counted with rfl | rfl
      · rfl
      · exact Table.get_modify_ne _ _ (by decide)

/-- One entry taken out unsent is shed (03 R62). -/
theorem State.unqueue_shed (s : State) (b : BayId) (e : TxEntry) :
    (s.bay b).shed ((s.unqueue b e).bay b) fun t => decide (t = e) := by
  unfold State.unqueue
  generalize hq : s.modBay b _ = q
  have bay : q.bay b = { s.bay b with txQueue := (s.bay b).txQueue.filter (· ≠ e) } := by
    rw [← hq, State.modBay_eq, State.setBay_bay]
  have needed := q.makeNeeded_job b e.place e.offset
  have others := fun p (h : e.place ≠ p) => q.makeNeeded_job_ne b (q := p) e.offset h
  obtain ⟨jobs, n, eq, counted⟩ := q.makeNeeded_eq b e.place e.offset
  rw [eq] at needed others ⊢
  simp only [State.job, State.setBay_bay, bay] at needed others counted ⊢
  refine ⟨by simp, fun p j hj => ?_, counted, rfl, rfl, rfl, rfl⟩
  by_cases hp : e.place = p
  · subst hp
    refine ⟨{ j with gaps := gapsNeeding j.gaps e.offset }, by rw [needed, hj]; rfl, rfl,
      fun d hd => inGaps_gapsNeeding ?_⟩
    rcases hd with hd | ⟨t, -, ht, -, rfl⟩
    · exact .inr hd
    · exact .inl (by rw [of_decide_eq_true ht])
  · refine ⟨j, (others p hp).trans hj, rfl, fun d hd => hd.resolve_right ?_⟩
    rintro ⟨t, -, ht, place, -⟩
    exact hp (of_decide_eq_true ht ▸ place)

theorem State.unqueue_bay_ne (s : State) {a b : BayId} (e : TxEntry) (h : b ≠ a) :
    (s.unqueue b e).bay a = s.bay a := by
  unfold State.unqueue
  obtain ⟨jobs, n, eq, -⟩ := State.makeNeeded_eq
    (s.modBay b fun x => { x with txQueue := x.txQueue.filter (· ≠ e) }) b e.place e.offset
  rw [eq, State.setBay_bay_ne _ _ h, State.modBay_eq, State.setBay_bay_ne _ _ h]

@[simp] theorem State.unqueue_blockFrame (s : State) (b : BayId) (e : TxEntry) :
    (s.unqueue b e).blockFrame = s.blockFrame := by
  simp [State.blockFrame]

/-! ## A slot detached (02 R28, R36, R38) -/

/-- A bay detached from a slot sheds its queued entries of the slot. -/
theorem State.detachBay_shed (s : State) (sl : SlotId) (b : BayId) :
    (s.bay b).shed ((s.detachBay sl b).bay b) fun e => decide (e.slot = sl) := by
  refine (State.foldl_shed (fun (t : State) e => t.unqueue_shed b e) _ s).congr fun t ht => ?_
  rw [Bool.eq_iff_iff]
  simp [ht]

theorem State.detachBay_bay_ne (s : State) {a b : BayId} (sl : SlotId) (h : b ≠ a) :
    (s.detachBay sl b).bay a = s.bay a :=
  foldl_keeps (fun t : State => t.bay a) _ (fun t e => t.unqueue_bay_ne e h) _ s

@[simp] theorem State.detachBay_blockFrame (s : State) (sl : SlotId) (b : BayId) :
    (s.detachBay sl b).blockFrame = s.blockFrame :=
  foldl_keeps State.blockFrame _ (fun t e => t.unqueue_blockFrame b e) _ s

/-- The bays of a delivery set detached from a slot, counted or not, as `State.detachSlot` does
it. -/
def State.detachBays (s : State) (sl : SlotId) (counted : Bool) (l : List BayId) : State :=
  l.foldl (fun t b => (t.bumpIf counted b .blocksDetached).detachBay sl b) s

theorem State.detachBays_bay_of_not_mem {sl : SlotId} {counted : Bool} {l : List BayId} {b : BayId}
    (s : State) (h : b ∉ l) : (s.detachBays sl counted l).bay b = s.bay b := by
  refine List.foldlRecOn (motive := fun t : State => t.bay b = s.bay b) l _ rfl fun t ht a ha => ?_
  have ne : a ≠ b := fun e => h (e ▸ ha)
  rw [State.detachBay_bay_ne _ _ ne, ← ht]
  unfold State.bumpIf
  split
  · exact State.setBay_bay_ne _ _ ne
  · rfl

/-- Bays detached without counting shed their entries of the slot. -/
theorem State.detachBays_shed (s : State) (sl : SlotId) (l : List BayId) (b : BayId) :
    (s.bay b).shed ((s.detachBays sl false l).bay b)
      fun e => decide (e.slot = sl) && l.contains b := by
  refine (State.foldl_shed (b := b) (D := fun a e => decide (e.slot = sl) && decide (b = a))
    (fun t a => ?_) l s).congr fun e _ => ?_
  · by_cases h : a = b
    · subst h
      simpa [State.bumpIf] using t.detachBay_shed sl a
    · have stays := (t.bumpIf false a .blocksDetached).detachBay_bay_ne sl h
      rw [stays]
      exact (Bay.shed.none (t.bay b)).congr fun e _ => by simp [Ne.symm h]
  · rw [Bool.eq_iff_iff]
    simp [and_comm]

/-- A bay detached and counted sheds its entries of the slot after its count. -/
theorem State.detachBays_shed_counted {sl : SlotId} {l : List BayId} {b : BayId} (s : State)
    (hl : l.Nodup) (h : b ∈ l) :
    { s.bay b with counters :=
        (s.bay b).counters.modify BayCounter.blocksDetached.index satInc }.shed
      ((s.detachBays sl true l).bay b) fun e => decide (e.slot = sl) := by
  induction l generalizing s with
  | nil => cases h
  | cons a l ih =>
    obtain ⟨ha, hl⟩ := List.nodup_cons.mp hl
    have later : (s.detachBays sl true (a :: l)) =
        ((s.bump a .blocksDetached).detachBay sl a).detachBays sl true l := rfl
    rw [later]
    rcases List.mem_cons.mp h with rfl | hb
    · rw [State.detachBays_bay_of_not_mem _ ha]
      have shed := (s.bump b .blocksDetached).detachBay_shed sl b
      rw [State.bump, State.modBay_eq, State.setBay_bay] at shed
      exact shed
    · have ne : a ≠ b := fun e => ha (e ▸ hb)
      have same : ((s.bump a .blocksDetached).detachBay sl a).bay b = s.bay b := by
        rw [State.detachBay_bay_ne _ _ ne]
        exact State.setBay_bay_ne _ _ ne
      rw [← same]
      exact ih _ hl hb

theorem State.bumpIf_frame (s : State) (q : Bool) (b : BayId) (c : BayCounter) :
    (s.bumpIf q b c).streams = s.streams ∧ (s.bumpIf q b c).pool = s.pool ∧
      (s.bumpIf q b c).blockFrame = s.blockFrame := by
  cases q
  · exact ⟨rfl, rfl, rfl⟩
  · exact ⟨rfl, rfl, rfl⟩

theorem State.detachBays_frame (s : State) (sl : SlotId) (counted : Bool) (l : List BayId) :
    (s.detachBays sl counted l).streams = s.streams ∧ (s.detachBays sl counted l).pool = s.pool ∧
      (s.detachBays sl counted l).blockFrame = s.blockFrame :=
  ⟨foldl_keeps State.streams _
      (fun t _ => (State.detachBay_streams ..).trans (t.bumpIf_frame ..).1) l s,
    foldl_keeps State.pool _
      (fun t _ => (State.detachBay_pool ..).trans (t.bumpIf_frame ..).2.1) l s,
    foldl_keeps State.blockFrame _
      (fun t _ => (State.detachBay_blockFrame ..).trans (t.bumpIf_frame ..).2.2) l s⟩

/-- What detaching an occupied slot leaves: its bays detached, the slot free, and of the streams no
more changed than a judgement and grants change (02 R38, R41). -/
theorem State.detachSlot_spec {s : State} {sl : SlotId} {x : Slot} (counted : Bool)
    (h : s.pool.get sl = some x) :
    (∀ b, (s.detachSlot sl counted).bay b = (s.detachBays sl counted x.delivery).bay b) ∧
      (s.detachSlot sl counted).pool = s.pool.set sl none ∧
      (s.detachSlot sl counted).blockFrame = s.blockFrame ∧
      ∀ r, ((s.detachSlot sl counted).stream r).record = (s.stream r).record := by
  have e : s.detachSlot sl counted =
      let t := (s.detachBays sl counted x.delivery).judgeMoved s x.delivery x.stream
      { t with pool := t.pool.set sl none }.arbitrate := by
    unfold State.detachSlot
    rw [h]
    rfl
  obtain ⟨streams, pool, frame⟩ := s.detachBays_frame sl counted x.delivery
  rw [e]
  dsimp only
  refine ⟨fun b => by simp [State.bay], by simp [pool], ?_, fun r => ?_⟩
  · rw [State.arbitrate_blockFrame, ← frame]
    exact State.judgeMoved_blockFrame ..
  · rw [State.arbitrate_record]
    exact (State.judgeMoved_record ..).trans (by rw [State.stream, streams, State.stream])

/-- Settles O25: each bay of the delivery set counts the detachment and sheds its entries of the
slot. -/
theorem holdLimitDetaches : Obligations.HoldLimitDetaches := by
  intro s sl x hx nodup
  obtain ⟨bays, pool, frame, -⟩ := State.detachSlot_spec true hx
  obtain ⟨loads, uplink, mgmt, resume, clock⟩ := State.fields_of_blockFrame frame
  refine ⟨s.detachSlot sl true, rfl, by rw [pool, Table.get_set_self],
    fun k hk => by rw [pool, Table.get_set_ne _ _ (Ne.symm hk)],
    fun b hb => (bays b).trans (s.detachBays_bay_of_not_mem hb), fun b hb => ?_,
    loads, uplink, mgmt, resume, clock⟩
  have shed := s.detachBays_shed_counted (sl := sl) nodup hb
  rw [← bays b] at shed
  refine ⟨by simpa using shed.queue, shed.detached.trans (Table.get_modify_self ..),
    fun e he hsl j hj => ?_, shed.channels, shed.ctl, shed.inventory, shed.port⟩
  obtain ⟨k, hk, same, needed⟩ := shed.jobs e.place j hj
  exact ⟨k, hk, needed e.offset (.inr ⟨e, he, decide_eq_true hsl, rfl, rfl⟩), same⟩

/-! ## The streams' requests (02 R27 to R29) -/

/-- A queued entry of a bay whose block is one of a stream, the bay in its slot's delivery set. -/
def State.queuedFor (s : State) (st : StreamId) (b : BayId) (e : TxEntry) : Bool :=
  match s.pool.get e.slot with
  | none => false
  | some y => decide (y.stream = st) && y.delivery.contains b

theorem State.queuedFor_of_mem {s : State} {st : StreamId} {b : BayId} {e : TxEntry} {y : Slot}
    (hy : s.pool.get e.slot = some y) (hst : y.stream = st) (hb : b ∈ y.delivery) :
    s.queuedFor st b e = true := by
  simp [State.queuedFor, hy, hst, hb]

theorem State.not_queuedFor (s : State) (st : StreamId) (b : BayId) (e : TxEntry) :
    (!s.queuedFor st b e) = match s.pool.get e.slot with
      | none => true
      | some y => !(decide (y.stream = st) && y.delivery.contains b) := by
  unfold State.queuedFor
  cases s.pool.get e.slot with
  | none => rfl
  | some y => rfl

/-- What freeing those slots of a list that hold blocks of a stream leaves (02 R28, step 1). -/
structure State.freed (s t : State) (st : StreamId) (l : List SlotId) : Prop where
  pool : ∀ k, t.pool.get k =
    if k ∈ l then (s.pool.get k).filter fun y => decide (y.stream ≠ st) else s.pool.get k
  bays : ∀ b, (s.bay b).shed (t.bay b) fun e => decide (e.slot ∈ l) && s.queuedFor st b e
  frame : t.blockFrame = s.blockFrame
  records : ∀ r, (t.stream r).record = (s.stream r).record

theorem State.freed.nil (s : State) (st : StreamId) : s.freed s st [] where
  pool k := by simp
  bays b := (Bay.shed.none _).congr fun e _ => by simp
  frame := rfl
  records r := rfl

theorem State.freed.trans {s t u : State} {st : StreamId} {l m : List SlotId}
    (h : s.freed t st l) (h' : t.freed u st m) : s.freed u st (l ++ m) where
  pool k := by
    rw [h'.pool, h.pool]
    by_cases hl : k ∈ l <;> by_cases hm : k ∈ m <;> simp [hl, hm, Option.filter_filter]
  bays b := ((h.bays b).trans (h'.bays b)).congr fun e _ => by
    simp only [State.queuedFor, h.pool e.slot]
    cases hp : s.pool.get e.slot with
    | none => by_cases hl : e.slot ∈ l <;> simp [hl]
    | some y =>
      by_cases hl : e.slot ∈ l <;> by_cases hs : y.stream = st <;>
        simp [hl, hs, Option.filter_some]
  frame := h'.frame.trans h.frame
  records r := (h'.records r).trans (h.records r)

/-- A slot that holds no block of the stream is left as it is. -/
theorem State.freed.idle {s : State} {st : StreamId} {sl : SlotId}
    (h : ∀ y, s.pool.get sl = some y → y.stream ≠ st) : s.freed s st [sl] where
  pool k := by
    split
    · next hk =>
      rw [List.mem_singleton.mp hk]
      cases hp : s.pool.get sl with
      | none => rfl
      | some y => simp [Option.filter_some, h y hp]
    · rfl
  bays b := (Bay.shed.none _).congr fun e _ => by
    by_cases he : e.slot = sl
    · unfold State.queuedFor
      split
      · simp
      · next y hy => simp [h y (he ▸ hy)]
    · simp [he]
  frame := rfl
  records r := rfl

/-- A slot that holds a block of the stream is freed by its detachment. -/
theorem State.freed.detachSlot {s : State} {st : StreamId} {sl : SlotId} {x : Slot}
    (h : s.pool.get sl = some x) (hx : x.stream = st) :
    s.freed (s.detachSlot sl false) st [sl] := by
  obtain ⟨bays, pool, frame, records⟩ := State.detachSlot_spec false h
  refine ⟨fun k => ?_, fun b => ?_, frame, records⟩
  · rw [pool]
    by_cases hk : k = sl
    · simp [hk, h, hx, Option.filter_some]
    · simp [hk, Ne.symm hk]
  · rw [bays b]
    refine (s.detachBays_shed sl x.delivery b).congr fun e _ => ?_
    by_cases he : e.slot = sl
    · simp [State.queuedFor, he, h, hx]
    · simp [he]

/-- A slot freed where it holds a block of the stream, and otherwise left. -/
def State.freeSlotFor (s : State) (st : StreamId) (sl : SlotId) : State :=
  match s.pool.get sl with
  | none => s
  | some x => if x.stream = st then s.detachSlot sl false else s

theorem State.freeSlotFor_freed (s : State) (st : StreamId) (sl : SlotId) :
    s.freed (s.freeSlotFor st sl) st [sl] := by
  unfold State.freeSlotFor
  split
  · next h => exact .idle fun y hy => by rw [h] at hy; cases hy
  · next x h =>
    split
    · next hx => exact .detachSlot h hx
    · next hx => exact .idle fun y hy => by rw [h] at hy; cases hy; exact hx

theorem State.freeSlotsOf_freed (s : State) (st : StreamId) :
    s.freed (s.freeSlotsOf st) st allSlots := by
  have each : ∀ (l : List SlotId) (t : State),
      t.freed (l.foldl (fun u sl => u.freeSlotFor st sl) t) st l := by
    intro l
    induction l with
    | nil => exact fun t => .nil t st
    | cons sl l ih => exact fun t => (t.freeSlotFor_freed st sl).trans (ih _)
  exact each allSlots s

/-- A stream CLOSED, its credit and its due status ended, and the arbiter's grants for what it held:
what CLOSE STREAM does once the slots are free (02 R28). -/
def State.ended (s : State) (st : StreamId) : State :=
  let t := s.modStream st fun x => { x.revoke with isOpen := false, satisfied := false, age := 0 }
  { t with due := t.due.filter (· ≠ st) }.arbitrate

theorem State.ended_frame (s : State) (st : StreamId) :
    (s.ended st).bays = s.bays ∧ (s.ended st).pool = s.pool ∧
      (s.ended st).blockFrame = s.blockFrame :=
  ⟨State.arbitrate_bays _, State.arbitrate_pool _, State.arbitrate_blockFrame _⟩

/-- The closed stream holds no credit, and its status is not due (02 R26, R28). -/
theorem State.ended_stream (s : State) (st : StreamId) :
    ((s.ended st).stream st).isOpen = false ∧ ((s.ended st).stream st).satisfied = false ∧
      ((s.ended st).stream st).age = 0 ∧ ((s.ended st).stream st).held = 0 ∧
      st ∉ (s.ended st).due := by
  unfold State.ended
  extract_lets t
  have stream : t.stream st = { (s.stream st).revoke with
      isOpen := false, satisfied := false, age := 0 } := State.modStream_stream ..
  obtain ⟨same, due⟩ := State.arbitrate_closed (s := { t with due := t.due.filter (· ≠ st) })
    (st := st) (congrArg Stream.isOpen stream)
  rw [same.trans stream]
  exact ⟨rfl, rfl, rfl, Stream.held_revoke _, fun m => by simpa using due m⟩

theorem State.ended_record_ne (s : State) {st r : StreamId} (h : r ≠ st) :
    ((s.ended st).stream r).record = (s.stream r).record := by
  rw [State.ended, State.arbitrate_record]
  exact congrArg Stream.record (State.modStream_stream_ne _ _ (Ne.symm h))

/-- What CLOSE STREAM leaves of a state in which the stream is OPEN and nothing names it
(02 R28). -/
def State.closed (s : State) (st : StreamId) : State := (s.freeSlotsOf st).ended st

/-- CLOSE STREAM frees the slots that hold blocks of the stream, and no other (02 R28, step 1). -/
theorem State.closed_slots (s : State) (st : StreamId) :
    (∀ k y, (s.closed st).pool.get k = some y → y.stream ≠ st) ∧
      ∀ k, (∀ y, s.pool.get k = some y → y.stream ≠ st) →
        (s.closed st).pool.get k = s.pool.get k := by
  have pool : ∀ k, (s.closed st).pool.get k =
      (s.pool.get k).filter fun y => decide (y.stream ≠ st) := fun k => by
    rw [State.closed, ((s.freeSlotsOf st).ended_frame st).2.1, (s.freeSlotsOf_freed st).pool,
      if_pos (show k ∈ allSlots from List.mem_finRange k)]
  refine ⟨fun k y h => ?_, fun k h => ?_⟩
  · rw [pool] at h
    simpa using (Option.filter_eq_some_iff.mp h).2
  · rw [pool]
    cases hp : s.pool.get k with
    | none => rfl
    | some y => simp [Option.filter_some, h y hp]

/-- Each bay sheds what it has queued of the stream's blocks (02 R28, step 1). -/
theorem State.closed_bay (s : State) (st : StreamId) (b : BayId) :
    (s.bay b).shed ((s.closed st).bay b) (s.queuedFor st b) := by
  obtain ⟨bays, -, -⟩ := (s.freeSlotsOf st).ended_frame st
  have bay : (s.closed st).bay b = (s.freeSlotsOf st).bay b := congrArg (Table.get · b) bays
  rw [bay]
  refine ((s.freeSlotsOf_freed st).bays b).congr fun e _ => ?_
  rw [decide_eq_true (show e.slot ∈ allSlots from List.mem_finRange e.slot), Bool.true_and]

theorem State.closed_blockFrame (s : State) (st : StreamId) :
    (s.closed st).blockFrame = s.blockFrame :=
  ((s.freeSlotsOf st).ended_frame st).2.2.trans (s.freeSlotsOf_freed st).frame

/-- CLOSE STREAM opens and closes no other stream. -/
theorem State.closed_isOpen_ne (s : State) {st r : StreamId} (h : r ≠ st) :
    ((s.closed st).stream r).isOpen = (s.stream r).isOpen :=
  (Stream.fields_of_record
    (((s.freeSlotsOf st).ended_record_ne h).trans ((s.freeSlotsOf_freed st).records r))).1

theorem State.taken_stream (s : State) (rest : List QueuedRequest) (st : StreamId) :
    (s.taken rest).stream st = s.stream st := rfl

theorem State.taken_streamNamed (s : State) (rest : List QueuedRequest) (st : StreamId) :
    (s.taken rest).streamNamed st = s.streamNamed st := rfl

section Requests
variable {s : State} {x : Byte} {st : StreamId}

theorem State.openStream_eq (hx : x.toNat = st.val) (level : Byte) (lengthLess1 last : Half) :
    s.openStream x level lengthLess1 last =
      if (s.stream st).isOpen then s.refuse .wrongState
      else ((s.modStream st fun y => y.opened (lengthLess1.toNat + 1)
        (max 1 (min 1024 last.toNat)) (min 7 level.toNat)).makeDue st).done
          (u16 lengthLess1.toNat ++ u16 (max 1 (min 1024 last.toNat)) ++
            u8 (min 7 level.toNat)) := by
  simp only [State.openStream, idx_eq_some hx, clampTo_eq 1 1024 _ (by decide)]

theorem State.setLevel_eq (hx : x.toNat = st.val) (level : Byte) :
    s.setLevel x level =
      if (s.stream st).isOpen then
        (s.modStream st fun y => { y with level := min 7 level.toNat }).done
          (u8 (min 7 level.toNat))
      else s.refuse .wrongState := by
  simp only [State.setLevel, idx_eq_some hx]

theorem State.closeStream_eq (hx : x.toNat = st.val) :
    s.closeStream x =
      if (s.stream st).isOpen = false ∨ s.streamNamed st = true then s.refuse .wrongState
      else (s.closed st).done [] := by
  simp only [State.closeStream, idx_eq_some hx]
  rfl

end Requests

/-- Settles O17: each request's three courses; a closed stream's blocks are freed slot by slot, and
what its bays have queued of them is shed. -/
theorem streamRequests : Obligations.StreamRequests := by
  refine ⟨fun s q rest x st hs hx => ⟨fun level lengthLess1 last hq => ?opening,
      fun level hq => ?level, fun hq => ?closing⟩,
    fun s q rest x hs hx => ⟨fun level lengthLess1 last hq => ?noOpening, fun level hq => ?noLevel,
      fun hq => ?noClosing⟩⟩
  case opening =>
    have handled : handleOpenStream (s.taken rest) q.request =
        some ((s.taken rest).openStream x level lengthLess1 last) := by rw [hq]; rfl
    rw [State.openStream_eq hx, State.taken_stream] at handled
    refine ⟨fun ho => ?_, fun ho => ?_⟩
    · rw [if_neg (by simp [ho])] at handled
      exact congrArg _ (State.execute_done hs handled (by rw [State.makeDue_uplink]; rfl))
    · rw [if_pos ho] at handled
      exact congrArg _ (State.execute_refused hs handled (by decide))
  case level =>
    have handled : handleSetLevel (s.taken rest) q.request =
        some ((s.taken rest).setLevel x level) := by rw [hq]; rfl
    rw [State.setLevel_eq hx, State.taken_stream] at handled
    refine ⟨fun ho => ?_, fun ho => ?_⟩
    · rw [if_pos ho] at handled
      exact congrArg _ (State.execute_done hs handled rfl)
    · rw [if_neg (by simp [ho])] at handled
      exact congrArg _ (State.execute_refused hs handled (by decide))
  case closing =>
    have handled : handleCloseStream (s.taken rest) q.request =
        some ((s.taken rest).closeStream x) := by rw [hq]; rfl
    rw [State.closeStream_eq hx, State.taken_stream, State.taken_streamNamed] at handled
    refine ⟨fun ho hn => ?_, fun h => ?_⟩
    · rw [if_neg (by simp [ho, hn])] at handled
      obtain ⟨loads, uplink, mgmt, resume, -⟩ :=
        State.fields_of_blockFrame ((s.taken rest).closed_blockFrame st)
      obtain ⟨isOpen, satisfied, age, held, due⟩ := ((s.taken rest).freeSlotsOf st).ended_stream st
      obtain ⟨freed, kept⟩ := (s.taken rest).closed_slots st
      refine ⟨_, congrArg _ (State.execute_done hs handled uplink), isOpen, satisfied, age, held,
        due, freed, kept, fun r hr => (s.taken rest).closed_isOpen_ne hr, fun b => ?_, mgmt, loads,
        resume, uplink⟩
      have shed : (s.bay b).shed _ (s.queuedFor st b) := (s.taken rest).closed_bay st b
      refine ⟨shed.queue.trans (List.filter_congr fun e _ => s.not_queuedFor st b e),
        fun e he y hy hst hb j hj => ?_, shed.detached, shed.channels, shed.ctl, shed.port,
        shed.inventory⟩
      obtain ⟨k, hk, same, needed⟩ := shed.jobs e.place j hj
      have queued := State.queuedFor_of_mem hy hst hb
      exact ⟨k, hk, needed e.offset (.inr ⟨e, he, queued, rfl, rfl⟩), same⟩
    · rw [if_pos h] at handled
      exact congrArg _ (State.execute_refused hs handled (by decide))
  case noOpening =>
    refine congrArg _ (State.execute_refused hs ?_ (by decide))
    simp only [hq, handleOpenStream, State.openStream, idx_eq_none hx]
  case noLevel =>
    refine congrArg _ (State.execute_refused hs ?_ (by decide))
    simp only [hq, handleSetLevel, State.setLevel, idx_eq_none hx]
  case noClosing =>
    refine congrArg _ (State.execute_refused hs ?_ (by decide))
    simp only [hq, handleCloseStream, State.closeStream, idx_eq_none hx]

end Sys2Proof.Machine

namespace Sys2Proof.Machine

/-! SUPPORT and PROOFS. Channel frames and blocks sent (02 R36, R37, 03 R55, R64, R66, 04 R81,
06 R123 to R125). -/

/-! ## The channel frames (03 R55, R66) -/

/-- A job control frame that waits goes first on a trained and qualified port (06 R123). -/
theorem Bay.txChoice_control {x : Bay} {f : ControlFrame} {rest : List ControlFrame}
    (ht : x.port.phase = .trained) (hq : x.port.qualified = true)
    (hc : x.port.control = f :: rest) :
    x.txChoice = some (.control f) := by
  simp [Bay.txChoice, ht, hq, hc]

/-- Settles O55: the frame is the transmitter's choice, and its sending writes the port, the timer
of its channel and one counter. -/
theorem channelFramesSent : Obligations.ChannelFramesSent := by
  refine fun s b c tag rest ht hq => ⟨fun i last start hc => ?opens, fun check units hc => ?closes⟩
  case opens =>
    refine congrArg _ (show s.sendChannelOpen b = _ from ?_)
    rw [State.sendChannelOpen, Bay.txChoice_control ht hq hc]
    simp [State.controlSent, State.popControl, State.onLine, State.startTimer, hc]
  case closes =>
    refine congrArg _ (show s.sendChannelClose b = _ from ?_)
    rw [State.sendChannelClose, Bay.txChoice_control ht hq hc]
    simp [State.controlSent, State.popControl, State.onLine, State.startTimer, hc]

/-! ## A block (03 R64, 02 R36, R37) -/

/-- The slot that a bay leaves: free when the bay was its last, and otherwise as it was but for the
bay (02 R36, R37). -/
theorem State.leaveSlot_slot {s : State} {sl : SlotId} {x : Slot} (h : s.pool.get sl = some x)
    (b : BayId) :
    (s.leaveSlot b sl).pool.get sl = if ∀ a ∈ x.delivery, a = b then none
      else some { x with delivery := x.delivery.filter (· ≠ b) } := by
  have last : (x.delivery.filter (· ≠ b)).isEmpty = true ↔ ∀ a ∈ x.delivery, a = b := by simp
  unfold State.leaveSlot
  rw [h]
  dsimp only
  split
  · next e => rw [if_pos (last.mp e), State.arbitrate_pool, Table.get_set_self]
  · next e => rw [if_neg fun all => e (last.mpr all), Table.get_set_self]

@[simp] theorem State.leaveSlot_blockFrame (s : State) (b : BayId) (sl : SlotId) :
    (s.leaveSlot b sl).blockFrame = s.blockFrame := by
  simp [State.blockFrame]

/-- The block run count (06 R125). -/
theorem Port.countBlock_eq (x : Port) :
    x.countBlock = { x with
      blockRun := if x.passDown = [] then x.blockRun else min 8 (x.blockRun + 1) } := by
  unfold Port.countBlock
  split
  · next h => rw [if_pos (List.isEmpty_iff.mp h)]
  · next h => rw [if_neg (mt List.isEmpty_iff.mpr h)]; rfl

/-- What a block's sending writes in its bay, before the bay leaves the slot (03 R64, 04 R81). -/
theorem State.sendEntry_eq (s : State) (b : BayId) (e : TxEntry) (slot : Slot)
    {channels : List Channel}
    (h : channels = (s.bay b).channels.modify e.channel.val fun ch =>
      { ch with credit := ch.credit - 1,
                inFlight := ch.inFlight ++ [⟨slot.sequence, s.clock.usec, s.clock.ticks⟩] }) :
    s.sendEntry b e slot = (s.setBay b { s.bay b with
      txQueue := (s.bay b).txQueue.filter (· ≠ e),
      channels := channels,
      deadline := { (s.bay b).deadline with
        probe := match (s.bay b).deadline.probe with
          | some p => some p
          | none => some ⟨e.channel, slot.sequence, s.clock.usec,
              (channels.map fun ch => ch.inFlight.length).sum⟩ },
      port := { (s.bay b).port with
        blockRun := if (s.bay b).port.passDown = [] then (s.bay b).port.blockRun
          else min 8 ((s.bay b).port.blockRun + 1),
        line := some (.block e.channel slot.sequence slot.payload) },
      counters := (s.bay b).counters.modify BayCounter.blocksSent.index satInc }).leaveSlot b
        e.slot := by
  subst h
  simp only [State.sendEntry, State.startProbe_eq, State.onLine, State.modPort_eq, State.bump_eq,
    State.modChannel_eq, State.modBay_eq, State.setBay_bay, State.setBay_setBay,
    State.setBay_clock, Port.countBlock_eq] <;> rfl

/-- Settles O58: the bay is written as `State.sendEntry_eq` says, and leaving the slot writes pool,
streams and due statuses alone. -/
theorem blockSent : Obligations.BlockSent := by
  intro s b e slot channels hchoice hslot hchannels
  have sent : s.sendBlock b = s.sendEntry b e slot := by simp only [State.sendBlock, hchoice, hslot]
  rw [State.sendEntry_eq s b e slot hchannels] at sent
  generalize hx : ({ s.bay b with
    txQueue := _, channels := _, deadline := _, port := _, counters := _ } : Bay) = x at sent
  obtain ⟨loads, uplink, mgmt, resume, clock⟩ :=
    State.fields_of_blockFrame ((s.setBay b x).leaveSlot_blockFrame b e.slot)
  obtain ⟨-, others⟩ := (s.setBay b x).leaveSlot_pool b e.slot
  refine ⟨(s.setBay b x).leaveSlot b e.slot, congrArg _ sent, ?_,
    State.leaveSlot_slot (s := s.setBay b x) hslot b, others, fun a ha => ?_, loads, uplink, mgmt, by simp, by simp, resume, clock⟩
  · rw [State.leaveSlot_bay, State.setBay_bay]
  · rw [State.leaveSlot_bay, State.setBay_bay_ne _ _ (Ne.symm ha)]

end Sys2Proof.Machine

namespace Sys2Proof.Machine

/-! SUPPORT and PROOFS. Jobs, channels and probes of a bay, and a receipt timeout (02 R41, 03 R62,
R65, 04 R82, R83). -/

/-! ## A channel with the job that holds it -/

/-- A channel held by a job names the place of the job. -/
theorem State.held?_iff {s : State} {b : BayId} {c : ChannelId} {p : Place} {j : Job}
    {ch : Channel} :
    s.held? b c = some (p, j, ch) ↔
      s.channel b c = some ch ∧ ch.job = some p ∧ s.job b p = some j := by
  unfold State.held?
  cases hc : s.channel b c with
  | none => simp
  | some ch' =>
    dsimp only
    split
    · next hp =>
      refine iff_of_false (by simp) ?_
      rintro ⟨h, hq, -⟩
      cases h
      simp [hp] at hq
    · next q hq =>
      simp only [Option.map_eq_some_iff, Prod.mk.injEq]
      constructor
      · rintro ⟨k, hk, rfl, rfl, rfl⟩
        exact ⟨rfl, hq, hk⟩
      · rintro ⟨h, hp, hj⟩
        cases h
        cases hq.symm.trans hp
        exact ⟨j, hj, rfl, rfl, rfl⟩

/-- A frame answers the job that holds the channel it names, under the channel's tag. -/
theorem State.answered_iff {s : State} {b : BayId} {channel tag : Byte} {c : ChannelId}
    {p : Place} {j : Job} :
    s.answered b channel tag = some (c, p, j) ↔
      channel.toNat = c.val ∧ ∃ ch, s.held? b c = some (p, j, ch) ∧ ch.tag = tag := by
  unfold State.answered
  constructor
  · intro h
    split at h
    · cases h
    · next d hd =>
      have named : channel.toNat = d.val := by
        unfold idx at hd
        split at hd
        · cases hd; rfl
        · cases hd
      split at h
      · cases h
      · next q k ch hk =>
        split at h
        · next ht => cases h; exact ⟨named, ch, hk, ht⟩
        · cases h
  · rintro ⟨hc, ch, hk, ht⟩
    simp only [idx_eq_some hc, hk, ht, if_true]

/-- A channel reads as changed. -/
theorem channel_modify {l : List Channel} {c : ChannelId} {ch : Channel} (h : l[c.val]? = some ch)
    (f : Channel → Channel) : (l.modify c.val f)[c.val]? = some (f ch) := by
  simp [h]

/-! ## Counters -/

/-- Two counters have two places (10 R169). -/
theorem BayCounter.index_ne {k l : BayCounter} (h : k ≠ l) : k.index ≠ l.index := by
  intro e
  have same : k.ctorIdx = l.ctorIdx := congrArg Fin.val e
  exact h (by rw [← BayCounter.ofNat_ctorIdx k, same, BayCounter.ofNat_ctorIdx])

/-- What raising a counter shows at another. -/
theorem counters_modify_ne {t : Table 66 Word} {k l : BayCounter} (h : k ≠ l) :
    (t.modify l.index satInc).get k.index = t.get k.index :=
  Table.get_modify_ne _ _ (BayCounter.index_ne (Ne.symm h))

/-! ## An offset made needed (03 R62) -/

/-- Making an offset needed writes the jobs of its bay and counts joins alone. -/
theorem State.makeNeeded_writes (s : State) (b : BayId) (p : Place) (d : Nat) :
    ∃ jobs n, s.makeNeeded b p d = s.setBay b { s.bay b with jobs := jobs, counters := n } ∧
      ∀ k : BayCounter, k ≠ .gapJoins → n.get k.index = (s.bay b).counters.get k.index := by
  unfold State.makeNeeded
  split
  · exact ⟨_, _, (s.setBay_self b).symm, fun _ _ => rfl⟩
  · next j hj =>
    split
    · exact ⟨_, _, (s.setBay_self b).symm, fun _ _ => rfl⟩
    · dsimp only
      obtain ⟨n, hn, counted⟩ := s.setBay_bumpIf b { s.bay b with
        jobs := (s.bay b).jobs.modify p (Option.map fun k =>
          { k with gaps := (addRange j.gaps ⟨d, d⟩).1 }) } (addRange j.gaps ⟨d, d⟩).2 .gapJoins
      refine ⟨_, n, hn, fun k hk => ?_⟩
      rcases counted with rfl | rfl
      · rfl
      · exact counters_modify_ne hk

/-! ## Probes resolved (04 R82, R83) -/

theorem Bay.probeAt_eq_some {x : Bay} {c : ChannelId} {n : Nat} {pr : Probe} :
    x.probeAt c n = some pr ↔ x.deadline.probe = some pr ∧ pr.channel = c ∧ pr.sequence = n := by
  unfold Bay.probeAt
  cases x.deadline.probe with
  | none => simp
  | some q =>
    dsimp only
    split
    · next h =>
      simp only [Option.some.injEq]
      exact ⟨fun e => ⟨e, e ▸ h⟩, fun e => e.1⟩
    · next h =>
      simp only [reduceCtorEq, Option.some.injEq, false_iff]
      exact fun ⟨e, g⟩ => h (e ▸ g)

theorem Bay.probeAt_eq_none {x : Bay} {c : ChannelId} {n : Nat} :
    x.probeAt c n = none ↔
      ∀ pr, x.deadline.probe = some pr → pr.channel = c → pr.sequence ≠ n := by
  simp only [Option.eq_none_iff_forall_ne_some, ne_eq, Bay.probeAt_eq_some, not_and]

/-- A deadline unit whose probe has given a sample (04 R83). -/
def Deadline.sampled (d : Deadline) (sample : Nat) : Deadline :=
  { d with probe := none, serviceTime := updatedServiceTime d.serviceTime sample }

theorem State.sampleProbe_eq (s : State) (b : BayId) (sample : Nat) (k : BayCounter) :
    s.sampleProbe b sample k = s.setBay b { s.bay b with
      deadline := (s.bay b).deadline.sampled sample,
      counters := (s.bay b).counters.modify k.index satInc } := by
  simp [State.sampleProbe, Deadline.sampled]

/-- T moves by an eighth of the way to the sample, rounded down; it does not go below 0. -/
theorem updatedServiceTime_eq {T x : Nat} (h : 1 ≤ x) :
    (updatedServiceTime T x : Int) = T + ((x : Int) - T) / 8 := by
  unfold updatedServiceTime
  rw [Int.fdiv_eq_ediv_of_nonneg _ (by decide)]
  omega

/-- What a timeout that may be the probe's writes (04 R82). -/
theorem State.probeTimedOut_writes (s : State) (b : BayId) (c : ChannelId) (n : Nat) :
    ∃ d k, s.probeTimedOut b c n = s.setBay b { s.bay b with deadline := d, counters := k } ∧
      (∀ pr, (s.bay b).probeAt c n = some pr → d = (s.bay b).deadline.sampled 65535 ∧
        k = (s.bay b).counters.modify BayCounter.probeTimeouts.index satInc) ∧
      ((s.bay b).probeAt c n = none →
        d = (s.bay b).deadline ∧ k = (s.bay b).counters) := by
  unfold State.probeTimedOut
  split
  · next h => exact ⟨_, _, (s.setBay_self b).symm, by simp [h], fun _ => ⟨rfl, rfl⟩⟩
  · next pr h =>
    exact ⟨_, _, s.sampleProbe_eq b 65535 .probeTimeouts, fun _ _ => ⟨rfl, rfl⟩, by simp [h]⟩

/-! ## A receipt timeout (03 R65) -/

/-- A bay whose entry of sequence n and offset d, in flight on channel c for the job in place p, has
timed out; `ch` is what the channel has become. -/
structure Bay.timedOut (x y : Bay) (c : ChannelId) (ch : Channel) (p : Place) (n d : Nat) :
    Prop where
  channel : y.channels[c.val]? = some ch
  needed : y.jobs.get p = (x.jobs.get p).map fun j => { j with gaps := gapsNeeding j.gaps d }
  others : ∀ q, q ≠ p → y.jobs.get q = x.jobs.get q
  counted : y.counters.get BayCounter.receiptTimeouts.index =
    satInc (x.counters.get BayCounter.receiptTimeouts.index)
  sampled : ∀ pr, x.probeAt c n = some pr → y.deadline = x.deadline.sampled 65535 ∧
    y.counters.get BayCounter.probeTimeouts.index =
      satInc (x.counters.get BayCounter.probeTimeouts.index)
  unsampled : x.probeAt c n = none → y.deadline = x.deadline
  queue : y.txQueue = x.txQueue
  inventory : y.inventory = x.inventory
  ctl : y.ctl = x.ctl
  port : y.port = x.port

/-- A receipt timeout writes its bay, and then the stream is judged where a gap range has
changed. -/
theorem State.flightTimedOut_writes {s : State} {b : BayId} {c : ChannelId} {p : Place} {j : Job}
    {ch : Channel} {f : Flight} {rest : List Flight} (h : s.held? b c = some (p, j, ch))
    (hf : ch.inFlight = f :: rest) :
    ∃ x, s.flightTimedOut b c = (s.setBay b x).judgeMoved s [b] j.stream ∧
      (s.bay b).timedOut x c { ch with inFlight := rest, credit := ch.credit + 1 } p f.sequence
        (j.offsetOf f.sequence) := by
  obtain ⟨hch, -, -⟩ := State.held?_iff.mp h
  -- the channel, then the probe, then the job is written
  generalize hl : (s.bay b).channels.modify c.val (fun y =>
    { y with inFlight := rest, credit := y.credit + 1 }) = l
  obtain ⟨d, k, probed, hit, missed⟩ :=
    (s.setBay b { s.bay b with channels := l }).probeTimedOut_writes b c f.sequence
  simp only [State.setBay_bay, State.setBay_setBay] at probed hit missed
  obtain ⟨u, hu⟩ : ∃ u, u = s.setBay b { s.bay b with
    channels := l, deadline := d, counters := k } := ⟨_, rfl⟩
  rw [← hu] at probed
  have bay : u.bay b = { s.bay b with channels := l, deadline := d, counters := k } := by
    rw [hu, State.setBay_bay]
  have needed := u.makeNeeded_job b p (j.offsetOf f.sequence)
  have others := fun q (hq : p ≠ q) => u.makeNeeded_job_ne b (q := q) (j.offsetOf f.sequence) hq
  obtain ⟨jobs, n, made, counts⟩ := u.makeNeeded_writes b p (j.offsetOf f.sequence)
  simp only [made, State.job, State.setBay_bay, bay] at needed others counts
  refine ⟨{ s.bay b with
    channels := l, deadline := d, jobs := jobs,
    counters := n.modify BayCounter.receiptTimeouts.index satInc }, ?_, ?_, needed,
    fun q hq => others q (Ne.symm hq), ?_, fun pr hpr => ?_, fun hno => (missed hno).1,
    rfl, rfl, rfl, rfl⟩
  · simp only [State.flightTimedOut, h, hf, State.modChannel_eq, State.modBay_eq, hl, probed, made,
      State.bump_eq, State.setBay_bay, bay]
    rw [hu, State.setBay_setBay, State.setBay_setBay]
  · rw [← hl, channel_modify hch]
  · have stayed : k.get BayCounter.receiptTimeouts.index =
        (s.bay b).counters.get BayCounter.receiptTimeouts.index := by
      cases hp : Bay.probeAt { s.bay b with channels := l } c f.sequence with
      | none => rw [(missed hp).2]
      | some pr => rw [(hit pr hp).2, counters_modify_ne (by decide)]
    rw [← stayed, Table.get_modify_self, counts _ (by decide)]
  · obtain ⟨hd, hk⟩ := hit pr hpr
    rw [counters_modify_ne (by decide), counts _ (by decide), hk, Table.get_modify_self]
    exact ⟨hd, rfl⟩

/-- Settles O26: the bay is written as `State.flightTimedOut_writes` says; an offset in a range
already leaves every job, so that nothing is judged. -/
theorem receiptTimeoutNeeds : Obligations.ReceiptTimeoutNeeds := by
  intro s b c p j ch f rest hheld hflights
  obtain ⟨-, -, hj⟩ := State.held?_iff.mp hheld
  obtain ⟨x, final, out⟩ := State.flightTimedOut_writes hheld hflights
  obtain ⟨k, hk⟩ : ∃ k, k = { j with gaps := gapsNeeding j.gaps (j.offsetOf f.sequence) } :=
    ⟨_, rfl⟩
  have needed : x.jobs.get p = some k := hk ▸ out.needed.trans (congrArg _ hj)
  obtain ⟨loads, uplink, mgmt, resume, -⟩ :=
    State.fields_of_blockFrame ((s.setBay b x).judgeMoved_blockFrame s [b] j.stream)
  generalize ht : (s.setBay b x).judgeMoved s [b] j.stream = t at final loads uplink mgmt resume
  have bay : t.bay b = x := by rw [← ht, State.judgeMoved_bay, State.setBay_bay]
  refine ⟨t, congrArg _ final, ?channel, ⟨k, ?job, ?inGaps, ?sameJob⟩,
    fun q hq => ?others, fun hin => ?stays, ?counted, fun pr hpr hc hq hT => ?sampled,
    fun hno => ?unsampled, ?queue, ?inventory, ?ctl, ?port, fun a ha => ?bays, loads, ?pool, resume,
    uplink, mgmt⟩
  case channel => rw [State.channel, bay, out.channel]
  case job => rw [State.job, bay, needed]
  case inGaps => rw [hk]; exact inGaps_gapsNeeding (.inl rfl)
  case sameJob => rw [hk]
  case others => rw [State.job, bay, out.others q hq, State.job]
  case stays =>
    have jobs : x.jobs = (s.bay b).jobs := Table.ext_get fun q => by
      by_cases hq : q = p
      · subst hq
        rw [needed, hk, gapsNeeding, if_pos hin]
        exact hj.symm
      · exact out.others q hq
    have still : t = s.setBay b x :=
      ht.symm.trans (State.judgeMoved_same _ _ _ _ (by simp [Bay.demand, Bay.jobList, jobs]))
    rw [still, State.setBay_bay]
    exact ⟨jobs, rfl, rfl⟩
  case counted => rw [State.bayCounter, bay, out.counted, State.bayCounter]
  case sampled =>
    obtain ⟨hd, hk⟩ := out.sampled pr (Bay.probeAt_eq_some.mpr ⟨hpr, hc, hq⟩)
    have moved := updatedServiceTime_eq (T := (s.bay b).deadline.serviceTime) (x := 65535)
      (by decide)
    rw [State.bayCounter, bay, hk, hd, Deadline.sampled]
    refine ⟨?_, rfl⟩
    congr 1
    omega
  case unsampled =>
    rw [bay]
    exact out.unsampled (Bay.probeAt_eq_none.mpr fun pr hpr hc =>
      (hno pr hpr).resolve_left (not_not_intro hc))
  case queue => rw [bay, out.queue]
  case inventory => rw [bay, out.inventory]
  case ctl => rw [bay, out.ctl]
  case port => rw [bay, out.port]
  case bays => rw [← ht, State.judgeMoved_bay, State.setBay_bay_ne _ _ (Ne.symm ha)]
  case pool => rw [← ht, State.judgeMoved_pool, State.setBay_pool]

end Sys2Proof.Machine

namespace Sys2Proof.Machine

/-! SUPPORT and PROOFS. An accepted OPEN ACK, and a RECEIPT (02 R41, R45, 03 R56, R61, R66,
04 R82, R83). -/

/-! ## A transfer that is complete (03 R66) -/

/-- A transfer is complete when the job is RECEIVING with its cursor at L and has nothing left that
is needed, queued or in flight. -/
theorem Bay.transferDone_iff {x : Bay} {p : Place} {j : Job} :
    x.transferDone p j = true ↔ j.state = .receiving ∧ j.cursor = j.identity.length ∧
      j.gaps = [] ∧ x.flights j = [] ∧ ∀ e ∈ x.txQueue, e.place ≠ p := by
  simp only [Bay.transferDone, Bay.heldOffsets, Bay.queuedOffsets, Bool.and_eq_true,
    decide_eq_true_eq, List.isEmpty_iff, List.append_eq_nil_iff, List.map_eq_nil_iff,
    List.filter_eq_nil_iff, and_assoc, ne_eq]
  tauto

/-- The in-flight entries of a job that holds a channel are the channel's. -/
theorem Bay.flights_eq {x : Bay} {j : Job} {c : ChannelId} {ch : Channel} (hc : j.channel = some c)
    (hch : x.channels[c.val]? = some ch) : x.flights j = ch.inFlight := by
  simp only [Bay.flights, hc, hch]

theorem State.checkCompletion_unfinished {s : State} {b : BayId} {p : Place} {j : Job}
    (hj : s.job b p = some j) (h : ¬ (s.bay b).transferDone p j = true) :
    s.checkCompletion b p = s := by
  unfold State.checkCompletion
  rw [hj]
  dsimp only
  split
  · rfl
  · exact if_neg h

/-- A bay whose job `j` in place p, on channel c, has been judged for completion. -/
def Bay.completed (x : Bay) (p : Place) (j : Job) (c : ChannelId) : Bay :=
  if x.transferDone p j then
    { x with
      jobs := x.jobs.modify p (Option.map fun k => { k with state := .closing }),
      port := { x.port with
        control := x.port.control ++ [.channelClose c j.tag j.identity.check j.pendingUnits] } }
  else x

theorem State.checkCompletion_eq {s : State} {b : BayId} {p : Place} {j : Job} {c : ChannelId}
    (hj : s.job b p = some j) (hc : j.channel = some c) :
    s.checkCompletion b p = s.setBay b ((s.bay b).completed p j c) := by
  unfold Bay.completed
  by_cases h : (s.bay b).transferDone p j = true
  · rw [if_pos h]
    simp [State.checkCompletion, hj, hc, h, State.enterClosing, State.placeControl]
  · rw [State.checkCompletion_unfinished hj h, if_neg h, State.setBay_self]

/-- What the judgement for completion leaves of a bay. -/
theorem Bay.completed_keeps (x : Bay) (p : Place) (j : Job) (c : ChannelId) :
    (x.completed p j c).channels = x.channels ∧ (x.completed p j c).counters = x.counters ∧
      (x.completed p j c).deadline = x.deadline ∧ (x.completed p j c).ctl = x.ctl ∧
      (x.completed p j c).txQueue = x.txQueue ∧ (x.completed p j c).inventory = x.inventory ∧
      ∀ q, q ≠ p → (x.completed p j c).jobs.get q = x.jobs.get q := by
  unfold Bay.completed
  split
  · exact ⟨rfl, rfl, rfl, rfl, rfl, rfl, fun q hq => Table.get_modify_ne _ _ (Ne.symm hq)⟩
  · exact ⟨rfl, rfl, rfl, rfl, rfl, rfl, fun _ _ => rfl⟩

/-! ## An accepted OPEN ACK (03 R56) -/

/-- An accepted open of a job that still has blocks to receive. -/
theorem State.openAccepted_eq {s : State} {b : BayId} {p : Place} {j : Job} (c : ChannelId)
    (hj : s.job b p = some j) (h : j.cursor < j.identity.length) :
    s.openAccepted b c p j = (s.setBay b { s.bay b with
      channels := (s.bay b).channels.modify c.val fun ch =>
        { ch with openTimer := none, openExpired := false },
      port := { (s.bay b).port with
        control := (s.bay b).port.control.filter fun f => !ControlFrame.opens c f },
      jobs := (s.bay b).jobs.modify p (Option.map fun k => { k with state := .receiving }) }).judge
        j.stream := by
  generalize hx : ({ s.bay b with channels := _, port := _, jobs := _ } : Bay) = x
  have job : (s.setBay b x).job b p = some { j with state := .receiving } := by
    have hj' : (s.bay b).jobs.get p = some j := hj
    simp [State.job, ← hx, hj']
  have unfinished : ¬ x.transferDone p { j with state := .receiving } = true := fun e => by
    obtain ⟨-, full, -⟩ := Bay.transferDone_iff.mp e
    exact absurd full (Nat.ne_of_lt h)
  have accepted : s.openAccepted b c p j = ((s.setBay b x).checkCompletion b p).judge j.stream := by
    simp [State.openAccepted, State.removeControl, ← hx]
  rw [accepted, State.checkCompletion_unfinished job (by rwa [State.setBay_bay])]

/-- Settles O47: the OPEN ACK is heard, and writes its channel and its job as
`State.openAccepted_eq` says. -/
theorem openAccepted : Obligations.OpenAccepted := by
  intro s b f c p j hears hans hst href hcur
  obtain ⟨-, ch, hheld, -⟩ := State.answered_iff.mp hans
  obtain ⟨-, -, hj⟩ := State.held?_iff.mp hheld
  generalize hs : s.setBay b ((s.bay b).heard s.config.threshold) = u
  have bay : u.bay b = (s.bay b).heard s.config.threshold := by rw [← hs, State.setBay_bay]
  have taken : s.receive b (fun t => t.takeOpenAck b f) = u.openAccepted b c p j := by
    have ans : u.answered b f.channel f.tag = some (c, p, j) := by rw [← hs]; simpa using hans
    rw [State.receive_hears s b _ hears, hs]
    simp [State.takeOpenAck, ans, hst, href]
  have ujob : u.job b p = some j := by rw [State.job, bay]; exact hj
  rw [State.openAccepted_eq c ujob hcur] at taken
  generalize hx : ({ u.bay b with channels := _, port := _, jobs := _ } : Bay) = x at taken
  rw [bay] at hx
  have final : u.setBay b x = s.setBay b x := by rw [← hs, State.setBay_setBay]
  rw [final] at taken
  obtain ⟨loads, uplink, -, resume, -⟩ :=
    State.fields_of_blockFrame ((s.setBay b x).judge_blockFrame j.stream)
  refine ⟨(s.setBay b x).judge j.stream, congrArg _ taken, ?job, fun q hq => ?others, ?_, ?_, ?_,
    ?_, State.judge_pool .., fun a ha => ?bays, loads, uplink, resume⟩
  case job =>
    have hj' : (s.bay b).jobs.get p = some j := hj
    simp [State.job, ← hx, hj']
  case others => simp [State.job, ← hx, Ne.symm hq]
  case bays => rw [State.judge_bay, State.setBay_bay_ne _ _ (Ne.symm ha)]
  all_goals rw [State.judge_bay, State.setBay_bay, ← hx]
  all_goals rfl

/-! ## A RECEIPT (03 R66) -/

/-! ### The in-flight entries -/

theorem mem_of_mem_removeFlight {n : Nat} {f : Flight} {l : List Flight}
    (h : f ∈ removeFlight n l) : f ∈ l := by
  induction l with
  | nil => exact h
  | cons g l ih =>
    unfold removeFlight at h
    split at h
    · exact List.mem_cons_of_mem _ h
    · exact List.mem_cons.mpr ((List.mem_cons.mp h).imp_right ih)

/-- Removing a sequence leaves the entries of the others. -/
theorem mem_removeFlight {n : Nat} {f : Flight} {l : List Flight} (hf : f.sequence ≠ n)
    (h : f ∈ l) : f ∈ removeFlight n l := by
  induction l with
  | nil => exact h
  | cons g l ih =>
    unfold removeFlight
    split
    · next hg => exact (List.mem_cons.mp h).resolve_left fun e => hf (e ▸ hg)
    · exact List.mem_cons.mpr ((List.mem_cons.mp h).imp_right ih)

theorem removeFlight_absent {n : Nat} {l : List Flight} (h : ∀ f ∈ l, f.sequence ≠ n) :
    removeFlight n l = l := by
  induction l with
  | nil => rfl
  | cons g l ih =>
    obtain ⟨hg, hl⟩ := List.forall_mem_cons.mp h
    rw [removeFlight, if_neg hg, ih hl]

/-- Whatever a sequence is judged to be, it is in flight once less than before. -/
theorem Receipted.take_flights (j : Job) (r : Receipted) (q : Half) :
    (r.take j q).flights = removeFlight q.toNat r.flights := by
  unfold Receipted.take
  dsimp only
  split
  · rfl
  · next h =>
    have absent : removeFlight q.toNat r.flights = r.flights :=
      removeFlight_absent fun f hf e => h ⟨f, hf, e⟩
    rw [absent]
    split <;> rfl

/-! ### The probe -/

/-- How the sequences of a RECEIPT, with those entries in flight on channel c, act on the bay's
probe: resolved by a sample when one of them is the probe's and in flight, and otherwise left
(04 R82). -/
structure Bay.probeJudged (x y : Bay) (now : Word) (c : ChannelId) (flights : List Flight)
    (qs : List Half) : Prop where
  missed : (∀ pr, x.deadline.probe = some pr → pr.channel = c →
      (∃ q ∈ qs, q.toNat = pr.sequence) → ∀ f ∈ flights, f.sequence ≠ pr.sequence) →
    y.deadline = x.deadline ∧ y.counters.get BayCounter.probeSamples.index =
      x.counters.get BayCounter.probeSamples.index
  hit : ∀ pr, x.deadline.probe = some pr → pr.channel = c →
    (∃ q ∈ qs, q.toNat = pr.sequence) → (∃ f ∈ flights, f.sequence = pr.sequence) →
    y.deadline = x.deadline.sampled (receiptSample (now - pr.sent).toNat pr.n) ∧
      y.counters.get BayCounter.probeSamples.index =
        satInc (x.counters.get BayCounter.probeSamples.index)

theorem Bay.probeJudged.nil (x : Bay) (now : Word) (c : ChannelId) (flights : List Flight) :
    x.probeJudged x now c flights [] where
  missed _ := ⟨rfl, rfl⟩
  hit _ _ _ h := by simp at h

/-- A probe that one sequence has resolved is there for no later one. -/
theorem Bay.probeJudged.cons {x y z : Bay} {now : Word} {c : ChannelId} {flights : List Flight}
    {q : Half} {qs : List Half} (h : x.probeJudged y now c flights [q])
    (h' : y.probeJudged z now c (removeFlight q.toNat flights) qs) :
    x.probeJudged z now c flights (q :: qs) where
  missed no := by
    obtain ⟨hd, hn⟩ := h.missed fun pr hpr hc ⟨r, hr, e⟩ => no pr hpr hc
      ⟨r, List.mem_cons.mpr (.inl (List.mem_singleton.mp hr)), e⟩
    obtain ⟨hd', hn'⟩ := h'.missed fun pr hpr hc ⟨r, hr, e⟩ f hf =>
      no pr (hd ▸ hpr) hc ⟨r, List.mem_cons_of_mem _ hr, e⟩ f (mem_of_mem_removeFlight hf)
    exact ⟨hd'.trans hd, hn'.trans hn⟩
  hit pr hpr hc named flying := by
    by_cases e : q.toNat = pr.sequence
    · obtain ⟨hd, hn⟩ := h.hit pr hpr hc ⟨q, List.mem_singleton_self q, e⟩ flying
      obtain ⟨hd', hn'⟩ := h'.missed fun pr' hpr' => by simp [hd, Deadline.sampled] at hpr'
      exact ⟨hd'.trans hd, hn'.trans hn⟩
    · obtain ⟨hd, hn⟩ := h.missed fun pr' hpr' _ ⟨r, hr, e'⟩ => by
        cases hpr.symm.trans hpr'
        exact absurd (List.mem_singleton.mp hr ▸ e') e
      obtain ⟨r, hr, er⟩ := named
      obtain ⟨f, hf, ef⟩ := flying
      have later : r ∈ qs := (List.mem_cons.mp hr).resolve_left fun g => e (g ▸ er)
      obtain ⟨hd', hn'⟩ := h'.hit pr (hd ▸ hpr) hc ⟨r, later, er⟩
        ⟨f, mem_removeFlight (fun g => e (g.symm.trans ef)) hf, ef⟩
      exact ⟨hd'.trans (by rw [hd]), hn'.trans (by rw [hn])⟩

/-- What a receipt that may be the probe's writes (04 R82). -/
theorem State.probeReceived_writes (s : State) (b : BayId) (c : ChannelId) (n : Nat) :
    ∃ d k, s.probeReceived b c n = s.setBay b { s.bay b with deadline := d, counters := k } ∧
      (∀ l : BayCounter, l ≠ .probeSamples → k.get l.index = (s.bay b).counters.get l.index) ∧
      (∀ pr, (s.bay b).probeAt c n = some pr →
        d = (s.bay b).deadline.sampled (receiptSample (s.clock.usec - pr.sent).toNat pr.n) ∧
          k.get BayCounter.probeSamples.index =
            satInc ((s.bay b).counters.get BayCounter.probeSamples.index)) ∧
      ((s.bay b).probeAt c n = none →
        d = (s.bay b).deadline ∧ k = (s.bay b).counters) := by
  unfold State.probeReceived
  split
  · next h =>
    exact ⟨_, _, (s.setBay_self b).symm, fun _ _ => rfl, by simp [h], fun _ => ⟨rfl, rfl⟩⟩
  · next pr h =>
    refine ⟨_, _, s.sampleProbe_eq b _ .probeSamples, fun l hl => counters_modify_ne hl,
      fun pr' h' => ?_, by simp [h]⟩
    cases h.symm.trans h'
    exact ⟨rfl, Table.get_modify_self ..⟩

/-! ### One sequence judged -/

/-- What removing an offset from a job's gap ranges writes (03 R61). -/
theorem State.removeOffset_writes {s : State} {b : BayId} {p : Place} {j : Job}
    (hj : s.job b p = some j) (d : Nat) :
    ∃ n, s.removeOffset b p d = s.setBay b { s.bay b with
        jobs := (s.bay b).jobs.set p (some { j with gaps := (Machine.removeOffset j.gaps d).1 }),
        counters := n } ∧
      (∀ l : BayCounter, l ≠ .declinedSplits → n.get l.index = (s.bay b).counters.get l.index) ∧
      n.get BayCounter.declinedSplits.index =
        Nat.repeat satInc (if (Machine.removeOffset j.gaps d).2 then 1 else 0)
          ((s.bay b).counters.get BayCounter.declinedSplits.index) := by
  have hj' : (s.bay b).jobs.get p = some j := hj
  unfold State.removeOffset
  simp only [hj, State.modJob_eq, State.modBay_eq, Table.modify, hj', Option.map_some, State.bumpIf]
  split
  · exact ⟨(s.bay b).counters.modify BayCounter.declinedSplits.index satInc, by simp,
      fun l hl => counters_modify_ne hl, Table.get_modify_self ..⟩
  · exact ⟨_, rfl, fun _ _ => rfl, rfl⟩

/-- A valid frame within its kind's bounds, on a port that gains no qualification by it. -/
theorem State.receiveIf_hears {s : State} {b : BayId} {fits : Bool} (take : State → State)
    (hf : fits = true) (h : s.hears b) :
    s.receiveIf b fits take = take (s.setBay b ((s.bay b).heard s.config.threshold)) :=
  (if_pos hf).trans (State.receive_hears s b take h)

/-- A bay whose RECEIPT has come to `r` so far, for the job in place p on channel c. -/
structure Bay.receipted (x y : Bay) (c : ChannelId) (p : Place) (j : Job) (ch : Channel)
    (r : Receipted) : Prop where
  channels : y.channels = x.channels.modify c.val fun _ =>
    { ch with inFlight := r.flights, credit := r.credit }
  jobs : y.jobs = x.jobs.set p (some { j with gaps := r.gaps })
  applied : y.counters.get BayCounter.receiptsApplied.index =
    Nat.repeat satInc r.applied (x.counters.get BayCounter.receiptsApplied.index)
  duplicates : y.counters.get BayCounter.duplicateReceipts.index =
    Nat.repeat satInc r.duplicates (x.counters.get BayCounter.duplicateReceipts.index)
  declined : y.counters.get BayCounter.declinedSplits.index =
    Nat.repeat satInc r.declined (x.counters.get BayCounter.declinedSplits.index)
  queue : y.txQueue = x.txQueue
  inventory : y.inventory = x.inventory
  ctl : y.ctl = x.ctl
  port : y.port = x.port

section Receipts
variable {b : BayId} {x : Bay} {c : ChannelId} {p : Place} {j : Job} {ch : Channel} {r : Receipted}

theorem Bay.receipted.job {y : Bay} (h : x.receipted y c p j ch r) :
    y.jobs.get p = some { j with gaps := r.gaps } := by
  rw [h.jobs, Table.get_set_self]

theorem Bay.receipted.channel {y : Bay} (h : x.receipted y c p j ch r)
    (hc : x.channels[c.val]? = some ch) :
    y.channels[c.val]? = some { ch with inFlight := r.flights, credit := r.credit } := by
  rw [h.channels, channel_modify hc]

/-- A sequence in flight: its entry leaves, its credit is back, and its offset leaves its range. -/
theorem State.applyReceipt_flying {t : State} (h : x.receipted (t.bay b) c p j ch r)
    (hc : x.channels[c.val]? = some ch) {q : Half}
    (flying : ∃ f ∈ r.flights, f.sequence = q.toNat) :
    ∃ y, t.applyReceipt b c p q.toNat = t.setBay b y ∧ x.receipted y c p j ch (r.take j q) ∧
      (t.bay b).probeJudged y t.clock.usec c r.flights [q] := by
  have job : t.job b p = some { j with gaps := r.gaps } := h.job
  have channel : t.channel b c = some { ch with inFlight := r.flights, credit := r.credit } :=
    h.channel hc
  have taken : r.take j q = { r with
      gaps := (Machine.removeOffset r.gaps (j.offsetOf q.toNat)).1,
      flights := removeFlight q.toNat r.flights, credit := r.credit + 1, applied := r.applied + 1,
      declined := r.declined +
        if (Machine.removeOffset r.gaps (j.offsetOf q.toNat)).2 then 1 else 0 } := if_pos flying
  -- the channel, then the probe, then the job is written
  generalize hl : (t.bay b).channels.modify c.val (fun y =>
    { y with inFlight := removeFlight q.toNat y.inFlight, credit := y.credit + 1 }) = l
  obtain ⟨d, k, probed, kept, hit, missed⟩ :=
    (t.setBay b { t.bay b with channels := l }).probeReceived_writes b c q.toNat
  simp only [State.setBay_bay, State.setBay_setBay] at probed kept hit missed
  obtain ⟨u, hu⟩ : ∃ u, u = t.setBay b { t.bay b with
    channels := l, deadline := d, counters := k } := ⟨_, rfl⟩
  have bay : u.bay b = { t.bay b with channels := l, deadline := d, counters := k } := by
    rw [hu, State.setBay_bay]
  obtain ⟨n, removed, stayed, declined⟩ := State.removeOffset_writes (s := u) (b := b) (p := p)
    (by rw [State.job, bay]; exact job) (j.offsetOf q.toNat)
  rw [← hu] at probed
  simp only [bay] at removed stayed declined
  refine ⟨{ t.bay b with
    channels := l, deadline := d,
    jobs := (t.bay b).jobs.set p
      (some { j with gaps := (Machine.removeOffset r.gaps (j.offsetOf q.toNat)).1 }),
    counters := n.modify BayCounter.receiptsApplied.index satInc }, ?_, ?_, ?_⟩
  · have any : r.flights.any (fun f => decide (f.sequence = q.toNat)) = true := by
      simpa using flying
    have offset : ({ j with gaps := r.gaps } : Job).offsetOf q.toNat = j.offsetOf q.toNat := rfl
    simp only [State.applyReceipt, job, channel, any, if_true, State.modChannel_eq, State.modBay_eq,
      hl, probed, offset, removed, State.bump_eq, State.setBay_bay]
    rw [hu, State.setBay_setBay, State.setBay_setBay]
  · rw [taken]
    refine ⟨?_, by rw [h.jobs, Table.set_set], ?_, ?_, ?_, h.queue, h.inventory, h.ctl, h.port⟩
    · rw [← hl, h.channels, List.modify_modify_eq]
      rfl
    · rw [Table.get_modify_self, stayed _ (by decide), kept _ (by decide), h.applied]
      rfl
    · rw [counters_modify_ne (by decide), stayed _ (by decide), kept _ (by decide), h.duplicates]
    · rw [counters_modify_ne (by decide), declined, kept _ (by decide), h.declined, Nat.add_comm]
      split <;> rfl
  · refine ⟨fun no => ?_, fun pr hpr hch ⟨q', hq', e⟩ _ => ?_⟩
    · have none : Bay.probeAt { t.bay b with channels := l } c q.toNat = none :=
        Bay.probeAt_eq_none.mpr fun pr hpr hch e => by
          obtain ⟨f, hf, ef⟩ := flying
          exact no pr hpr hch ⟨q, List.mem_singleton_self q, e.symm⟩ f hf (ef.trans e.symm)
      obtain ⟨hd, hk⟩ := missed none
      rw [counters_modify_ne (by decide), stayed _ (by decide), hk]
      exact ⟨hd, rfl⟩
    · cases List.mem_singleton.mp hq'
      obtain ⟨hd, hk⟩ := hit pr (Bay.probeAt_eq_some.mpr ⟨hpr, hch, e.symm⟩)
      rw [counters_modify_ne (by decide), stayed _ (by decide), hk]
      exact ⟨hd, rfl⟩

/-- A sequence that is not in flight: late, and its offset leaves its range, or a duplicate. -/
theorem State.applyReceipt_landed {t : State} (h : x.receipted (t.bay b) c p j ch r)
    (hc : x.channels[c.val]? = some ch) {q : Half}
    (landed : ¬ ∃ f ∈ r.flights, f.sequence = q.toNat) :
    ∃ y, t.applyReceipt b c p q.toNat = t.setBay b y ∧ x.receipted y c p j ch (r.take j q) ∧
      (t.bay b).probeJudged y t.clock.usec c r.flights [q] := by
  have job : t.job b p = some { j with gaps := r.gaps } := h.job
  have channel : t.channel b c = some { ch with inFlight := r.flights, credit := r.credit } :=
    h.channel hc
  have any : ¬ r.flights.any (fun f => decide (f.sequence = q.toNat)) = true := by
    simpa using landed
  have judged : ∀ y : Bay, y.deadline = (t.bay b).deadline →
      y.counters.get BayCounter.probeSamples.index =
        (t.bay b).counters.get BayCounter.probeSamples.index →
      (t.bay b).probeJudged y t.clock.usec c r.flights [q] := fun y hd hn =>
    ⟨fun _ => ⟨hd, hn⟩, fun pr _ _ ⟨q', hq', e⟩ ⟨f, hf, ef⟩ =>
      absurd ⟨f, hf, ef.trans (e.symm.trans (by rw [List.mem_singleton.mp hq']))⟩ landed⟩
  by_cases late : q.toNat < j.identity.length ∧ ∃ g ∈ r.gaps, g.first ≤ j.offsetOf q.toNat ∧
      j.offsetOf q.toNat ≤ g.last
  · have taken : r.take j q = { r with
        gaps := (Machine.removeOffset r.gaps (j.offsetOf q.toNat)).1, applied := r.applied + 1,
        declined := r.declined +
          if (Machine.removeOffset r.gaps (j.offsetOf q.toNat)).2 then 1 else 0 } :=
      (if_neg landed).trans (if_pos late)
    obtain ⟨n, removed, stayed, declined⟩ := State.removeOffset_writes job (j.offsetOf q.toNat)
    refine ⟨{ t.bay b with
      jobs := (t.bay b).jobs.set p
        (some { j with gaps := (Machine.removeOffset r.gaps (j.offsetOf q.toNat)).1 }),
      counters := n.modify BayCounter.receiptsApplied.index satInc }, ?_, ?_, judged _ rfl ?_⟩
    · have inGap : inGaps r.gaps (j.offsetOf q.toNat) = true := inGaps_iff.mpr late.2
      have offset : ({ j with gaps := r.gaps } : Job).offsetOf q.toNat = j.offsetOf q.toNat := rfl
      simp only [State.applyReceipt, job, channel, any, offset, late.1, inGap, removed, and_self,
        if_true, State.bump_eq, State.modBay_eq, State.setBay_bay, State.setBay_setBay]
      simp
    · rw [taken]
      refine ⟨h.channels, by rw [h.jobs, Table.set_set], ?_, ?_, ?_, h.queue, h.inventory, h.ctl,
        h.port⟩
      · rw [Table.get_modify_self, stayed _ (by decide), h.applied]
        rfl
      · rw [counters_modify_ne (by decide), stayed _ (by decide), h.duplicates]
      · rw [counters_modify_ne (by decide), declined, h.declined, Nat.add_comm]
        split <;> rfl
    · rw [counters_modify_ne (by decide), stayed _ (by decide)]
  · have taken : r.take j q = { r with duplicates := r.duplicates + 1 } :=
      (if_neg landed).trans (if_neg late)
    have duplicate : ¬ (q.toNat < j.identity.length ∧
        inGaps r.gaps (j.offsetOf q.toNat) = true) := fun ⟨h1, h2⟩ => late ⟨h1, inGaps_iff.mp h2⟩
    refine ⟨{ t.bay b with
      counters := (t.bay b).counters.modify BayCounter.duplicateReceipts.index satInc }, ?_, ?_,
      judged _ rfl (counters_modify_ne (by decide))⟩
    · simp only [State.applyReceipt, job, channel]
      exact (if_neg any).trans (if_neg duplicate)
    · rw [taken]
      refine ⟨h.channels, h.jobs, ?_, ?_, ?_, h.queue, h.inventory, h.ctl, h.port⟩
      · rw [counters_modify_ne (by decide), h.applied]
      · rw [Table.get_modify_self, h.duplicates]
        rfl
      · rw [counters_modify_ne (by decide), h.declined]

/-! ### All of them judged -/

/-- The sequences of a RECEIPT judged one after another write the one bay. -/
theorem State.applyReceipts_receipted (hc : x.channels[c.val]? = some ch) (qs : List Half)
    {t : State} (h : x.receipted (t.bay b) c p j ch r) :
    ∃ y, qs.foldl (fun u q => u.applyReceipt b c p q.toNat) t = t.setBay b y ∧
      x.receipted y c p j ch (qs.foldl (Receipted.take j) r) ∧
      (t.bay b).probeJudged y t.clock.usec c r.flights qs := by
  induction qs generalizing t r with
  | nil => exact ⟨t.bay b, (t.setBay_self b).symm, h, .nil ..⟩
  | cons q qs ih =>
    obtain ⟨y, step, hy, probe⟩ := (em (∃ f ∈ r.flights, f.sequence = q.toNat)).elim
      (State.applyReceipt_flying h hc) (State.applyReceipt_landed h hc)
    obtain ⟨z, rest, hz, probe'⟩ := ih (t := t.setBay b y) (by rwa [State.setBay_bay])
    rw [Receipted.take_flights, State.setBay_bay] at probe'
    exact ⟨z, by rw [List.foldl_cons, step, rest, State.setBay_setBay], hz, probe.cons probe'⟩

/-- A RECEIPT writes the one bay: its sequences judged, and then the job for completion; the stream
is judged where a gap range or the job's state has changed. -/
theorem State.takeReceipt_writes {s : State} {f : ReceiptFrame}
    (ha : s.answered b f.channel f.tag = some (c, p, j)) (hch : s.channel b c = some ch)
    (hc : j.channel = some c) :
    ∃ y, s.takeReceipt b f = (s.setBay b (y.completed p
        { j with gaps := (receiptOf j ch f.sequences).gaps } c)).judgeMoved s [b] j.stream ∧
      (s.bay b).receipted y c p j ch (receiptOf j ch f.sequences) ∧
      (s.bay b).probeJudged y s.clock.usec c ch.inFlight f.sequences := by
  obtain ⟨-, ch', hheld, -⟩ := State.answered_iff.mp ha
  obtain ⟨-, -, hj⟩ := State.held?_iff.mp hheld
  have start : (s.bay b).receipted (s.bay b) c p j ch
      ⟨j.gaps, ch.inFlight, ch.credit, 0, 0, 0⟩ := by
    refine ⟨?_, ?_, rfl, rfl, rfl, rfl, rfl, rfl, rfl⟩
    · refine List.ext_getElem? fun i => ?_
      rw [List.getElem?_modify]
      by_cases e : c.val = i
      · subst e
        have h : (s.bay b).channels[c.val]? = some ch := hch
        simp [h]
      · simp [e]
    · exact (Table.set_get_self (s.bay b).jobs p).symm.trans (congrArg _ hj)
  obtain ⟨y, judged, hy, probe⟩ := State.applyReceipts_receipted hch f.sequences start
  refine ⟨y, ?_, hy, probe⟩
  have job : (s.setBay b y).job b p =
      some { j with gaps := (receiptOf j ch f.sequences).gaps } := by
    rw [State.job, State.setBay_bay]
    exact hy.job
  simp only [State.takeReceipt, ha, judged]
  rw [State.checkCompletion_eq job hc, State.setBay_bay, State.setBay_setBay]

/-- When the transfer of a job is complete after its RECEIPT. -/
theorem Bay.receipted.done_iff {y : Bay} (h : x.receipted y c p j ch r) (hc : j.channel = some c)
    (hch : x.channels[c.val]? = some ch) :
    y.transferDone p { j with gaps := r.gaps } = true ↔ j.state = .receiving ∧
      j.cursor = j.identity.length ∧ r.gaps = [] ∧ r.flights = [] ∧
      ∀ e ∈ x.txQueue, e.place ≠ p := by
  rw [Bay.transferDone_iff, Bay.flights_eq (j := { j with gaps := r.gaps }) hc (h.channel hch),
    h.queue]

end Receipts

/-- Settles O49: `State.takeReceipt_writes` for the bay; the probe by `Bay.probeJudged`, the job by
whether its transfer is complete. -/
theorem receiptConfirms : Obligations.ReceiptConfirms := by
  intro s b channel tag qs c p j ch r hears least most ans hch hc hr
  subst hr
  obtain ⟨-, ch', hheld, -⟩ := State.answered_iff.mp ans
  obtain ⟨-, -, hj⟩ := State.held?_iff.mp hheld
  generalize hu : s.setBay b ((s.bay b).heard s.config.threshold) = u
  have ubay : u.bay b = (s.bay b).heard s.config.threshold := by rw [← hu, State.setBay_bay]
  have uch : u.channel b c = some ch := by rw [State.channel, ubay]; exact hch
  obtain ⟨y, taken, hy, probe⟩ := State.takeReceipt_writes (s := u) (f := ⟨channel, tag, qs⟩)
    (by rw [← hu]; simpa using ans) uch hc
  have fits : (⟨channel, tag, qs⟩ : ReceiptFrame).fits = true := by
    simp [ReceiptFrame.fits, least, most]
  have final := State.receiveIf_hears (fun t => t.takeReceipt b ⟨channel, tag, qs⟩) fits hears
  rw [hu, taken] at final
  have done := hy.done_iff hc uch
  dsimp only at final hy probe done
  generalize receiptOf j ch qs = r at final hy probe done ⊢
  generalize hz : y.completed p { j with gaps := r.gaps } c = z at final
  have zbay : u.setBay b z = s.setBay b z := by rw [← hu, State.setBay_setBay]
  rw [zbay] at final
  rw [ubay] at hy probe done
  obtain ⟨channels, counters, deadline, ctl, queue, inventory, others⟩ :=
    y.completed_keeps p { j with gaps := r.gaps } c
  rw [hz] at channels counters deadline ctl queue inventory others
  obtain ⟨loads, uplink, -, resume, -⟩ :=
    State.fields_of_blockFrame ((s.setBay b z).judgeMoved_blockFrame u [b] j.stream)
  generalize ht : (s.setBay b z).judgeMoved u [b] j.stream = t at final loads uplink resume
  have bay : t.bay b = z := by rw [← ht, State.judgeMoved_bay, State.setBay_bay]
  have other : ∀ l : BayCounter, l ≠ .validFrames →
      ((s.bay b).heard s.config.threshold).counters.get l.index = s.bayCounter b l :=
    fun l hl => counters_modify_ne hl
  refine ⟨t, congrArg _ final, ?channel, fun q hq => ?others, ?applied, ?duplicates, ?declined,
    fun pr hpr hpc hn named flying => ?hit, fun no => ?missed, fun open_ => ?goesOn,
    fun hrec hcur hgaps hflights hqueue => ?closes, ?ctl, ?queue, ?inventory, ?pool,
    fun a ha => ?bays, loads, uplink, resume⟩
  case channel => rw [State.channel, bay, channels, hy.channel hch]
  case others => rw [State.job, bay, others q hq, hy.jobs, Table.get_set_ne _ _ (Ne.symm hq)]; rfl
  case applied => rw [State.bayCounter, bay, counters, hy.applied, other _ (by decide)]
  case duplicates => rw [State.bayCounter, bay, counters, hy.duplicates, other _ (by decide)]
  case declined => rw [State.bayCounter, bay, counters, hy.declined, other _ (by decide)]
  case hit =>
    obtain ⟨hd, hk⟩ := probe.hit pr hpr hpc named flying
    have clock : u.clock = s.clock := by rw [← hu]; rfl
    have sample := clampTo_eq 1 65535 ((s.clock.usec - pr.sent).toNat / pr.n) (by decide)
    rw [State.bayCounter, bay, counters, hk, deadline, hd, clock, receiptSample, sample]
    exact ⟨rfl, updatedServiceTime_eq (by omega), by rw [other _ (by decide)]⟩
  case missed =>
    obtain ⟨hd, hk⟩ := probe.missed no
    rw [State.bayCounter, bay, counters, hk, deadline, hd, other _ (by decide)]
    exact ⟨rfl, rfl⟩
  case goesOn =>
    have unfinished : ¬ y.transferDone p { j with gaps := r.gaps } = true := fun e => by
      obtain ⟨h1, h2, h3, h4, h5⟩ := done.mp e
      rcases open_ with h | h | h | h | ⟨e, he, h⟩
      · exact h h1
      · exact h h2
      · exact h h3
      · exact h h4
      · exact h5 e he h
    have zy : z = y := hz.symm.trans (if_neg unfinished)
    refine ⟨by rw [State.job, bay, zy, hy.job], by rw [bay, zy, hy.port], fun hgaps => ?_⟩
    have jobs : z.jobs = (u.bay b).jobs := by
      rw [zy, hy.jobs, ubay, hgaps]
      exact (congrArg _ hj.symm).trans (Table.set_get_self (s.bay b).jobs p)
    have still : t = s.setBay b z := ht.symm.trans
      (State.judgeMoved_same _ _ _ _ (by simp [Bay.demand, Bay.jobList, jobs]))
    rw [still]
    exact ⟨rfl, rfl, rfl⟩
  case closes =>
    have zc := hz.symm.trans (if_pos (done.mpr ⟨hrec, hcur, hgaps, hflights, hqueue⟩))
    rw [State.job, bay, zc]
    dsimp only
    rw [Table.get_modify_self, hy.job, hy.port, hgaps]
    exact ⟨rfl, rfl⟩
  case ctl => rw [bay, ctl, hy.ctl]; rfl
  case queue => rw [bay, queue, hy.queue]; rfl
  case inventory => rw [bay, inventory, hy.inventory]; rfl
  case pool => rw [← ht, State.judgeMoved_pool, State.setBay_pool]
  case bays => rw [← ht, State.judgeMoved_bay, State.setBay_bay_ne _ _ (Ne.symm ha)]

end Sys2Proof.Machine

namespace Sys2Proof.Machine

/-! SUPPORT and PROOFS. Channels freed and assigned, and opens given up (03 R54 to R58). -/

/-! ## Work in one bay -/

/-- What the work of a transfer leaves of its bay: the controller, the inventory, and every count
but those of joined gap ranges and of abandoned probes. -/
structure Bay.works (x y : Bay) : Prop where
  ctl : y.ctl = x.ctl
  inventory : y.inventory = x.inventory
  counts : ∀ k : BayCounter, k ≠ .gapJoins → k ≠ .probesAbandoned →
    y.counters.get k.index = x.counters.get k.index

theorem Bay.works.refl (x : Bay) : x.works x := ⟨rfl, rfl, fun _ _ _ => rfl⟩

theorem Bay.works.trans {x y z : Bay} (h : x.works y) (g : y.works z) : x.works z :=
  ⟨g.ctl.trans h.ctl, g.inventory.trans h.inventory,
    fun k h1 h2 => (g.counts k h1 h2).trans (h.counts k h1 h2)⟩

/-- Work on channels and jobs of one bay, its queued blocks staying: nothing outside the bay has
changed. -/
structure State.worksIn (s t : State) (b : BayId) : Prop where
  only : t = s.setBay b (t.bay b)
  bay : (s.bay b).works (t.bay b)
  queue : (t.bay b).txQueue = (s.bay b).txQueue

section Works
variable {s t u : State} {b : BayId} {x : Bay}

theorem State.worksIn.refl (s : State) (b : BayId) : s.worksIn s b :=
  ⟨(s.setBay_self b).symm, .refl _, rfl⟩

theorem State.worksIn.trans (h : s.worksIn t b) (g : t.worksIn u b) : s.worksIn u b := by
  refine ⟨?_, h.bay.trans g.bay, g.queue.trans h.queue⟩
  have e := g.only
  rwa [h.only, State.setBay_setBay] at e

theorem State.worksIn.setBay (h : (s.bay b).works x) (q : x.txQueue = (s.bay b).txQueue) :
    s.worksIn (s.setBay b x) b :=
  ⟨by rw [State.setBay_bay], by rwa [State.setBay_bay], by rw [State.setBay_bay, q]⟩

/-- Work of one bay shows in nothing outside it. -/
theorem State.setBay_frame (s : State) (b : BayId) (x : Bay) :
    s.sameOtherBays (s.setBay b x) b ∧ s.sameLoads (s.setBay b x) ∧ s.sameBlocks (s.setBay b x) ∧
      s.sameUplink (s.setBay b x) :=
  ⟨fun _ ha => s.setBay_bay_ne x (Ne.symm ha), ⟨rfl, rfl, rfl, rfl, rfl, rfl, rfl⟩, ⟨rfl, rfl, rfl⟩,
    ⟨rfl, rfl, rfl⟩⟩

/-- The same of work that begins in a state with the bay changed. -/
theorem State.worksIn.frame (h : (s.setBay b x).worksIn t b) :
    s.sameOtherBays t b ∧ s.sameLoads t ∧ s.sameBlocks t ∧ s.sameUplink t := by
  rw [h.only, State.setBay_setBay]
  exact s.setBay_frame b (t.bay b)

end Works

/-! ## A bay on which a frame or an expiry has been noted -/

/-- What hearing a frame and counting leave of a bay. -/
structure Bay.noted (x y : Bay) : Prop where
  ctl : y.ctl = x.ctl
  inventory : y.inventory = x.inventory
  jobs : y.jobs = x.jobs
  channels : y.channels = x.channels
  queue : y.txQueue = x.txQueue

theorem Bay.noted_heard (x : Bay) (n : Nat) : x.noted (x.heard n) := ⟨rfl, rfl, rfl, rfl, rfl⟩

/-! ## A channel freed (03 R58) -/

theorem State.abandonProbe_writes (s : State) (b : BayId) (c : ChannelId) :
    ∃ d n, s.abandonProbe b c = s.setBay b { s.bay b with deadline := d, counters := n } ∧
      ∀ k : BayCounter, k ≠ .probesAbandoned →
        n.get k.index = (s.bay b).counters.get k.index := by
  unfold State.abandonProbe
  split
  · exact ⟨_, _, (s.setBay_self b).symm, fun _ _ => rfl⟩
  · split
    · exact ⟨_, (s.bay b).counters.modify BayCounter.probesAbandoned.index satInc, by simp; rfl,
        fun k hk => counters_modify_ne hk⟩
    · exact ⟨_, _, (s.setBay_self b).symm, fun _ _ => rfl⟩

/-- Offsets made needed one after another write the jobs of their bay and count joins alone. -/
theorem State.makeNeededs_writes (b : BayId) (p : Place) (l : List Nat) (s : State) :
    ∃ jobs n, l.foldl (fun t d => t.makeNeeded b p d) s =
        s.setBay b { s.bay b with jobs := jobs, counters := n } ∧
      ∀ k : BayCounter, k ≠ .gapJoins → n.get k.index = (s.bay b).counters.get k.index := by
  induction l generalizing s with
  | nil => exact ⟨_, _, (s.setBay_self b).symm, fun _ _ => rfl⟩
  | cons d l ih =>
    obtain ⟨jobs, n, made, counts⟩ := s.makeNeeded_writes b p d
    obtain ⟨jobs', n', rest, counts'⟩ := ih (s.makeNeeded b p d)
    simp only [made, State.setBay_bay, State.setBay_setBay] at rest counts'
    exact ⟨jobs', n', by rw [List.foldl_cons, made, rest],
      fun k hk => (counts' k hk).trans (counts k hk)⟩

/-- A channel that has been freed, of a bay that gives `per` credits. -/
def Channel.freed (ch : Channel) (per : Nat) : Channel :=
  { ch with job := none, credit := per, inFlight := [], openTimer := none, openExpired := false,
            closeTimer := none }

/-- A job whose channel has been freed with entries in flight. -/
def Job.freed (j : Job) (flights : List Flight) : Job :=
  { j with channel := none, deferred := false,
           gaps := (flights.map fun f => j.offsetOf f.sequence).foldl gapsNeeding j.gaps }

/-- A freed channel writes its bay: itself, its job, and the deferred flags. -/
theorem State.freeChannel_writes {s : State} {b : BayId} {c : ChannelId} {p : Place} {j : Job}
    {ch : Channel} (hch : s.channel b c = some ch) (hj : s.job b p = some j) :
    s.worksIn (s.freeChannel b c p) b ∧
      (s.freeChannel b c p).job b p = some (j.freed ch.inFlight) ∧
      (s.freeChannel b c p).channel b c = some (ch.freed (s.bay b).creditsPer) := by
  -- the entries in flight go, and the probe with them
  generalize hl : (s.bay b).channels.modify c.val (fun y => { y with inFlight := [] }) = l
  obtain ⟨d, n, abandoned, counts⟩ :=
    (s.setBay b { s.bay b with channels := l }).abandonProbe_writes b c
  simp only [State.setBay_bay, State.setBay_setBay] at abandoned counts
  obtain ⟨u, hu⟩ : ∃ u, u = s.setBay b { s.bay b with
    channels := l, deadline := d, counters := n } := ⟨_, rfl⟩
  have bay : u.bay b = { s.bay b with channels := l, deadline := d, counters := n } := by
    rw [hu, State.setBay_bay]
  rw [← hu] at abandoned
  -- their offsets become needed
  have needed := State.makeNeeded_all b p (ch.inFlight.map fun f => j.offsetOf f.sequence) u
  obtain ⟨jobs, m, made, counts'⟩ :=
    u.makeNeededs_writes b p (ch.inFlight.map fun f => j.offsetOf f.sequence)
  rw [made, show u.job b p = some j by rw [State.job, bay]; exact hj] at needed
  rw [List.foldl_map] at made
  simp only [bay, State.job, State.setBay_bay] at needed made counts'
  have eq : s.freeChannel b c p = s.setBay b { s.bay b with
      channels := l.modify c.val fun y =>
        { y with job := none, credit := (s.bay b).creditsPer, openTimer := none,
                 openExpired := false, closeTimer := none },
      deadline := d, counters := m,
      jobs := (jobs.modify p (Option.map fun k => { k with channel := none })).map
        (Option.map fun k => { k with deferred := false }),
      port := { (s.bay b).port with
        control := (s.bay b).port.control.filter fun f => !ControlFrame.ofChannel c f } } := by
    simp only [State.freeChannel, hch, hj, State.modChannel_eq, State.modBay_eq, hl, abandoned,
      made, State.modJob_eq, State.removeControl, State.clearDeferred, State.modPort_eq, State.setBay_bay,
      State.setBay_setBay]
    rw [hu, State.setBay_setBay]
  rw [eq]
  refine ⟨.setBay ⟨rfl, rfl, fun k h1 h2 => (counts' k h1).trans (counts k h2)⟩ rfl, ?_, ?_⟩
  · simp only [State.job, State.setBay_bay, Table.get_map, Table.get_modify_self, needed]
    rfl
  · simp only [State.channel, State.setBay_bay]
    rw [channel_modify (ch := { ch with inFlight := [] }) (by rw [← hl, channel_modify hch])]
    rfl

/-! ## Channels assigned (03 R54, R55) -/

/-- The job that gets a channel is one of the bay's that a channel may be given to. -/
theorem Bay.nextJob_assignable {x : Bay} {p : Place} {j : Job} (h : x.nextJob = some (p, j)) :
    x.jobs.get p = some j ∧ j.assignable = true := by
  have pick : ∀ a : Place × Job, a ∈ x.nextJob →
      x.jobs.get a.1 = some a.2 ∧ a.2.assignable = true := by
    unfold Bay.nextJob
    refine List.foldlRecOn (motive := fun acc : Option (Place × Job) => ∀ a ∈ acc,
      x.jobs.get a.1 = some a.2 ∧ a.2.assignable = true) _ _ (by simp) fun acc hacc a ha => ?_
    obtain ⟨listed, ok⟩ := List.mem_filter.mp ha
    have fits : x.jobs.get a.1 = some a.2 ∧ a.2.assignable = true := ⟨Bay.mem_jobList.mp listed, ok⟩
    split
    · simpa using fits
    · split
      · simpa using fits
      · exact hacc
  exact pick (p, j) h

/-- What holds before channels are assigned and is kept by each job's entering OPENING holds
after. -/
theorem State.assign_inv (P : State → Prop) {s : State} {b : BayId} (h : P s)
    (step : ∀ (t : State) c p j, P t → (t.bay b).ctl.state = .serving → t.job b p = some j →
      j.assignable = true → P (t.enterOpening b c p j)) : P (s.assign b) := by
  have fuel : ∀ (n : Nat) (t : State), P t → P (State.assigns n b t) := by
    intro n
    induction n with
    | zero => exact fun _ ht => ht
    | succ n ih =>
      intro t ht
      unfold State.assigns
      split
      · next serving =>
        split
        · next c p j _ next =>
          obtain ⟨hj, ok⟩ := Bay.nextJob_assignable next
          exact ih _ (step t c p j ht serving hj ok)
        · exact ht
      · exact ht
  exact fuel 4 s h

/-- Out of SERVING no channel is assigned. -/
theorem State.assign_away {s : State} {b : BayId} (h : (s.bay b).ctl.state ≠ .serving) :
    s.assign b = s := if_neg h

/-- A job that enters OPENING on a channel (03 R55). -/
def Job.opened (j : Job) (c : ChannelId) (tag : Byte) (position : Nat) : Job :=
  { j with state := .opening, channel := some c, tag := tag,
           start := if j.cursor = 0 ∧ j.gaps = [] then position else j.start }

/-- A job's entering OPENING is work in its bay, and changes no other job. -/
theorem State.enterOpening_writes {s : State} {b : BayId} {p : Place} {j : Job} (c : ChannelId)
    (hj : s.job b p = some j) :
    s.worksIn (s.enterOpening b c p j) b ∧
      (∃ tag, (s.enterOpening b c p j).job b p =
        some (j.opened c tag (s.stream j.stream).position)) ∧
      ∀ q, q ≠ p → (s.enterOpening b c p j).job b q = s.job b q := by
  have hj' : (s.bay b).jobs.get p = some j := hj
  simp only [State.enterOpening, State.placeControl, State.modPort_eq, State.modJob_eq,
    State.modChannel_eq, State.modBay_eq, State.setBay_bay, State.setBay_setBay]
  refine ⟨.setBay ⟨rfl, rfl, fun _ _ _ => rfl⟩ rfl, ⟨(s.bay b).openCounter + 1, ?_⟩, fun q hq => ?_⟩
  · simp [State.job, hj', Job.opened]
  · simp [State.job, Ne.symm hq]

theorem State.assign_worksIn (s : State) (b : BayId) : s.worksIn (s.assign b) b :=
  State.assign_inv (s.worksIn · b) (.refl s b) fun _ c _ _ h _ hj _ =>
    h.trans (State.enterOpening_writes c hj).1

/-- What the assignment of channels leaves of a job: the job itself, or, of one that a channel may
be given to, in SERVING, the job in OPENING. -/
theorem State.assign_job {s : State} {b : BayId} {p : Place} {j : Job} (hj : s.job b p = some j) :
    (s.assign b).job b p = some j ∨ (j.assignable = true ∧ ∃ c tag, (s.assign b).job b p =
      some (j.opened c tag (s.stream j.stream).position)) := by
  refine (State.assign_inv (fun t => t.streams = s.streams ∧ (t.job b p = some j ∨
    (j.assignable = true ∧ ∃ c tag, t.job b p =
      some (j.opened c tag (s.stream j.stream).position)))) ⟨rfl, .inl hj⟩ ?_).2
  intro t c q k ⟨streams, now⟩ _ hk ok
  obtain ⟨work, ⟨tag, entered⟩, others⟩ := State.enterOpening_writes c hk
  obtain ⟨-, -, ⟨streams', -, -⟩, -⟩ := State.worksIn.frame (x := t.bay b)
    ((t.setBay_self b).symm ▸ work)
  refine ⟨streams'.trans streams, ?_⟩
  by_cases e : q = p
  · subst e
    rcases now with now | ⟨-, c', tag', now⟩
    · cases hk.symm.trans now
      rw [State.stream, streams] at entered
      exact .inr ⟨ok, c, tag, entered⟩
    · cases hk.symm.trans now
      simp [Job.assignable, Job.opened] at ok
  · rw [others p (Ne.symm e)]
    exact now

/-! ## An open given up (03 R56, R57) -/

theorem State.openGivenUp_spec {s : State} {b : BayId} {c : ChannelId} {p : Place} {j : Job}
    {ch : Channel} (hch : s.channel b c = some ch) (hj : s.job b p = some j)
    (hf : ch.inFlight = []) :
    s.worksIn (s.openGivenUp b c p) b ∧ (s.openGivenUp b c p).job b p =
      some { j with state := .queued, channel := none, deferred := true } := by
  obtain ⟨work, job, -⟩ := State.freeChannel_writes hch hj
  generalize hu : (s.freeChannel b c p).modJob b p (fun k =>
    { k with state := .queued, deferred := true }) = u
  have requeued : (s.freeChannel b c p).worksIn u b := by
    rw [← hu]
    exact .setBay ⟨rfl, rfl, fun _ _ _ => rfl⟩ rfl
  have ujob : u.job b p = some { j with state := .queued, channel := none, deferred := true } := by
    rw [State.job] at job
    rw [← hu]
    simp [State.job, job, Job.freed, hf]
  have given : s.openGivenUp b c p = u.assign b := by rw [← hu]; rfl
  rw [given]
  refine ⟨(work.trans requeued).trans (u.assign_worksIn b), ?_⟩
  rcases State.assign_job ujob with h | ⟨h, -⟩
  · exact h
  · simp [Job.assignable] at h

/-- An open given up once that has been noted: the job waits, deferred, and nothing else of note has
changed. -/
theorem State.openGivenUp_noted {s : State} {b : BayId} {x : Bay} {c : ChannelId} {p : Place}
    {j : Job} {ch : Channel} (hx : (s.bay b).noted x) (hch : s.channel b c = some ch)
    (hj : s.job b p = some j) (hf : ch.inFlight = []) {t : State}
    (ht : (s.setBay b x).openGivenUp b c p = t) :
    t.job b p = some { j with state := .queued, channel := none, deferred := true } ∧
      (∀ k : BayCounter, k ≠ .gapJoins → k ≠ .probesAbandoned →
        t.bayCounter b k = x.counters.get k.index) ∧
      (t.bay b).ctl = (s.bay b).ctl ∧ (t.bay b).inventory = (s.bay b).inventory ∧
      (t.bay b).txQueue = (s.bay b).txQueue ∧
      s.sameOtherBays t b ∧ s.sameLoads t ∧ s.sameBlocks t ∧ s.sameUplink t := by
  subst ht
  obtain ⟨hctl, hinventory, hjobs, hchannels, hqueue⟩ := hx
  obtain ⟨work, job⟩ := State.openGivenUp_spec (s := s.setBay b x) (c := c) (ch := ch)
    (by rw [State.channel, State.setBay_bay, hchannels]; exact hch)
    (by rw [State.job, State.setBay_bay, hjobs]; exact hj) hf
  obtain ⟨⟨ctl, inventory, counts⟩, queue⟩ := And.intro work.bay work.queue
  rw [State.setBay_bay] at ctl inventory counts queue
  exact ⟨job, counts, ctl.trans hctl, inventory.trans hinventory, queue.trans hqueue, work.frame⟩

/-- Settles O27: the first expiry writes the channel and, unless it waits already, the frame; the
second gives the open up, and the deferred job gets no channel of those assigned at once. -/
theorem openTimerExpires : Obligations.OpenTimerExpires := by
  intro s b c p j ch timer hheld hst ht
  obtain ⟨hch, -, hj⟩ := State.held?_iff.mp hheld
  refine ⟨fun first unsent => congrArg Host.Outcome.next (?again : s.openExpiry b c = _),
    fun first waits => congrArg Host.Outcome.next (?waits : s.openExpiry b c = _),
    fun second hf => ?givesUp⟩
  case again =>
    have any : ¬ (s.bay b).port.control.any (ControlFrame.opens c) = true := by simpa using unsent
    simp [State.openExpiry, hheld, ht, hst, first, any, State.placeControl]
  case waits =>
    have any : (s.bay b).port.control.any (ControlFrame.opens c) = true := by simpa using waits
    simp [State.openExpiry, hheld, ht, hst, first, any]
  case givesUp =>
    generalize hx : ({ s.bay b with
      counters := (s.bay b).counters.modify BayCounter.openFailures.index satInc } : Bay) = x
    have noted : (s.bay b).noted x := by rw [← hx]; exact ⟨rfl, rfl, rfl, rfl, rfl⟩
    have expired : s.openExpiry b c = (s.setBay b x).openGivenUp b c p := by
      simp [State.openExpiry, hheld, ht, hst, second, ← hx]
    obtain ⟨job, counts, kept⟩ := State.openGivenUp_noted noted hch hj hf expired.symm
    refine ⟨s.openExpiry b c, rfl, job, ?_, kept⟩
    rw [counts _ (by decide) (by decide), ← hx]
    exact Table.get_modify_self ..

/-- Settles O48: the OPEN ACK is heard and the refusal counted; the open is given up as at a second
expiry. -/
theorem openRefused : Obligations.OpenRefused := by
  intro s b f c p j hears hans hst href hflights
  obtain ⟨-, ch, hheld, -⟩ := State.answered_iff.mp hans
  obtain ⟨hch, -, hj⟩ := State.held?_iff.mp hheld
  generalize hx : (({ (s.bay b).heard s.config.threshold with
    counters := ((s.bay b).heard s.config.threshold).counters.modify
      BayCounter.opensRefused.index satInc }) : Bay) = x
  have noted : (s.bay b).noted x := by rw [← hx]; exact ⟨rfl, rfl, rfl, rfl, rfl⟩
  have refused : s.receive b (fun t => t.takeOpenAck b f) = (s.setBay b x).openGivenUp b c p := by
    rw [State.receive_hears s b _ hears]
    simp [State.takeOpenAck, hans, hst, href, ← hx]
  obtain ⟨job, counts, kept⟩ := State.openGivenUp_noted noted hch hj (hflights ch hch) refused.symm
  refine ⟨s.receive b (fun t => t.takeOpenAck b f), rfl, job, ?_, kept⟩
  rw [counts _ (by decide) (by decide), ← hx, Table.get_modify_self]
  exact congrArg satInc (counters_modify_ne (by decide))

end Sys2Proof.Machine

namespace Sys2Proof.Machine

/-! SUPPORT. The units and the job that a close leaves, and the end of a job out of SERVING
(01 R22, 03 R51, R67, R68). -/

/-! ## The units of a close (03 R67, R68, 01 R22) -/

/-- A member once its unit's writing is known. -/
def Member.closed (written : Bool) (m : Member) : Member :=
  { m with state := if written then .staged else .stageFailed }

/-- What a close leaves of a unit's record, for a job in place p: the target in standby where the
unit was written, and otherwise a blocked record without standby that names the job no more. -/
def UnitRecord.closed (target : Version) (p : Place) (written : Bool) (r : UnitRecord) :
    UnitRecord :=
  if written then { r with standby := some target }
  else { r with standby := none, blocked := true, job := if r.job = some p then none else r.job }

theorem UnitRecord.closed_unit (target : Version) (p : Place) (written : Bool) (r : UnitRecord) :
    (r.closed target p written).unit = r.unit := by
  cases written <;> rfl

/-- A bay whose job in place p has learnt whether a unit was written. -/
def Bay.closeUnit (x : Bay) (p : Place) (target : Version) (written : Bool) (u : UnitAddr) : Bay :=
  { x with
    jobs := x.jobs.modify p (Option.map fun j => j.modMember u (Member.closed written)),
    inventory := x.inventory.map fun r => if r.unit = u then r.closed target p written else r,
    activation := if written then x.activation else x.activation.lose p u }

theorem State.stageMember_eq (s : State) (b : BayId) (p : Place) (u : UnitAddr)
    (target : Version) :
    s.stageMember b p u target = s.setBay b ((s.bay b).closeUnit p target true u) := by
  simp only [State.stageMember, State.setMember, UnitState.terminal, Bool.false_eq_true, if_false,
    State.modUnit_eq, State.modJob_eq, State.modBay_eq, State.setBay_bay, State.setBay_setBay,
    Bay.closeUnit, UnitRecord.closed, if_true]
  rfl

theorem State.failMember_eq (s : State) (b : BayId) (p : Place) (u : UnitAddr)
    (target : Version) :
    s.failMember b p u = s.setBay b ((s.bay b).closeUnit p target false u) := by
  have record : ∀ r : UnitRecord,
      (fun r => if r.unit = u then { r with standby := none, blocked := true } else r)
        (if r.unit = u then (if r.job = some p then { r with job := none } else r) else r) =
      if r.unit = u then r.closed target p false else r := by
    intro r
    by_cases hu : r.unit = u <;> by_cases hp : r.job = some p <;> simp [hu, hp, UnitRecord.closed]
  simp only [State.failMember, State.setMember, UnitState.terminal, if_true, State.modUnit_eq,
    State.modJob_eq, State.modBay_eq, State.setBay_bay, State.setBay_setBay, List.map_map,
    Function.comp_def, record, Bay.closeUnit, Bool.false_eq_true, if_false]
  rfl

/-- The units of a list closed one after another, each written as `w` says. -/
def Bay.closeUnits (x : Bay) (p : Place) (target : Version) (w : UnitAddr → Bool)
    (l : List UnitAddr) : Bay :=
  l.foldl (fun y u => y.closeUnit p target (w u) u) x

theorem State.foldl_closeUnit {b : BayId} {p : Place} {target : Version} {w : UnitAddr → Bool}
    {f : State → UnitAddr → State}
    (h : ∀ t u, f t u = t.setBay b ((t.bay b).closeUnit p target (w u) u)) (l : List UnitAddr)
    (s : State) : l.foldl f s = s.setBay b ((s.bay b).closeUnits p target w l) := by
  induction l generalizing s with
  | nil => exact (s.setBay_self b).symm
  | cons u l ih =>
    rw [List.foldl_cons, ih, h, State.setBay_bay, State.setBay_setBay]
    rfl

/-- A member after the units of a list have been closed. -/
def Member.closeIn (l : List UnitAddr) (w : UnitAddr → Bool) (m : Member) : Member :=
  if m.unit ∈ l ∧ m.state.terminal = false then m.closed (w m.unit) else m

theorem Member.closeIn_cons {u : UnitAddr} {l : List UnitAddr} (w : UnitAddr → Bool)
    (hu : u ∉ l) (m : Member) :
    (if m.unit = u && !m.state.terminal then m.closed (w u) else m).closeIn l w =
      m.closeIn (u :: l) w := by
  by_cases e : m.unit = u
  · subst e
    cases ht : m.state.terminal <;> simp [Member.closeIn, Member.closed, ht, hu]
  · simp [Member.closeIn, e]

section CloseUnits
variable (x : Bay) (p : Place) (target : Version) (w : UnitAddr → Bool)

theorem Bay.closeUnits_job {l : List UnitAddr} (hl : l.Nodup) :
    (x.closeUnits p target w l).jobs.get p =
      (x.jobs.get p).map fun j => { j with members := j.members.map (·.closeIn l w) } := by
  induction l generalizing x with
  | nil => simp [Bay.closeUnits, Member.closeIn]
  | cons u l ih =>
    obtain ⟨hu, hl⟩ := List.nodup_cons.mp hl
    refine (ih (x.closeUnit p target (w u) u) hl).trans ?_
    simp only [Bay.closeUnit, Table.get_modify_self, Option.map_map, Function.comp_def,
      Job.modMember, List.map_map, Member.closeIn_cons w hu]

theorem Bay.closeUnits_inventory {l : List UnitAddr} (hl : l.Nodup) :
    (x.closeUnits p target w l).inventory = x.inventory.map fun r =>
      if r.unit ∈ l then r.closed target p (w r.unit) else r := by
  induction l generalizing x with
  | nil => simp [Bay.closeUnits]
  | cons u l ih =>
    obtain ⟨hu, hl⟩ := List.nodup_cons.mp hl
    refine (ih (x.closeUnit p target (w u) u) hl).trans ?_
    simp only [Bay.closeUnit, List.map_map]
    refine List.map_congr_left fun r _ => ?_
    by_cases e : r.unit = u
    · subst e; simp [UnitRecord.closed_unit, hu]
    · simp [e]

theorem Bay.closeUnits_keeps (l : List UnitAddr) :
    (x.closeUnits p target w l).ctl = x.ctl ∧ (x.closeUnits p target w l).channels = x.channels ∧
      (x.closeUnits p target w l).txQueue = x.txQueue ∧
      (x.closeUnits p target w l).counters = x.counters :=
  foldl_inv (fun y : Bay => y.ctl = x.ctl ∧ y.channels = x.channels ∧ y.txQueue = x.txQueue ∧
    y.counters = x.counters) (fun y u => y.closeUnit p target (w u) u) (fun _ _ h => h) l x
    ⟨rfl, rfl, rfl, rfl⟩

end CloseUnits

/-- Records changed in other fields than their unit are found as changed. -/
theorem Bay.unit?_map {x y : Bay} {f : UnitRecord → UnitRecord}
    (h : y.inventory = x.inventory.map f) (hf : ∀ r, (f r).unit = r.unit) (u : UnitAddr) :
    y.unit? u = (x.unit? u).map f := by
  simp only [Bay.unit?, h, List.find?_map, Function.comp_def, hf]

theorem Bay.unit?_unit {x : Bay} {u : UnitAddr} {r : UnitRecord} (h : x.unit? u = some r) :
    r.unit = u := by
  simpa using List.find?_some h

/-! ## A job settled: its units closed and its channel freed (03 R67, R68) -/

/-- The state in which a close that ends the transfer leaves its job to be judged. -/
def State.settled (s : State) (b : BayId) (c : ChannelId) (p : Place) (target : Version)
    (w : UnitAddr → Bool) (l : List UnitAddr) : State :=
  ((s.setBay b ((s.bay b).closeUnits p target w l)).freeChannel b c p).modJob b p fun k =>
    { k with state := .staged }

theorem State.closeGood_eq (s : State) (b : BayId) (c : ChannelId) (p : Place) (j : Job)
    (f : CloseResultFrame) :
    s.closeGood b c p j f = (s.settled b c p j.identity.target (closeShowsWritten f)
      j.pendingUnits).afterClose b p := by
  have step : ∀ (t : State) u, (if closeShowsWritten f u
      then t.stageMember b p u j.identity.target else t.failMember b p u) =
      t.setBay b ((t.bay b).closeUnit p j.identity.target (closeShowsWritten f u) u) := by
    intro t u
    split
    · next h => rw [h, State.stageMember_eq]
    · next h => rw [Bool.eq_false_iff.mpr h, State.failMember_eq]
  rw [State.closeGood, State.foldl_closeUnit step]
  rfl

theorem State.closeFailed_third (s : State) (b : BayId) (c : ChannelId) (p : Place) {j : Job}
    (h : 3 ≤ j.attempts) :
    s.closeFailed b c p j =
      ((s.modJob b p fun k => { k with checkFailed := true }).settled b c p j.identity.target
        (fun _ => false) j.waitingUnits).afterClose b p := by
  have closed := State.foldl_closeUnit (f := fun t u => t.failMember b p u) (w := fun _ => false)
    (fun t u => t.failMember_eq b p u j.identity.target) j.waitingUnits
  rw [State.closeFailed, if_neg (Nat.not_lt.mpr h)]
  dsimp only
  rw [closed]
  rfl

theorem State.closeFailed_retry (s : State) (b : BayId) (c : ChannelId) (p : Place) {j : Job}
    (h : j.attempts < 3) :
    s.closeFailed b c p j = ((s.freeChannel b c p).modJob b p fun k =>
      { k with state := .queued, attempts := k.attempts + 1, cursor := 0, gaps := [],
               deferred := false }).afterClose b p := if_pos h

/-- A job that has been settled. -/
def Job.settled (j : Job) (flights : List Flight) (w : UnitAddr → Bool) (l : List UnitAddr) : Job :=
  { j.freed flights with state := .staged, members := j.members.map (·.closeIn l w) }

/-- Settling a job writes its bay: the job, its channel, and the records of its units. -/
theorem State.settled_writes {s : State} {b : BayId} {x : Bay} {c : ChannelId} {p : Place} {j : Job}
    {ch : Channel} (target : Version) (w : UnitAddr → Bool) {l : List UnitAddr} (hl : l.Nodup)
    (hch : x.channels[c.val]? = some ch) (hj : x.jobs.get p = some j) :
    (s.setBay b (x.closeUnits p target w l)).worksIn ((s.setBay b x).settled b c p target w l) b ∧
      ((s.setBay b x).settled b c p target w l).job b p = some (j.settled ch.inFlight w l) ∧
      ((s.setBay b x).settled b c p target w l).channel b c = some (ch.freed x.creditsPer) := by
  obtain ⟨ctl, channels, -, -⟩ := x.closeUnits_keeps p target w l
  have job := x.closeUnits_job p target w hl
  rw [hj] at job
  obtain ⟨u, hu⟩ : ∃ u, u = s.setBay b (x.closeUnits p target w l) := ⟨_, rfl⟩
  have ubay : u.bay b = x.closeUnits p target w l := by rw [hu, State.setBay_bay]
  obtain ⟨work, freed, channel⟩ := State.freeChannel_writes (s := u) (b := b) (c := c) (p := p)
    (ch := ch) (by rw [State.channel, ubay, channels]; exact hch)
    (by rw [State.job, ubay]; exact job)
  have credits : (u.bay b).creditsPer = x.creditsPer := by
    rw [Bay.creditsPer, ubay, ctl, Bay.creditsPer]
  rw [State.settled, State.setBay_bay, State.setBay_setBay, ← hu]
  refine ⟨work.trans (.setBay ⟨rfl, rfl, fun _ _ _ => rfl⟩ rfl), ?_, ?_⟩
  · rw [State.job] at freed
    simp only [State.modJob_eq, State.modBay_eq, State.job, State.setBay_bay,
      Table.get_modify_self, freed, Option.map_some]
    rfl
  · rw [credits] at channel
    simpa [State.channel] using channel

/-- The record of a unit after work that follows a closing of units. -/
theorem Bay.closeUnits_unit? {x y z : Bay} {p : Place} {target : Version} {w : UnitAddr → Bool}
    {l : List UnitAddr} (hl : l.Nodup) (hx : z.inventory = x.inventory)
    (h : (x.closeUnits p target w l).works y) (u : UnitAddr) :
    y.unit? u = (z.unit? u).map fun r => if u ∈ l then r.closed target p (w u) else r := by
  have inventory := h.inventory
  rw [Bay.closeUnits_inventory _ _ _ _ hl, ← hx] at inventory
  rw [Bay.unit?_map inventory fun r => by split <;> simp only [UnitRecord.closed_unit]]
  cases hr : z.unit? u with
  | none => rfl
  | some r => simp only [Option.map_some, Bay.unit?_unit hr]

theorem Job.mem_pendingUnits {j : Job} {u : UnitAddr} :
    u ∈ j.pendingUnits ↔ ∃ m ∈ j.members, m.unit = u ∧ m.state = .pending := by
  simp [Job.pendingUnits]

theorem Job.mem_waitingUnits {j : Job} {u : UnitAddr} :
    u ∈ j.waitingUnits ↔
      ∃ m ∈ j.members, m.unit = u ∧ (m.state = .pending ∨ m.state = .staged) := by
  simp [Job.waitingUnits]

theorem Job.pendingUnits_nodup (j : Job) : j.pendingUnits.Nodup :=
  (List.nodup_finRange 64).filter _

theorem Job.waitingUnits_nodup (j : Job) : j.waitingUnits.Nodup :=
  (List.nodup_finRange 64).filter _

/-! ## A job that goes on (03 R51, R53) -/

theorem State.look_worksIn (s : State) (b : BayId) : s.worksIn (s.look b) b := by
  rcases s.look_cases b with h | ⟨a, f, h⟩
  · rw [h]; exact .refl s b
  · have e : s.look b = s.setBay b { s.bay b with
        activation := a,
        port := { (s.bay b).port with control := (s.bay b).port.control ++ [f] } } := by
      rw [h]; simp [State.placeControl]
    rw [e]
    exact .setBay ⟨rfl, rfl, fun _ _ _ => rfl⟩ rfl

/-- After a close whose job goes on and does not leave the transfer, channels are assigned and the
activation controller looks. -/
theorem State.afterClose_goesOn {s : State} {b : BayId} {p : Place} {j : Job}
    (hj : s.job b p = some j) (hl : j.live = true) (ht : j.allTerminal = false)
    (hp : j.transferring = false ∨ j.hasPending = true) :
    s.afterClose b p = (s.assign b).look b := by
  have stays : (j.transferring && !j.hasPending) = false := by
    rcases hp with h | h <;> simp [h]
  have out : s.closeOut b p = s := by
    simp [State.closeOut, hj, hl, ht, stays]
  unfold State.afterClose
  dsimp only
  rw [out, hj]
  simp [hl]

/-- What it leaves: work in the bay, and the job as the assignment of channels leaves it; out of
SERVING nothing changes. -/
theorem State.afterClose_goesOn_spec {s : State} {b : BayId} {p : Place} {j : Job}
    (hj : s.job b p = some j) (hl : j.live = true) (ht : j.allTerminal = false)
    (hp : j.transferring = false ∨ j.hasPending = true) :
    s.worksIn (s.afterClose b p) b ∧
      ((s.afterClose b p).job b p = some j ∨ (j.assignable = true ∧ ∃ c tag,
        (s.afterClose b p).job b p = some (j.opened c tag (s.stream j.stream).position))) ∧
      ((s.bay b).ctl.state ≠ .serving → s.afterClose b p = s) := by
  rw [State.afterClose_goesOn hj hl ht hp]
  have jobs : ((s.assign b).look b).job b p = (s.assign b).job b p := by
    rw [State.job, ((s.assign b).look_keeps b b).1, State.job]
  refine ⟨(s.assign_worksIn b).trans (State.look_worksIn _ b), ?_, fun away => ?_⟩
  · rw [jobs]
    exact State.assign_job hj
  · rw [State.assign_away away, State.look_away s b away]

/-! ## A job that ends (03 R51) -/

theorem State.dropEntry_works (s : State) (b : BayId) (e : TxEntry) :
    (s.bay b).works ((s.dropEntry b e).bay b) := by
  obtain ⟨jobs, n, made, counts⟩ := (s.modBay b fun x =>
    { x with txQueue := x.txQueue.filter (· ≠ e) }).makeNeeded_writes b e.place e.offset
  rw [State.dropEntry, State.leaveSlot_bay, State.unqueue, made, State.setBay_bay]
  refine ⟨?_, ?_, fun k hk _ => (counts k hk).trans ?_⟩
  all_goals rw [State.modBay_eq, State.setBay_bay]

/-- Entries dropped from a bay's queue are work in the bay, and of a job change gap ranges alone. -/
theorem State.dropEntries_spec {s : State} {b : BayId} {p : Place} {j : Job}
    (hj : s.job b p = some j) (q : TxEntry → Bool) :
    (s.bay b).works ((s.dropEntries b q).bay b) ∧
      ∃ g, (s.dropEntries b q).job b p = some { j with gaps := g } := by
  refine ⟨foldl_inv (fun t : State => (s.bay b).works (t.bay b)) _
    (fun t e h => h.trans (t.dropEntry_works b e)) _ s (.refl _),
    foldl_inv (fun t : State => ∃ g, t.job b p = some { j with gaps := g }) _
    (fun t e ⟨g, h⟩ => ?_) _ s ⟨j.gaps, hj⟩⟩
  by_cases hp : e.place = p
  · subst hp
    exact ⟨gapsNeeding g e.offset, by rw [State.dropEntry_job, h]; rfl⟩
  · exact ⟨g, by rw [State.dropEntry_job_ne _ _ _ hp, h]⟩

/-- A posting leaves the mask, and lengthens the queue by at most one notice. -/
theorem State.post_notices (s : State) (n : Notice) :
    (s.post n).notices.mask = s.notices.mask ∧
      (s.post n).notices.queue.length ≤ s.notices.queue.length + 1 := by
  unfold State.post
  split
  · split
    · exact ⟨rfl, by simp⟩
    · exact ⟨rfl, Nat.le_succ _⟩
  · exact ⟨rfl, Nat.le_succ _⟩

/-- A notice of an enabled kind is queued where there is room (08 R155, R156). -/
theorem State.mem_post {s : State} {n : Notice} (he : s.notices.mask.getLsbD n.kind.val = true)
    (hl : s.notices.queue.length < 32) :
    ⟨s.clock.seconds, s.clock.valid, n⟩ ∈ (s.post n).notices.queue := by
  have enabled : s.notices.enabled n = true := he
  have room : s.notices.queue.length < Config.noticeSlots := hl
  simp [State.post, enabled, room]

/-- A judgement posts at most one notice (02 R42). -/
theorem State.judgeMoved_notices (s before : State) (l : List BayId) (st : StreamId) :
    (s.judgeMoved before l st).notices.mask = s.notices.mask ∧
      (s.judgeMoved before l st).notices.queue.length ≤ s.notices.queue.length + 1 := by
  have stays : s.notices.mask = s.notices.mask ∧
      s.notices.queue.length ≤ s.notices.queue.length + 1 := ⟨rfl, Nat.le_succ _⟩
  rcases s.judgeMoved_cases before l st with ⟨-, h⟩ | ⟨-, h⟩
  · rw [h]; exact stays
  · rw [h]
    rcases s.judge_cases st with g | g | g | g <;> rw [g]
    · exact stays
    · exact stays
    · rw [State.satisfy, State.arbitrate_notices]
      refine (State.post_notices _ _).imp (·.trans ?_) (·.trans ?_)
      · rw [State.makeDue_notices, State.modStream_notices]
      · rw [State.makeDue_notices, State.modStream_notices]
    · rw [State.unsatisfy_notices]; exact stays

/-- A job that has ended at a time, with gap ranges g. -/
def Job.ended (j : Job) (g : List Gap) (time : Word) : Job :=
  { j with gaps := g, state := j.outcome, endTime := some time,
           members := j.members.map fun m => { m with link := none } }

theorem Job.ended_live (j : Job) (g : List Gap) (time : Word) :
    (j.ended g time).live = false := by
  unfold Job.ended Job.live Job.outcome
  cases j.checkFailed with
  | true => rfl
  | false =>
    simp only [Bool.false_eq_true, if_false]
    split_ifs <;> rfl

/-- A job holding no channel has none to free. -/
theorem State.freeJobChannel_none {s : State} {b : BayId} {p : Place} {j : Job}
    (hj : s.job b p = some j) (hc : j.channel = none) : s.freeJobChannel b p = s := by
  simp [State.freeJobChannel, hj, hc]

/-- The notice of a job's end (08 R155). -/
def Job.endNotice (j : Job) (b : BayId) (vehicle : Option Word) (p : Place) : Notice :=
  .jobEnd b vehicle p j.stream j.outcome j.attempts (j.countIn .done) (j.countIn .reverted)
    (j.countIn .fault) (j.countIn .stageFailed) (j.countIn .cancelled)

/-- What the end of a job in place p, holding no channel, makes of its bay and of the notices. -/
structure State.endsJob (s t : State) (b : BayId) (p : Place) (j : Job) : Prop where
  job : ∃ g, t.job b p = some (j.ended g s.clock.seconds)
  ctl : (t.bay b).ctl = (s.bay b).ctl
  inventory : (t.bay b).inventory =
    (s.bay b).inventory.map fun r => if r.job = some p then { r with job := none } else r
  counts : ∀ k : BayCounter, k ≠ .gapJoins → k ≠ .probesAbandoned →
    (t.bay b).counters.get k.index = (s.bay b).counters.get k.index
  notice : s.notices.mask.getLsbD 3 = true → s.notices.queue.length < 31 →
    ⟨s.clock.seconds, s.clock.valid, j.endNotice b (s.bay b).ctl.vehicle p⟩ ∈ t.notices.queue

/-- The end of a job holds of every later state with the same bay and notices. -/
theorem State.endsJob.later {s t u : State} {b : BayId} {p : Place} {j : Job}
    (h : s.endsJob t b p j) (bay : u.bay b = t.bay b) (notices : u.notices = t.notices) :
    s.endsJob u b p j := by
  obtain ⟨job, ctl, inventory, counts, notice⟩ := h
  constructor
  · rwa [State.job, bay]
  · rwa [bay]
  · rwa [bay]
  · rwa [bay]
  · rwa [notices]

/-- The end of a job holds as well from the state before some work of its bay. -/
theorem State.endsJob.since {s t u : State} {b : BayId} {p : Place} {j : Job}
    (h : u.endsJob t b p j) (work : s.worksIn u b) : s.endsJob t b p j := by
  obtain ⟨job, ctl, inventory, counts, notice⟩ := h
  have clock : u.clock = s.clock := by rw [work.only, State.setBay_clock]
  have notices : u.notices = s.notices := by rw [work.only, State.setBay_notices]
  rw [clock] at job
  rw [clock, notices, work.bay.ctl] at notice
  exact ⟨job, ctl.trans work.bay.ctl, inventory.trans (by rw [work.bay.inventory]),
    fun k h1 h2 => (counts k h1 h2).trans (work.bay.counts k h1 h2), notice⟩

theorem State.endJob_endsJob {s : State} {b : BayId} {p : Place} {j : Job}
    (hj : s.job b p = some j) (hc : j.channel = none) : s.endsJob (s.endJob b p) b p j := by
  obtain ⟨⟨ctl, inventory, counts⟩, g, dropped⟩ := State.dropEntries_spec hj (·.place = p)
  obtain ⟨u, hu⟩ : ∃ u, u = s.dropEntries b (·.place = p) := ⟨_, rfl⟩
  have notices : u.notices = s.notices := by rw [hu, State.dropEntries_notices]
  have clock : u.clock = s.clock := by rw [hu, State.dropEntries_clock]
  rw [← hu] at ctl inventory counts dropped
  generalize hx : ({ u.bay b with
    jobs := (u.bay b).jobs.modify p (Option.map fun k =>
      { k with
        state := k.outcome, endTime := some s.clock.seconds,
        members := k.members.map fun m => { m with link := none } }),
    inventory := (u.bay b).inventory.map fun r =>
      if r.job = some p then { r with job := none } else r,
    endOrder := (u.bay b).endOrder ++ [p] } : Bay) = x
  have ended : s.endJob b p = ((u.setBay b x).judgeMoved s [b] j.stream).post
      (j.endNotice b (s.bay b).ctl.vehicle p) := by
    simp only [State.endJob, hj, ← hu, State.freeJobChannel_none dropped hc]
    simp [State.dropReferences, State.modInventory, ← hx, Job.endNotice]
  have bay : (s.endJob b p).bay b = x := by simp [ended]
  refine ⟨⟨g, ?_⟩, ?_, ?_, fun k h1 h2 => ?_, fun mask room => ?_⟩
  · rw [State.job] at dropped
    rw [State.job, bay, ← hx]
    simp only [Table.get_modify_self, dropped, Option.map_some]
    rfl
  · rw [bay, ← hx, ctl]
  · rw [bay, ← hx, inventory]
  · rw [bay, ← hx]; exact counts k h1 h2
  · obtain ⟨mask', length⟩ := (u.setBay b x).judgeMoved_notices s [b] j.stream
    rw [State.setBay_notices, notices] at mask' length
    have posted := State.mem_post (s := (u.setBay b x).judgeMoved s [b] j.stream)
      (n := j.endNotice b (s.bay b).ctl.vehicle p) (by rw [mask']; exact mask) (by omega)
    rwa [State.judgeMoved_clock, State.setBay_clock, clock, ← ended] at posted

/-- A builder run for every SERVING bay does nothing to a bay that is not. -/
theorem State.buildAll_away {s : State} {b : BayId} (h : (s.bay b).ctl.state ≠ .serving) :
    s.buildAll.bay b = s.bay b := by
  refine s.forBays_inv (fun t => t.bay b = s.bay b) _ (fun a t ht => ?_) rfl
  unfold State.build
  split
  · next serving =>
    have other : a ≠ b := by
      rintro rfl
      exact h (ht ▸ serving)
    rw [(State.look_worksIn _ a).only, State.setBay_bay_ne _ _ other,
      (State.assign_worksIn _ a).only, State.setBay_bay_ne _ _ other, t.passes_bay_ne other, ht]
  · exact ht

theorem State.notices_of_builderFrame {s t : State} (h : t.builderFrame = s.builderFrame) :
    t.notices = s.notices := by
  have keep {α : Type} (g : State → α) : g t.builderFrame = g s.builderFrame := congrArg g h
  exact keep State.notices

/-- Out of SERVING what follows a job's end leaves the bay, and it posts nothing. -/
theorem State.afterEnd_away {s : State} {b : BayId} (h : (s.bay b).ctl.state ≠ .serving) :
    (s.afterEnd b).bay b = s.bay b ∧ (s.afterEnd b).notices = s.notices := by
  have replaced : s.applyReplacements.bay b = s.bay b ∧
      s.applyReplacements.notices = s.notices := by
    obtain ⟨m, -, e⟩ := s.applyReplacements_cases
    generalize ht : ({ s with manifest := m } : State) = t at e
    have bay : t.bay b = s.bay b := by rw [← ht]; rfl
    have notices : t.notices = s.notices := by rw [← ht]
    rcases e with e | e
    · rw [e]; exact ⟨bay, notices⟩
    · rw [e]
      exact ⟨(State.buildAll_away (by rwa [bay])).trans bay,
        (State.notices_of_builderFrame t.buildAll_builderFrame).trans notices⟩
  rw [State.afterEnd, State.assign_away h, State.build, if_neg (by rwa [replaced.1])]
  exact replaced

/-- A close that ends its job, out of SERVING. -/
theorem State.afterClose_ends {s : State} {b : BayId} {p : Place} {j : Job}
    (hj : s.job b p = some j) (hl : j.live = true) (ht : j.allTerminal = true)
    (hc : j.channel = none) (away : (s.bay b).ctl.state ≠ .serving) :
    s.endsJob (s.afterClose b p) b p j := by
  have ends := State.endJob_endsJob hj hc
  have away' : ((s.endJob b p).bay b).ctl.state ≠ .serving := by rwa [ends.ctl]
  obtain ⟨bay, notices⟩ := State.afterEnd_away away'
  have out : s.closeOut b p = s.endJob b p := by simp [State.closeOut, hj, hl, ht]
  obtain ⟨g, job⟩ := ends.job
  have eq : s.afterClose b p = (s.endJob b p).afterEnd b := by
    unfold State.afterClose
    dsimp only
    rw [out, job]
    simp only [Job.ended_live, Bool.not_false, if_true]
    exact State.look_away _ b (by rwa [bay])
  rw [eq]
  exact ends.later bay notices

end Sys2Proof.Machine

namespace Sys2Proof.Machine

/-! SUPPORT and PROOFS. CLOSE RESULTs and the close timer's expiry (03 R51, R67, R68). -/

/-! ## The members of a close (03 R67, R68) -/

theorem UnitState.not_pending_of_terminal {st : UnitState} (h : st.terminal = true) :
    st ≠ .pending := by
  rintro rfl
  cases h

/-- A list that holds the unit of every member not yet terminal closes exactly those members. -/
theorem Member.closeIn_eq {l : List UnitAddr} (w : UnitAddr → Bool) {m : Member}
    (h : m.state.terminal = false → m.unit ∈ l) :
    m.closeIn l w = if m.state.terminal then m else m.closed (w m.unit) := by
  cases ht : m.state.terminal with
  | true => simp [Member.closeIn, ht]
  | false => simp [Member.closeIn, ht, h ht]

/-- A member that waited and has failed its check. -/
def Member.failed (m : Member) : Member :=
  { m with state := if m.state = .pending ∨ m.state = .staged then .stageFailed else m.state }

theorem Member.failed_of_waiting {m : Member} (h : m.state = .pending ∨ m.state = .staged) :
    m.failed = m.closed false := by
  simp [Member.failed, Member.closed, h]

theorem Member.failed_of_terminal {m : Member} (h : m.state.terminal = true) : m.failed = m := by
  have still : ¬ (m.state = .pending ∨ m.state = .staged) := by
    rintro (hs | hs) <;> simp [hs, UnitState.terminal] at h
  simp [Member.failed, still]

theorem Member.failed_terminal {m : Member}
    (h : m.state = .pending ∨ m.state = .staged ∨ m.state.terminal = true) :
    m.failed.state.terminal = true := by
  rcases or_assoc.mpr h with h | h
  · rw [Member.failed_of_waiting h]; rfl
  · rwa [Member.failed_of_terminal h]

theorem Member.failed_count_other (l : List Member) {st : UnitState} (h1 : st ≠ .stageFailed)
    (h2 : st ≠ .pending) (h3 : st ≠ .staged) :
    ((l.map Member.failed).filter (·.state = st)).length = (l.filter (·.state = st)).length := by
  have same : ∀ m : Member, m.failed.state = st ↔ m.state = st := by
    intro m
    unfold Member.failed
    dsimp only
    split_ifs with h
    · rcases h with h | h <;> simp [h, Ne.symm h1, Ne.symm h2, Ne.symm h3]
    · rfl
  simp only [List.filter_map, List.length_map, Function.comp_def, same]

theorem Member.failed_count (l : List Member) :
    ((l.map Member.failed).filter (·.state = .stageFailed)).length =
      (l.filter (·.state = .stageFailed)).length + (l.filter (·.state = .pending)).length +
        (l.filter (·.state = .staged)).length := by
  induction l with
  | nil => rfl
  | cons m l ih =>
    rw [List.map_cons]
    cases h : m.state
    case pending | staged | stageFailed =>
      simp [Member.failed, h] at ih ⊢
      omega
    all_goals simpa [Member.failed, h] using ih

/-- The members that a third failure leaves: those in PENDING and STAGED have failed. -/
theorem Job.closeIn_waiting {j : Job}
    (h : ∀ m ∈ j.members, m.state = .pending ∨ m.state = .staged ∨ m.state.terminal = true) :
    j.members.map (·.closeIn j.waitingUnits fun _ => false) = j.members.map Member.failed := by
  refine List.map_congr_left fun m hm => ?_
  have waits := or_assoc.mpr (h m hm)
  rw [Member.closeIn_eq _ fun ht =>
    Job.mem_waitingUnits.mpr ⟨m, hm, rfl, by simpa [ht] using waits⟩]
  split
  · next ht => rw [Member.failed_of_terminal ht]
  · next ht => rw [Member.failed_of_waiting (waits.resolve_right ht)]

/-- The members that an agreeing CLOSE RESULT leaves: those in PENDING have been staged or have
failed. -/
theorem Job.closeIn_pending {j : Job} (w : UnitAddr → Bool)
    (h : ∀ m ∈ j.members, m.state = .pending ∨ m.state.terminal = true) :
    j.members.map (·.closeIn j.pendingUnits w) = j.members.map fun m =>
      if m.state = .pending then m.closed (w m.unit) else m := by
  refine List.map_congr_left fun m hm => ?_
  rw [Member.closeIn_eq _ fun ht =>
    Job.mem_pendingUnits.mpr ⟨m, hm, rfl, (h m hm).resolve_right (by simp [ht])⟩]
  rcases h m hm with hs | ht
  · simp [hs, UnitState.terminal]
  · simp [ht, UnitState.not_pending_of_terminal ht]

/-- The same where none has been written. -/
theorem Job.closeIn_unwritten {j : Job} {w : UnitAddr → Bool}
    (h : ∀ m ∈ j.members, m.state.terminal = true ∨ (m.state = .pending ∧ w m.unit = false)) :
    j.members.map (·.closeIn j.pendingUnits w) = j.members.map Member.failed := by
  rw [Job.closeIn_pending w fun m hm => (h m hm).symm.imp_left And.left]
  refine List.map_congr_left fun m hm => ?_
  rcases h m hm with ht | ⟨hp, hw⟩
  · rw [if_neg (UnitState.not_pending_of_terminal ht), Member.failed_of_terminal ht]
  · rw [if_pos hp, hw, Member.failed_of_waiting (.inl hp)]

theorem Job.pendingUnits_unwritten {j : Job} {w : UnitAddr → Bool}
    (h : ∀ m ∈ j.members, m.state.terminal = true ∨ (m.state = .pending ∧ w m.unit = false)) :
    ∀ u ∈ j.pendingUnits, w u = false := by
  intro u hu
  obtain ⟨m, hm, rfl, hp⟩ := Job.mem_pendingUnits.mp hu
  rcases h m hm with ht | ⟨-, hw⟩
  · exact absurd hp (UnitState.not_pending_of_terminal ht)
  · exact hw

/-- Members that have failed are all terminal when no other was left to judge. -/
theorem Job.failed_all_terminal {j : Job}
    (h : ∀ m ∈ j.members, m.state = .pending ∨ m.state = .staged ∨ m.state.terminal = true) :
    (j.members.map Member.failed).all (·.state.terminal) = true := by
  rw [List.all_map, List.all_eq_true]
  exact fun m hm => Member.failed_terminal (h m hm)

/-- A channel freed with nothing in flight. -/
theorem Channel.freed_idle {ch : Channel} (h : ch.inFlight = []) (per : Nat) :
    ch.freed per = { ch with
      job := none, credit := per, openTimer := none, openExpired := false,
      closeTimer := none } := by
  rw [Channel.freed, ← h]

/-- A job that has not failed its check ends PARTIAL when a member has failed to be staged. -/
theorem Job.outcome_partialDone {j : Job} (hf : j.checkFailed = false) {m : Member}
    (hm : m ∈ j.members) (hs : m.state = .stageFailed) : j.outcome = .partialDone := by
  have undone : ¬ (j.members.all (·.state = .done)) = true := fun h => by
    simpa [hs] using List.all_eq_true.mp h m hm
  have uncancelled : ¬ (j.members.all (·.state = .cancelled)) = true := fun h => by
    simpa [hs] using List.all_eq_true.mp h m hm
  rw [Job.outcome, if_neg (by simp [hf]), if_neg undone, if_neg uncancelled]

/-- The record of a unit that was not written, once its job has ended. -/
theorem State.endsJob.unit? {s t : State} {b : BayId} {p : Place} {j : Job} {target : Version}
    {u : UnitAddr} {r : UnitRecord} (h : s.endsJob t b p j)
    (hr : (s.bay b).unit? u = some (r.closed target p false)) :
    (t.bay b).unit? u = some { r with
      standby := none, blocked := true, job := if r.job = some p then none else r.job } := by
  rw [Bay.unit?_map h.inventory (fun r => by split <;> rfl), hr]
  by_cases hp : r.job = some p <;> simp [UnitRecord.closed, hp]

/-- A close that settles its job with no unit written ends it, out of SERVING, when no member is
left to judge. -/
theorem State.settled_ends {s : State} {b : BayId} {x : Bay} {c : ChannelId} {p : Place} {j : Job}
    {ch : Channel} (target : Version) {w : UnitAddr → Bool} {l : List UnitAddr} (hl : l.Nodup)
    (hw : ∀ u ∈ l, w u = false) (hctl : x.ctl = (s.bay b).ctl)
    (hinventory : x.inventory = (s.bay b).inventory) (hch : x.channels[c.val]? = some ch)
    (hj : x.jobs.get p = some j)
    (hm : (j.members.map (·.closeIn l w)).all (·.state.terminal) = true)
    (away : (s.bay b).ctl.state ≠ .serving) {t : State}
    (ht : ((s.setBay b x).settled b c p target w l).afterClose b p = t) :
    (s.setBay b (x.closeUnits p target w l)).endsJob t b p (j.settled ch.inFlight w l) ∧
      ∀ u r, (s.bay b).unit? u = some r → u ∈ l → (t.bay b).unit? u = some { r with
        standby := none, blocked := true, job := if r.job = some p then none else r.job } := by
  subst ht
  obtain ⟨work, job, -⟩ := State.settled_writes (s := s) (b := b) (x := x) (c := c) target w hl
    hch hj
  obtain ⟨keptCtl, -, -, -⟩ := x.closeUnits_keeps p target w l
  have units := Bay.closeUnits_unit? hl hinventory.symm (State.setBay_bay .. ▸ work.bay)
  generalize (s.setBay b x).settled b c p target w l = u at *
  have ctl : (u.bay b).ctl = (s.bay b).ctl := by
    rw [work.bay.ctl, State.setBay_bay, keptCtl, hctl]
  have ends := State.afterClose_ends job rfl hm rfl (by rwa [ctl])
  refine ⟨ends.since work, fun v r hr hv => ends.unit? (target := target) ?_⟩
  rw [units, hr, Option.map_some, if_pos hv, hw v hv]

/-! ## CLOSE RESULTs whose check value agrees (03 R67) -/

theorem State.closeResult_agrees {s : State} {b : BayId} {f : CloseResultFrame} {c : ChannelId}
    {p : Place} {j : Job} (hears : s.hears b) (hlen : f.items.length ≤ 64)
    (hans : s.answered b f.channel f.tag = some (c, p, j)) (hst : j.state = .closing)
    (hcheck : f.check = j.identity.check) :
    s.receiveIf b f.fits (fun t => t.takeCloseResult b f) =
      ((s.setBay b ((s.bay b).heard s.config.threshold)).settled b c p j.identity.target
        (closeShowsWritten f) j.pendingUnits).afterClose b p := by
  rw [State.receiveIf_hears _ (by simpa [CloseResultFrame.fits] using hlen) hears]
  simp only [State.takeCloseResult, State.answered_heard, hans, hst, hcheck, if_true]
  exact State.closeGood_eq _ b c p j f

/-- Settles O50: the close settles the job, which then goes on in STAGED where a unit was written
and ends where none was. -/
theorem closeStagesMembers : Obligations.CloseStagesMembers := by
  refine ⟨?staged, ?ends⟩
  case staged =>
    intro s b f c p j ch hears hlen hans hst hcheck hch hflights waits written
    obtain ⟨-, _, hheld, -⟩ := State.answered_iff.mp hans
    obtain ⟨-, -, hj⟩ := State.held?_iff.mp hheld
    obtain ⟨hctl, hinventory, hjobs, hchannels, hqueue⟩ := (s.bay b).noted_heard s.config.threshold
    have agrees := State.closeResult_agrees hears hlen hans hst hcheck
    generalize (s.bay b).heard s.config.threshold = x at *
    obtain ⟨work, job, channel⟩ := State.settled_writes (s := s) (b := b) (x := x) (ch := ch)
      j.identity.target (closeShowsWritten f) j.pendingUnits_nodup (by rwa [hchannels])
      (by rwa [hjobs])
    obtain ⟨keptCtl, -, keptQueue, -⟩ :=
      x.closeUnits_keeps p j.identity.target (closeShowsWritten f) j.pendingUnits
    generalize (s.setBay b x).settled b c p j.identity.target (closeShowsWritten f)
      j.pendingUnits = u at *
    have members := Job.closeIn_pending (closeShowsWritten f) waits
    have goesOn : (j.settled ch.inFlight (closeShowsWritten f) j.pendingUnits).allTerminal =
        false := by
      obtain ⟨m, hm, hp, hw⟩ := written
      change (j.members.map (·.closeIn j.pendingUnits (closeShowsWritten f))).all _ = false
      rw [members]
      refine List.all_eq_false.mpr ⟨_, List.mem_map_of_mem hm, ?_⟩
      simp [hp, hw, Member.closed, UnitState.terminal]
    obtain ⟨after, now, away⟩ := State.afterClose_goesOn_spec job rfl goesOn (.inl rfl)
    have total := work.trans after
    obtain ⟨bays, loads, blocks, uplink⟩ := total.frame
    have units := Bay.closeUnits_unit? j.pendingUnits_nodup hinventory.symm
      (State.setBay_bay .. ▸ total.bay)
    refine ⟨u.afterClose b p, congrArg _ agrees, ?_, fun h => ?_, fun v r hr hv => ?_,
      fun v hv => ?_, ?_, ?_, bays, loads, blocks, uplink⟩
    · rcases now with now | ⟨ok, -⟩
      · rw [now, Job.settled, members, hflights]; rfl
      · simp [Job.assignable, Job.settled] at ok
    · have stays : (u.bay b).ctl.state ≠ .serving := by
        rwa [work.bay.ctl, State.setBay_bay, keptCtl, hctl]
      rw [away stays, channel, Channel.freed_idle hflights, Bay.creditsPer, hctl]
      rfl
    · rw [units, hr, Option.map_some, if_pos hv]
      unfold UnitRecord.closed
      split <;> rfl
    · simp only [units, if_neg hv, Option.map_id']
    · rw [total.bay.ctl, State.setBay_bay, keptCtl, hctl]
    · rw [total.queue, State.setBay_bay, keptQueue, hqueue]
  case ends =>
    intro s b f c p j hears hlen hans hst hfailed hcheck away waits pending
    obtain ⟨-, ch, hheld, -⟩ := State.answered_iff.mp hans
    obtain ⟨hch, -, hj⟩ := State.held?_iff.mp hheld
    obtain ⟨hctl, hinventory, hjobs, hchannels, -⟩ := (s.bay b).noted_heard s.config.threshold
    have agrees := State.closeResult_agrees hears hlen hans hst hcheck
    generalize (s.bay b).heard s.config.threshold = x at *
    have members := Job.closeIn_unwritten waits
    have terminal : (j.members.map (·.closeIn j.pendingUnits (closeShowsWritten f))).all
        (·.state.terminal) = true := by
      rw [members]
      exact Job.failed_all_terminal fun m hm =>
        (waits m hm).elim (.inr ∘ .inr) (.inl ∘ And.left)
    obtain ⟨ends, units⟩ := State.settled_ends (s := s) (x := x) (c := c) (ch := ch)
      j.identity.target j.pendingUnits_nodup (Job.pendingUnits_unwritten waits) hctl hinventory
      (by rwa [hchannels]) (by rwa [hjobs]) terminal away rfl
    generalize ((s.setBay b x).settled b c p j.identity.target (closeShowsWritten f)
      j.pendingUnits).afterClose b p = t at *
    obtain ⟨⟨g, job⟩, ctl, -, -, -⟩ := ends
    refine ⟨t, _, congrArg _ agrees, job, ?_, rfl, rfl, rfl, ?_, units, ctl.trans ?_⟩
    · obtain ⟨m, hm, hp⟩ := pending
      have failed : m.failed ∈ j.members.map (·.closeIn j.pendingUnits (closeShowsWritten f)) :=
        members ▸ List.mem_map_of_mem hm
      exact Job.outcome_partialDone hfailed failed (by rw [Member.failed_of_waiting (.inl hp)]; rfl)
    · change (j.members.map (·.closeIn j.pendingUnits (closeShowsWritten f))).map _ = _
      rw [members, List.map_map]
      refine List.map_congr_left fun m hm => ?_
      rcases waits m hm with ht | ⟨hp, -⟩
      · simp [Member.failed_of_terminal ht, UnitState.not_pending_of_terminal ht]
      · simp [Member.failed, hp]
    · rw [State.setBay_bay, (x.closeUnits_keeps p _ _ _).1, hctl]

end Sys2Proof.Machine

namespace Sys2Proof.Machine

/-! PROOF. A failed close (03 R68). -/

/-- A differing CLOSE RESULT and the close timer's expiry are counted, and the close has failed. -/
theorem exec_closeFailed {s : State} {b : BayId} {c : ChannelId} {p : Place} {j : Job}
    {ch : Channel} {i : Instr} {n : BayCounter} (hheld : s.held? b c = some (p, j, ch))
    (hst : j.state = .closing)
    (hi : (i = .closeTimerExpiry b c ∧ ch.closeTimer.isSome ∧ n = .closeTimeouts) ∨
      (∃ f : CloseResultFrame, i = .closeResult b f ∧ s.hears b ∧ f.items.length ≤ 64 ∧
        f.channel.toNat = c.val ∧ f.tag = ch.tag ∧ f.check ≠ j.identity.check ∧
        n = .checkMismatches)) :
    ∃ x, (s.bay b).noted x ∧ x.counters.get n.index = satInc (s.bayCounter b n) ∧
      n ≠ .gapJoins ∧ n ≠ .probesAbandoned ∧
      exec i s = .next ((s.setBay b x).closeFailed b c p j) := by
  rcases hi with ⟨rfl, timer, rfl⟩ | ⟨f, rfl, hears, hlen, hc, htag, hcheck, rfl⟩
  · obtain ⟨k, hk⟩ := Option.isSome_iff_exists.mp timer
    refine ⟨{ s.bay b with
      counters := (s.bay b).counters.modify BayCounter.closeTimeouts.index satInc },
      ⟨rfl, rfl, rfl, rfl, rfl⟩, Table.get_modify_self .., by decide, by decide,
      congrArg Host.Outcome.next (?_ : s.closeExpiry b c = _)⟩
    simp only [State.closeExpiry, hheld, hk, hst, if_true, State.bump_eq, State.modBay_eq]
  · have hans : s.answered b f.channel f.tag = some (c, p, j) :=
      State.answered_iff.mpr ⟨hc, ch, hheld, htag.symm⟩
    obtain ⟨hctl, hinventory, hjobs, hchannels, hqueue⟩ := (s.bay b).noted_heard s.config.threshold
    have counted : ((s.bay b).heard s.config.threshold).counters.get
        BayCounter.checkMismatches.index = s.bayCounter b .checkMismatches :=
      counters_modify_ne (by decide)
    refine ⟨{ (s.bay b).heard s.config.threshold with
      counters := ((s.bay b).heard s.config.threshold).counters.modify
        BayCounter.checkMismatches.index satInc },
      ⟨hctl, hinventory, hjobs, hchannels, hqueue⟩,
      (Table.get_modify_self ..).trans (congrArg satInc counted), by decide, by decide,
      congrArg Host.Outcome.next (?_ : s.receiveIf b f.fits (fun t => t.takeCloseResult b f) = _)⟩
    rw [State.receiveIf_hears _ (by simpa [CloseResultFrame.fits] using hlen) hears]
    simp only [State.takeCloseResult, State.answered_heard, hans, hst, hcheck, if_true, if_false,
      State.bump_eq, State.modBay_eq, State.setBay_bay, State.setBay_setBay]

/-- A job whose transfer starts again. -/
def Job.retried (j : Job) : Job :=
  { j with state := .queued, channel := none, attempts := j.attempts + 1, cursor := 0, gaps := [],
           deferred := false }

/-- Below the third attempt the transfer starts again: the job is QUEUED, or in SERVING opens at
once; the channel stays free out of SERVING. -/
theorem State.closeFailed_retries {s : State} {b : BayId} {c : ChannelId} {p : Place} {j : Job}
    {ch : Channel} (hch : s.channel b c = some ch) (hj : s.job b p = some j) (ha : j.attempts < 3)
    (hp : j.hasPending = true) :
    s.worksIn (s.closeFailed b c p j) b ∧
      (((s.closeFailed b c p j).job b p = some j.retried ∧
          ((s.bay b).ctl.state ≠ .serving → (s.closeFailed b c p j).channel b c =
            some (ch.freed (s.bay b).creditsPer))) ∨
        ((s.bay b).ctl.state = .serving ∧ ∃ d tag, (s.closeFailed b c p j).job b p =
          some (j.retried.opened d tag (s.stream j.stream).position))) := by
  obtain ⟨work, job, channel⟩ := State.freeChannel_writes hch hj
  rw [State.closeFailed_retry s b c p ha]
  generalize hu : (s.freeChannel b c p).modJob b p (fun k =>
    { k with state := .queued, attempts := k.attempts + 1, cursor := 0, gaps := [],
             deferred := false }) = u
  have requeued : (s.freeChannel b c p).worksIn u b := by
    rw [← hu]
    exact .setBay ⟨rfl, rfl, fun _ _ _ => rfl⟩ rfl
  have ujob : u.job b p = some j.retried := by
    rw [State.job] at job
    rw [← hu]
    simp [State.job, job, Job.freed, Job.retried]
  have uchannel : u.channel b c = some (ch.freed (s.bay b).creditsPer) := by
    rw [State.channel] at channel
    rw [← hu]
    simpa [State.channel] using channel
  have toU := work.trans requeued
  have waits : j.retried.allTerminal = false := by
    obtain ⟨m, hm, hs⟩ := List.any_eq_true.mp hp
    refine List.all_eq_false.mpr ⟨m, hm, ?_⟩
    simp [of_decide_eq_true hs, UnitState.terminal]
  obtain ⟨after, now, away⟩ := State.afterClose_goesOn_spec ujob rfl waits (.inr hp)
  refine ⟨toU.trans after, ?_⟩
  by_cases serving : (s.bay b).ctl.state = .serving
  · rcases now with now | ⟨-, d, tag, now⟩
    · exact .inl ⟨now, fun h => absurd serving h⟩
    · have stream : u.stream j.stream = s.stream j.stream := by
        rw [toU.only, State.stream, State.setBay_streams, State.stream]
      exact .inr ⟨serving, d, tag, now.trans (by rw [← stream]; rfl)⟩
  · have stays := away (by rwa [toU.bay.ctl])
    rw [stays]
    exact .inl ⟨ujob, fun _ => uchannel⟩

/-- A job that has failed its check. -/
def Job.misread (j : Job) : Job := { j with checkFailed := true }

/-- What the third failure leaves of a job. -/
def Job.failed (j : Job) (flights : List Flight) : Job :=
  j.misread.settled flights (fun _ => false) j.waitingUnits

theorem Job.failed_endNotice {j : Job} (flights : List Flight)
    (h : ∀ m ∈ j.members, m.state = .pending ∨ m.state = .staged ∨ m.state.terminal = true)
    (b : BayId) (vehicle : Option Word) (p : Place) :
    (j.failed flights).endNotice b vehicle p = .jobEnd b vehicle p j.stream .failed j.attempts
      (j.countIn .done) (j.countIn .reverted) (j.countIn .fault)
      (j.countIn .stageFailed + j.countIn .pending + j.countIn .staged) (j.countIn .cancelled) := by
  have members : (j.failed flights).members = j.members.map Member.failed := Job.closeIn_waiting h
  have counts : ∀ st, (j.failed flights).countIn st =
      ((j.members.map Member.failed).filter (·.state = st)).length := fun st => by
    rw [Job.countIn, members]
  simp only [Job.endNotice, counts, Member.failed_count, ne_eq, reduceCtorEq, not_false_eq_true,
    Member.failed_count_other]
  rfl

/-- At the third attempt the job has failed its check and ends, out of SERVING, when no other member
is left to judge. -/
theorem State.closeFailed_ends {s : State} {b : BayId} {x : Bay} {c : ChannelId} {p : Place}
    {j : Job} {ch : Channel} (hx : (s.bay b).noted x) (hch : s.channel b c = some ch)
    (hj : s.job b p = some j) (ha : 3 ≤ j.attempts) (away : (s.bay b).ctl.state ≠ .serving)
    (h : ∀ m ∈ j.members, m.state = .pending ∨ m.state = .staged ∨ m.state.terminal = true)
    {t : State} (ht : (s.setBay b x).closeFailed b c p j = t) :
    (∃ y : Bay, y.ctl = (s.bay b).ctl ∧ y.counters = x.counters ∧
      (s.setBay b y).endsJob t b p (j.failed ch.inFlight)) ∧
    ∀ u r, (s.bay b).unit? u = some r → u ∈ j.waitingUnits → (t.bay b).unit? u = some { r with
      standby := none, blocked := true, job := if r.job = some p then none else r.job } := by
  obtain ⟨ctl, inventory, jobs, channels, -⟩ := hx
  rw [State.closeFailed_third _ b c p ha] at ht
  simp only [State.modJob_eq, State.modBay_eq, State.setBay_bay, State.setBay_setBay] at ht
  generalize hy : ({ x with jobs := x.jobs.modify p (Option.map fun k =>
    { k with checkFailed := true }) } : Bay) = y at ht
  have job : y.jobs.get p = some j.misread := by
    rw [← hy]
    simp only [Table.get_modify_self, jobs]
    rw [show (s.bay b).jobs.get p = some j from hj]
    rfl
  obtain ⟨ends, units⟩ := State.settled_ends (s := s) (x := y) (c := c) (ch := ch)
    j.identity.target (w := fun _ => false) j.waitingUnits_nodup (fun _ _ => rfl)
    (by rw [← hy, ctl]) (by rw [← hy, inventory]) (by rw [← hy]; exact channels ▸ hch) job
    (by
      change (j.members.map (·.closeIn j.waitingUnits fun _ => false)).all _ = true
      rw [Job.closeIn_waiting h]
      exact Job.failed_all_terminal h) away ht
  obtain ⟨keptCtl, -, -, keptCounters⟩ :=
    y.closeUnits_keeps p j.identity.target (fun _ => false) j.waitingUnits
  exact ⟨⟨_, by rw [keptCtl, ← hy, ctl], by rw [keptCounters, ← hy], ends⟩, units⟩

/-- Settles O51: a failed close, however it comes, starts the transfer again or ends the job. -/
theorem closeFailureRetries : Obligations.CloseFailureRetries := by
  intro s b c p j ch i n hheld hst hi
  obtain ⟨hch, -, hj⟩ := State.held?_iff.mp hheld
  obtain ⟨x, hx, counted, h1, h2, step⟩ := exec_closeFailed hheld hst hi
  have ⟨hctl, hinventory, hjobs, hchannels, hqueue⟩ := hx
  refine ⟨fun ha hp => ?retries, fun ha away waits => ?ends⟩
  case retries =>
    obtain ⟨work, now⟩ := State.closeFailed_retries (s := s.setBay b x) (b := b) (c := c) (p := p)
      (ch := ch) (by rw [State.channel, State.setBay_bay, hchannels]; exact hch)
      (by rw [State.job, State.setBay_bay, hjobs]; exact hj) ha hp
    generalize (s.setBay b x).closeFailed b c p j = t at *
    obtain ⟨bays, loads, blocks, uplink⟩ := work.frame
    obtain ⟨⟨ctl, inventory, counts⟩, queue⟩ := And.intro work.bay work.queue
    rw [State.setBay_bay] at ctl inventory counts queue now
    have kept : t.bayCounter b n = satInc (s.bayCounter b n) ∧
        (t.bay b).inventory = (s.bay b).inventory ∧ (t.bay b).ctl = (s.bay b).ctl ∧
        (t.bay b).txQueue = (s.bay b).txQueue ∧ s.sameOtherBays t b ∧ s.sameLoads t ∧
        s.sameBlocks t ∧ s.sameUplink t :=
      ⟨(counts n h1 h2).trans counted, inventory.trans hinventory, ctl.trans hctl,
        queue.trans hqueue, bays, loads, blocks, uplink⟩
    rcases now with ⟨job, channel⟩ | ⟨serving, d, tag, job⟩
    · refine ⟨t, _, step, job, rfl, rfl, rfl, rfl, rfl, rfl, rfl, rfl, rfl,
        fun away => ⟨rfl, rfl, rfl, rfl, ?_⟩, fun _ => .inl ⟨rfl, rfl⟩, kept⟩
      rw [channel (by rwa [hctl]), Bay.creditsPer, hctl]
      rfl
    · rw [hctl] at serving
      exact ⟨t, _, step, job, rfl, rfl, rfl, rfl, rfl, rfl, rfl, rfl, rfl,
        fun away => absurd serving away, fun _ => .inr ⟨rfl, by simp [Job.opened], rfl⟩, kept⟩
  case ends =>
    obtain ⟨⟨y, yctl, ycounters, ends⟩, units⟩ := State.closeFailed_ends hx hch hj ha away waits rfl
    generalize (s.setBay b x).closeFailed b c p j = t at *
    obtain ⟨⟨g, job⟩, ctl, -, counts, notice⟩ := ends
    rw [State.setBay_bay] at ctl counts notice
    refine ⟨t, _, step, job, rfl, rfl, rfl, rfl, rfl, ?_, units, ?_, ?_, ctl.trans yctl⟩
    · change (j.members.map (·.closeIn j.waitingUnits fun _ => false)).map _ = _
      rw [Job.closeIn_waiting waits, List.map_map]
      rfl
    · rw [yctl, Job.failed_endNotice _ waits] at notice
      exact notice
    · exact ((counts n h1 h2).trans (by rw [ycounters])).trans counted

end Sys2Proof.Machine

namespace Sys2Proof.Machine

/-! PROOFS. The idle microsecond (04 R76), and LOAD DEPARTURE (04 R78). -/

/-- Settles O2: away from a tick the idle step does not reach the millisecond. -/
theorem idleMicrosecond : Obligations.IdleMicrosecond := by
  intro s hs hp
  have away : ¬ 1000 ≤ s.clock.phase + 1 := Nat.not_le.mpr hp
  simp only [step, hs, State.idle, State.clearLines, if_neg away]
  rfl

/-! ## The lowest cell that meets a test -/

/-- A test that no cell meets finds no place. -/
theorem Table.find_eq_none_iff {n : Nat} {α : Type} {t : Table n α} {p : α → Bool} :
    t.find p = none ↔ ∀ i, p (t.get i) = false := by
  simp [Table.find]

/-- The place found is the lowest whose cell meets the test. -/
theorem Table.find_eq_some_iff {n : Nat} {α : Type} {t : Table n α} {p : α → Bool} {k : Fin n} :
    t.find p = some k ↔ p (t.get k) = true ∧ ∀ i < k, p (t.get i) = false := by
  simp only [Table.find, List.find?_eq_some_iff_getElem, List.getElem_finRange, List.length_finRange,
    Bool.not_eq_true']
  refine and_congr_right fun _ => ⟨?_, fun h => ⟨k.val, k.isLt, rfl, fun i hi => h ⟨i, by omega⟩ hi⟩⟩
  rintro ⟨i, hi, rfl, before⟩ j hj
  exact before j hj

/-- A cell that was the lowest to meet a test, or that is set where none met it, is the lowest
afterwards when it meets the test. -/
theorem Table.find_set {n : Nat} {α : Type} {t : Table n α} {p : α → Bool} {k : Fin n} {a : α}
    (h : t.find p = some k ∨ t.find p = none) (ha : p a = true) :
    (t.set k a).find p = some k := by
  have before : ∀ i < k, p (t.get i) = false := by
    rcases h with h | h
    · exact (Table.find_eq_some_iff.mp h).2
    · exact fun i _ => Table.find_eq_none_iff.mp h i
  refine Table.find_eq_some_iff.mpr ⟨by simpa using ha, fun i hi => ?_⟩
  rw [Table.get_set_ne _ _ (Fin.ne_of_gt hi)]
  exact before i hi

/-! ## The slot of a vehicle (04 R77, R78) -/

section Departures
variable {s : State} {q : QueuedRequest} {rest : List QueuedRequest} {x : Byte} {i k : DepartureId}
  {vehicle pullOut : Word}

theorem State.departureOf_eq_none :
    s.departureOf vehicle = none ↔
      ∀ r e, s.departures.get r = some e → e.vehicle ≠ vehicle := by
  refine Table.find_eq_none_iff.trans (forall_congr' fun r => ?_)
  cases s.departures.get r <;> simp

/-- A vehicle that is given a slot, its own or a vacant one, is found there. -/
theorem State.departureOf_set
    (h : s.departureOf vehicle = some k ∨ s.departureOf vehicle = none) :
    (s.setDeparture k (some ⟨vehicle, pullOut⟩)).departureOf vehicle = some k :=
  Table.find_set h (by simp)

/-- A vehicle that stood in one slot alone is found nowhere once that slot is empty. -/
theorem State.departureOf_emptied
    (only : ∀ r e, s.departures.get r = some e → e.vehicle = vehicle → r = k) :
    (s.setDeparture k none).departureOf vehicle = none := by
  refine State.departureOf_eq_none.mpr fun r e hr hv => ?_
  by_cases hk : k = r
  · subst hk; simp [State.setDeparture] at hr
  · rw [State.setDeparture, Table.get_set_ne _ _ hk] at hr
    exact hk (only r e hr hv).symm

/-! ## The request: R78's cases as equations of the load, then the answer -/

theorem State.loadInto_noVehicle (hv : vehicle = 0) :
    s.loadInto vehicle pullOut = (s, .done) := by
  rw [State.loadInto, if_pos hv]

theorem State.loadInto_absent (hv : vehicle ≠ 0) (hd : s.departureOf vehicle = none)
    (hp : pullOut = 0) : s.loadInto vehicle pullOut = (s, .done) := by
  rw [State.loadInto, if_neg hv, hd]
  exact if_pos hp

theorem State.loadInto_emptied (hv : vehicle ≠ 0) (hd : s.departureOf vehicle = some k)
    (hp : pullOut = 0) : s.loadInto vehicle pullOut = (s.setDeparture k none, .done) := by
  rw [State.loadInto, if_neg hv, hd]
  exact if_pos hp

theorem State.loadInto_held (hv : vehicle ≠ 0) (hd : s.departureOf vehicle = some k)
    (hp : pullOut ≠ 0) :
    s.loadInto vehicle pullOut = (s.setDeparture k (some ⟨vehicle, pullOut⟩), .done) := by
  rw [State.loadInto, if_neg hv, hd]
  exact if_neg hp

theorem State.loadInto_full (hv : vehicle ≠ 0) (hd : s.departureOf vehicle = none)
    (hp : pullOut ≠ 0) (hf : s.departures.find Option.isNone = none) :
    s.loadInto vehicle pullOut = (s, .conflict) := by
  rw [State.loadInto, if_neg hv, hd, hf]
  exact if_neg hp

theorem State.loadInto_vacant (hv : vehicle ≠ 0) (hd : s.departureOf vehicle = none)
    (hp : pullOut ≠ 0) (hf : s.departures.find Option.isNone = some k) :
    s.loadInto vehicle pullOut = (s.setDeparture k (some ⟨vehicle, pullOut⟩), .done) := by
  rw [State.loadInto, if_neg hv, hd, hf]
  exact if_neg hp

/-- The slot that an answer to LOAD DEPARTURE names for a vehicle; 0 is no vehicle. -/
def State.answeredSlot (s : State) (vehicle : Word) : Option DepartureId :=
  if vehicle = 0 then none else s.departureOf vehicle

/-- A served LOAD DEPARTURE of a slot that exists, by the table and the code that its case gives and
the slot in which the vehicle then stands. -/
theorem State.execute_loadDeparture {d : Table 64 (Option Departure)} {code : Code}
    {slot : Option DepartureId} (hs : s.serves q rest)
    (hq : q.request = .loadDeparture x vehicle pullOut) (hx : x.toNat = i.val)
    (hload : (s.taken rest).loadInto vehicle pullOut =
      ({ s.taken rest with departures := d }, code))
    (hslot : State.answeredSlot { s with departures := d } vehicle = slot) (hc : code ≠ .malformed) :
    exec .loadDeparture s = .next (({ s.taken rest with departures := d } : State).replied q code
      (optionalField u8 0 (slot.map Fin.val) ++ departureField (d.get i))) := by
  have answer : handleLoadDeparture (s.taken rest) q.request =
      some ⟨{ s.taken rest with departures := d }, code,
        optionalField u8 0 (slot.map Fin.val) ++ departureField (d.get i)⟩ := by
    rw [hq, ← hslot]
    simp only [handleLoadDeparture, State.loadDeparture, idx_eq_some hx, hload]
    rfl
  have run := State.execute_serves s q rest handleLoadDeparture _ hs answer rfl
  rw [if_neg hc] at run
  exact congrArg _ run

end Departures

/-- Settles O20: each case of R78 gives the table, the code and the slot in which the vehicle then
stands. -/
theorem departureLoaded : Obligations.DepartureLoaded := by
  refine ⟨fun s q rest x i vehicle pullOut hs hq hx => ⟨fun d code slot h => ?cases, ?empties⟩,
    fun s q rest x vehicle pullOut hs hq hx => ?noSuch⟩
  case cases =>
    obtain ⟨hv, rfl, rfl, rfl⟩ | ⟨hv, hd, hp, rfl, rfl, rfl⟩ | ⟨k, hv, hd, hp, rfl, rfl, rfl⟩ |
      ⟨hv, hd, hp, hf, rfl, rfl, rfl⟩ | ⟨k, hv, hd, hp, hf, rfl, rfl, rfl⟩ := h
    · exact State.execute_loadDeparture hs hq hx (State.loadInto_noVehicle hv) (if_pos hv) nofun
    · exact State.execute_loadDeparture hs hq hx (State.loadInto_absent hv hd hp)
        ((if_neg hv).trans hd) nofun
    · exact State.execute_loadDeparture hs hq hx (State.loadInto_held hv hd hp)
        ((if_neg hv).trans (State.departureOf_set (.inl hd))) nofun
    · exact State.execute_loadDeparture hs hq hx (State.loadInto_full hv hd hp hf)
        ((if_neg hv).trans hd) nofun
    · exact State.execute_loadDeparture hs hq hx (State.loadInto_vacant hv hd hp hf)
        ((if_neg hv).trans (State.departureOf_set (.inr hd))) nofun
  case empties =>
    exact fun k hv hd hp only => State.execute_loadDeparture hs hq hx
      (State.loadInto_emptied hv hd hp) ((if_neg hv).trans (State.departureOf_emptied only)) nofun
  case noSuch =>
    refine congrArg _ (State.execute_refused hs ?_ (by decide))
    rw [hq]
    simp only [handleLoadDeparture, State.loadDeparture, idx_eq_none hx]

end Sys2Proof.Machine

namespace Sys2Proof.Machine

/-! SUPPORT. What a recomputation of urgency does to the bays and the notice queue (04 R84 to R86). -/

/-! ## Notices posted beside other work -/

/-- Notices posted one after another. -/
def State.posts (s : State) (l : List Notice) : State := l.foldl State.post s

/-- A notice is posted alike before and after a bay is set. -/
theorem State.post_setBay (s : State) (b : BayId) (x : Bay) (n : Notice) :
    (s.setBay b x).post n = (s.post n).setBay b x := by
  unfold State.post
  rw [apply_ite (State.setBay · b x), apply_ite (State.setBay · b x)]
  rfl

theorem State.posts_setBay (s : State) (b : BayId) (x : Bay) (l : List Notice) :
    (s.setBay b x).posts l = (s.posts l).setBay b x := by
  induction l generalizing s with
  | nil => rfl
  | cons n l ih => exact (congrArg (State.posts · l) (s.post_setBay b x n)).trans (ih _)

/-! ## One bay recomputed -/

/-- What a recomputation at the clock of a state reads of it. -/
structure State.sameReadings (s t : State) (b : BayId) : Prop where
  bay : t.bay b = s.bay b
  clock : t.clock = s.clock
  config : t.config = s.config
  departures : t.departures = s.departures

/-- A bay with its deadline figures recomputed and the entry into urgency 3 counted (04 R85, R86). -/
def State.refigured (s : State) (b : BayId) : Bay :=
  { s.bay b with
    deadline := s.deadlineNow b,
    counters := if (s.lateNow b).isSome
      then (s.bay b).counters.modify BayCounter.lateEntries.index satInc else (s.bay b).counters }

section Recompute
variable {s t : State} {b : BayId}

theorem State.sameReadings.deadlineNow (h : s.sameReadings t b) :
    t.deadlineNow b = s.deadlineNow b := by
  simp only [State.deadlineNow, State.pullOut, h.bay, h.clock, h.config, h.departures]

theorem State.sameReadings.lateNow (h : s.sameReadings t b) : t.lateNow b = s.lateNow b := by
  simp only [State.lateNow, h.deadlineNow, State.pullOut, h.bay, h.clock, h.departures]

theorem State.sameReadings.refigured (h : s.sameReadings t b) : t.refigured b = s.refigured b := by
  simp only [State.refigured, h.deadlineNow, h.lateNow, h.bay]

end Recompute

section Cases
variable {s : State} {b : BayId} {p : Word}

/-- The figures of a bay without a deadline to meet: no valid clock, no pull-out time, or no work left
(04 R85). -/
theorem State.deadlineNow_quiet
    (h : s.clock.valid = false ∨ s.pullOut (s.bay b).ctl.vehicle = none ∨
      (s.bay b).remainingWork = 0) :
    s.deadlineNow b = { (s.bay b).deadline with
      urgency := 0, remaining := (s.bay b).remainingWork,
      estimate := serviceSeconds (s.bay b).remainingWork (s.bay b).deadline.serviceTime,
      slack := none } := by
  unfold State.deadlineNow
  dsimp only
  split
  · next hv hp =>
    have work : (s.bay b).remainingWork = 0 := by simpa [hv, hp] using h
    rw [if_pos work, work]
    rfl
  · rfl

/-- The figures of a bay with work before a known pull-out (04 R85). -/
theorem State.deadlineNow_pressed (hv : s.clock.valid = true)
    (hp : s.pullOut (s.bay b).ctl.vehicle = some p) (hw : (s.bay b).remainingWork ≠ 0) :
    s.deadlineNow b =
      let estimate := serviceSeconds (s.bay b).remainingWork (s.bay b).deadline.serviceTime
      let slack := slackOf p.toNat s.clock.seconds.toNat estimate s.config.guardTime
      { (s.bay b).deadline with
        urgency := urgencyOf slack s.config.th1 s.config.th2,
        remaining := (s.bay b).remainingWork, estimate := estimate, slack := some slack } := by
  simp only [State.deadlineNow, hv, hp, if_neg hw]
  rfl

/-- A recomputation that has no deadline to judge only stores the figures. -/
theorem State.recompute_quiet
    (h : s.clock.valid = false ∨ s.pullOut (s.bay b).ctl.vehicle = none ∨
      (s.bay b).remainingWork = 0) :
    s.recompute b = s.modDeadline b fun _ => s.deadlineNow b := by
  rw [State.deadlineNow_quiet h]
  unfold State.recompute
  dsimp only
  split
  · rfl
  · next hv =>
    rw [Bool.not_eq_true', Bool.not_eq_false] at hv
    split
    · rfl
    · next hp => rw [if_pos (by simpa [hv, hp] using h)]; rfl

/-- A recomputation that has a deadline to judge stores the figures and looks for an entry into
urgency 3. -/
theorem State.recompute_pressed (hv : s.clock.valid = true)
    (hp : s.pullOut (s.bay b).ctl.vehicle = some p) (hw : (s.bay b).remainingWork ≠ 0) :
    s.recompute b = (s.modDeadline b fun _ => s.deadlineNow b).enterLate b
      (s.bay b).deadline.urgency p := by
  rw [State.deadlineNow_pressed hv hp hw]
  simp only [State.recompute, hv, hp, if_neg hw]
  rfl

/-- No slack, no LATE. -/
theorem State.lateNow_quiet (h : (s.deadlineNow b).slack = none) : s.lateNow b = none := by
  simp only [State.lateNow, h]

/-- The look for an entry into urgency 3 after the figures have been stored (04 R86). -/
theorem State.enterLate_eq (hp : s.pullOut (s.bay b).ctl.vehicle = some p) :
    (s.modDeadline b fun _ => s.deadlineNow b).enterLate b (s.bay b).deadline.urgency p =
      (s.posts (s.lateNow b).toList).setBay b (s.refigured b) := by
  cases hs : (s.deadlineNow b).slack with
  | none =>
    simp [State.enterLate, State.refigured, State.lateNow_quiet hs, hs, State.posts]
  | some slack =>
    by_cases h : (s.deadlineNow b).urgency = 3 ∧ (s.bay b).deadline.urgency ≠ 3
    · have late : s.lateNow b = some (.late b (s.bay b).ctl.vehicle p s.clock.seconds
          (s.deadlineNow b).remaining (s.deadlineNow b).estimate slack) := by
        simp only [State.lateNow, hs, hp, if_pos h]
      simp [State.enterLate, State.refigured, late, hs, h, State.posts, State.post_setBay]
    · have late : s.lateNow b = none := by simp only [State.lateNow, hs, hp, if_neg h]
      simp only [State.enterLate, State.modDeadline_eq, State.modBay_eq, State.setBay_bay, hs,
        if_neg h, State.refigured, late]
      rfl

end Cases

/-- A recomputation posts the bay's LATE, where it enters urgency 3, and leaves the bay refigured. -/
theorem State.recompute_eq (s : State) (b : BayId) :
    s.recompute b = (s.posts (s.lateNow b).toList).setBay b (s.refigured b) := by
  by_cases h : s.clock.valid = false ∨ s.pullOut (s.bay b).ctl.vehicle = none ∨
      (s.bay b).remainingWork = 0
  · have late : s.lateNow b = none :=
      State.lateNow_quiet (by rw [State.deadlineNow_quiet h])
    rw [State.recompute_quiet h, State.refigured, late]
    rfl
  · simp only [not_or, Bool.not_eq_false, ← ne_eq, Option.ne_none_iff_exists'] at h
    obtain ⟨hv, ⟨p, hp⟩, hw⟩ := h
    rw [State.recompute_pressed hv hp hw, State.enterLate_eq hp]

/-! ## Every bay recomputed -/

theorem State.posts_keeps {β : Type} (g : State → β) (h : ∀ s n, g (State.post s n) = g s) (s : State)
    (l : List Notice) : g (s.posts l) = g s :=
  foldl_keeps g State.post h l s

theorem State.posts_append (s : State) (l m : List Notice) : s.posts (l ++ m) = (s.posts l).posts m :=
  List.foldl_append ..

/-- A walk that puts a bay of its own in each place. -/
theorem State.forBays_setBay (s : State) (x : BayId → Bay) (a : BayId) :
    (s.forBays fun b t => t.setBay b (x b)).bay a = x a := by
  have walk : ∀ (l : List BayId) (t : State),
      (l.foldl (fun t b => t.setBay b (x b)) t).bay a = if a ∈ l then x a else t.bay a := by
    intro l
    induction l with
    | nil => simp
    | cons b l ih =>
      intro t
      rw [List.foldl_cons, ih]
      by_cases e : b = a
      · subst e; simp
      · simp [State.setBay_bay_ne _ _ e, Ne.symm e]
  exact (walk allBays s).trans (if_pos (List.mem_finRange a))

/-- The recomputation of one bay leaves what that of another reads. -/
theorem State.sameReadings.recompute {s t : State} {a b : BayId} (h : s.sameReadings t a)
    (e : b ≠ a) : s.sameReadings (t.recompute b) a := by
  rw [t.recompute_eq b]
  exact {
    bay := by
      rw [State.setBay_bay_ne _ _ e]
      exact (State.posts_keeps (·.bay a) (fun t n => t.post_bay n a) ..).trans h.bay
    clock := (State.posts_keeps (·.clock) State.post_clock ..).trans h.clock
    config := (State.posts_keeps (·.config) State.post_config ..).trans h.config
    departures := (State.posts_keeps (·.departures) State.post_departures ..).trans h.departures }

/-- Every bay's recomputation reads the state before any of them: the LATE notices come in ascending
bay, and every bay is left refigured (04 R85, R86, log 8). -/
theorem State.recomputeAll_eq (s : State) :
    (s.forBays fun b t => t.recompute b) =
      (s.posts (allBays.filterMap s.lateNow)).forBays fun b t => t.setBay b (s.refigured b) := by
  have walk : ∀ (l : List BayId) (t : State), l.Nodup → (∀ b ∈ l, s.sameReadings t b) →
      l.foldl State.recompute t = l.foldl (fun t b => t.setBay b (s.refigured b))
        (t.posts (l.filterMap s.lateNow)) := by
    intro l
    induction l with
    | nil => exact fun _ _ _ => rfl
    | cons b l ih =>
      intro t hl ht
      obtain ⟨hb, hl⟩ := List.nodup_cons.mp hl
      have here := ht b List.mem_cons_self
      have later : ∀ a ∈ l, s.sameReadings (t.recompute b) a := fun a ha =>
        (ht a (List.mem_cons_of_mem b ha)).recompute fun e => hb (e ▸ ha)
      have lates : (b :: l).filterMap s.lateNow =
          (s.lateNow b).toList ++ l.filterMap s.lateNow := by
        rw [List.filterMap_cons]
        cases s.lateNow b <;> rfl
      rw [List.foldl_cons, List.foldl_cons, ih _ hl later, t.recompute_eq b, here.lateNow,
        here.refigured, State.posts_setBay, lates, State.posts_append]
  exact walk allBays s (List.nodup_finRange 16) fun b _ => ⟨rfl, rfl, rfl, rfl⟩

end Sys2Proof.Machine

namespace Sys2Proof.Machine

/-! SUPPORT and PROOF. Second events and SET CLOCK (04 R74, R75, 07 R142). -/

/-! ## The frame of a second event -/

/-- What a second event cannot change: all but the bays, the resume records, the notices and the
counters. -/
def State.secondFrame (s : State) : State := { s.builderFrame with notices := State.reset.notices }

theorem State.fields_of_secondFrame {s t : State} (h : t.secondFrame = s.secondFrame) :
    t.clock = s.clock ∧ s.sameLoads t ∧ s.sameUplink t ∧ t.streams = s.streams ∧
      t.pool = s.pool := by
  have keep {α : Type} (g : State → α) : g t.secondFrame = g s.secondFrame := congrArg g h
  exact ⟨keep State.clock, ⟨keep State.config, keep State.manifest, keep State.departures,
    keep State.straps, keep State.strapReads, keep State.resetCause, keep State.resetHeld⟩,
    ⟨keep State.uplink, keep State.mgmt, keep State.due⟩, keep State.streams, keep State.pool⟩

theorem State.secondFrame_of_builderFrame {s t : State} (h : t.builderFrame = s.builderFrame) :
    t.secondFrame = s.secondFrame := by
  simp only [State.secondFrame, h]

theorem State.post_secondFrame (s : State) (n : Notice) : (s.post n).secondFrame = s.secondFrame := by
  unfold State.post
  split
  · split <;> rfl
  · rfl

/-! ## Resume records that reach the hold time (07 R142) -/

/-- A resume record that has not reached the hold time at the clock of a state. -/
def State.keepsRecord (s : State) (r : ResumeRecord) : Bool :=
  decide (s.recordAge r < 60 * s.config.resumeHold)

/-- One record place checked. -/
def State.expireAt (s : State) (p : ResumeId) : State :=
  match s.resume.places.get p with
  | none => s
  | some r =>
    if 60 * s.config.resumeHold ≤ s.recordAge r then
      ({ s with resume := s.resume.remove p }).count .resumeExpired
    else s

theorem State.expireRecords_eq (s : State) :
    s.expireRecords = allResumePlaces.foldl State.expireAt s := rfl

/-- What a check can do: nothing, or remove the record and count it. -/
theorem State.expireAt_cases (s : State) (p : ResumeId) :
    s.expireAt p = s ∨
      s.expireAt p = ({ s with resume := s.resume.remove p }).count .resumeExpired := by
  unfold State.expireAt
  split
  · exact .inl rfl
  · split
    · exact .inr rfl
    · exact .inl rfl

@[simp] theorem State.expireAt_builderFrame (s : State) (p : ResumeId) :
    (s.expireAt p).builderFrame = s.builderFrame := by
  obtain h | h := s.expireAt_cases p
  · rw [h]
  · rw [h]; rfl

@[simp] theorem State.expireAt_bays (s : State) (p : ResumeId) :
    (s.expireAt p).bays = s.bays := by
  obtain h | h := s.expireAt_cases p
  · rw [h]
  · rw [h]; rfl

/-- The place checked keeps its record if the record is young enough. -/
theorem State.expireAt_record (s : State) (p : ResumeId) :
    (s.expireAt p).resume.places.get p = (s.resume.places.get p).filter s.keepsRecord := by
  unfold State.expireAt
  split
  · next h => simp [h]
  · next r h =>
    split
    · next old =>
      simp [State.count, ResumeTable.remove, h, State.keepsRecord, Option.filter_some, old]
    · next young => simp [h, State.keepsRecord, Option.filter_some, Nat.not_le.mp young]

theorem State.expireAt_record_ne (s : State) {p a : ResumeId} (e : p ≠ a) :
    (s.expireAt p).resume.places.get a = s.resume.places.get a := by
  obtain h | h := s.expireAt_cases p <;> rw [h]
  simp [State.count, ResumeTable.remove, e]

theorem State.keepsRecord_of_secondFrame {s t : State} (h : t.secondFrame = s.secondFrame) :
    t.keepsRecord = s.keepsRecord := by
  have keep {α : Type} (g : State → α) : g t.secondFrame = g s.secondFrame := congrArg g h
  exact keep State.keepsRecord

theorem State.expireRecords_builderFrame (s : State) :
    s.expireRecords.builderFrame = s.builderFrame :=
  foldl_keeps State.builderFrame State.expireAt State.expireAt_builderFrame allResumePlaces s

theorem State.expireRecords_bay (s : State) (b : BayId) : s.expireRecords.bay b = s.bay b :=
  foldl_keeps (·.bay b) State.expireAt (fun s p => by simp [State.bay]) allResumePlaces s

theorem State.expireRecords_record (s : State) (a : ResumeId) :
    s.expireRecords.resume.places.get a = (s.resume.places.get a).filter s.keepsRecord := by
  have walk : ∀ (l : List ResumeId) (t : State), l.Nodup →
      (l.foldl State.expireAt t).resume.places.get a =
        if a ∈ l then (t.resume.places.get a).filter t.keepsRecord
        else t.resume.places.get a := by
    intro l
    induction l with
    | nil => simp
    | cons p l ih =>
      intro t hl
      obtain ⟨hp, hl⟩ := List.nodup_cons.mp hl
      have kept : (t.expireAt p).keepsRecord = t.keepsRecord :=
        State.keepsRecord_of_secondFrame
          (State.secondFrame_of_builderFrame (t.expireAt_builderFrame p))
      rw [List.foldl_cons, ih _ hl, kept]
      by_cases e : p = a
      · subst e; simp [hp, t.expireAt_record]
      · simp [t.expireAt_record_ne e, Ne.symm e]
  rw [State.expireRecords_eq, allResumePlaces, walk _ s (List.nodup_finRange 32),
    if_pos (List.mem_finRange a)]

/-! ## The looks of the activation controllers (05 R91) -/

/-- A bay but for its activation controller and its port, where a look selects a unit and places its
ACTIVATE. -/
def Bay.unlooked (x : Bay) : Bay := { x with activation := .idle, port := Port.initial }

theorem State.look_unlooked (s : State) (b a : BayId) :
    ((s.look b).bay a).unlooked = (s.bay a).unlooked := by
  obtain h | ⟨y, f, h⟩ := s.look_cases b
  · rw [h]
  · by_cases e : b = a
    · subst e; simp [h, State.placeControl, Bay.unlooked]
    · simp [h, State.placeControl, State.setBay_bay_ne _ _ e]

theorem State.lookAll_unlooked (s : State) (a : BayId) :
    (s.lookAll.bay a).unlooked = (s.bay a).unlooked :=
  State.forBays_keeps (fun t => (t.bay a).unlooked) _ s fun b t => t.look_unlooked b a

theorem State.lookAll_resume (s : State) : s.lookAll.resume = s.resume :=
  State.forBays_keeps (·.resume) _ s fun b t => by rw [(t.look_worksIn b).only]; rfl

/-! ## A second event (04 R74) -/

/-- What a second event causes at the clock of a state (04 R74, R85, R86, 07 R142). -/
structure State.secondsTo (s t : State) : Prop where
  bays : ∀ b, (t.bay b).unlooked = (s.refigured b).unlooked
  notices : t.notices = (s.posts (allBays.filterMap s.lateNow)).notices
  records : ∀ p, t.resume.places.get p = (s.resume.places.get p).filter s.keepsRecord
  frame : t.secondFrame = s.secondFrame

/-- Out of reset a second event recomputes, expires and looks, in this order; neither of the later two
touches the figures or the notices. -/
theorem State.secondEvent_secondsTo (s : State) (h : s.resetHeld = false) :
    s.secondsTo s.secondEvent := by
  have event : s.secondEvent = (s.forBays fun b t => t.recompute b).expireRecords.lookAll := by
    simp [State.secondEvent, h]
  have recomputed := s.recomputeAll_eq
  rw [event]
  generalize (s.forBays fun b t => t.recompute b) = u at recomputed ⊢
  have figured : ∀ {β : Type} (g : State → β), (∀ t b x, g (State.setBay t b x) = g t) →
      g u = g (s.posts (allBays.filterMap s.lateNow)) := fun g hg => by
    rw [recomputed]
    exact State.forBays_keeps g _ _ fun b t => hg t b _
  have later : u.expireRecords.lookAll.builderFrame = u.builderFrame :=
    (State.lookAll_builderFrame _).trans u.expireRecords_builderFrame
  have frame : u.secondFrame = s.secondFrame :=
    (figured State.secondFrame fun _ _ _ => rfl).trans
      (State.posts_keeps State.secondFrame State.post_secondFrame ..)
  have resume : u.resume = s.resume :=
    (figured State.resume fun _ _ _ => rfl).trans
      (State.posts_keeps State.resume State.post_resume ..)
  have records : u.keepsRecord = s.keepsRecord := State.keepsRecord_of_secondFrame frame
  exact {
    bays := fun b => by
      rw [State.lookAll_unlooked, State.expireRecords_bay, recomputed, State.forBays_setBay]
    notices := (State.notices_of_builderFrame later).trans (figured State.notices fun _ _ _ => rfl)
    records := fun p => by
      rw [State.lookAll_resume, State.expireRecords_record, resume, records]
    frame := (State.secondFrame_of_builderFrame later).trans frame }

/-! ## The statement's reading of a second event -/

/-- The queue of notices after some are posted depends on the queue and the clock before alone. -/
theorem State.posts_notices {s t : State} (hn : t.notices = s.notices) (hc : t.clock = s.clock)
    (l : List Notice) : (t.posts l).notices = (s.posts l).notices := by
  have post : ∀ {s t : State} (n : Notice), t.notices = s.notices → t.clock = s.clock →
      (t.post n).notices = (s.post n).notices := by
    intro s t n hn hc
    simp only [State.post, apply_ite State.notices, State.count, hn, hc]
  induction l generalizing s t with
  | nil => exact hn
  | cons n l ih => exact ih (post n hn hc) (by rw [State.post_clock, State.post_clock, hc])

/-- What a second event leaves, told of the state before its clock was set and the management unit's
queue was moved on. -/
theorem State.secondsTo.outcome {s u : State} {c : Clock} {m : Mgmt}
    (h : ({ s with clock := c, mgmt := m } : State).secondsTo u) :
    u.clock = c ∧
      (∀ b, (u.bay b).deadline = State.deadlineNow { s with clock := u.clock } b) ∧
      (∀ b, u.bayCounter b .lateEntries =
        if (State.lateNow { s with clock := u.clock } b).isSome
        then satInc (s.bayCounter b .lateEntries) else s.bayCounter b .lateEntries) ∧
      u.notices = ((allBays.filterMap (State.lateNow { s with clock := u.clock })).foldl
        State.post { s with clock := u.clock }).notices ∧
      (∀ p, u.resume.places.get p = (s.resume.places.get p).filter fun r =>
        decide ((u.clock.seconds - r.created).toNat < 60 * s.config.resumeHold)) ∧
      (∀ b, (u.bay b).jobs = (s.bay b).jobs ∧ (u.bay b).inventory = (s.bay b).inventory ∧
        (u.bay b).ctl = (s.bay b).ctl ∧ (u.bay b).channels = (s.bay b).channels ∧
        (u.bay b).txQueue = (s.bay b).txQueue) ∧
      s.sameLoads u ∧ (u.uplink = s.uplink ∧ u.mgmt = m ∧ u.due = s.due) ∧
      u.streams = s.streams ∧ u.pool = s.pool := by
  obtain ⟨clock, loads, uplink, streams, pool⟩ := State.fields_of_secondFrame h.frame
  obtain rfl : u.clock = c := clock
  have bay {α : Type} (g : Bay → α) (b : BayId) :
      g (u.bay b).unlooked = g (State.refigured { s with clock := u.clock } b).unlooked :=
    congrArg g (h.bays b)
  refine ⟨rfl, bay Bay.deadline, fun b => ?_, h.notices.trans (State.posts_notices
      (s := { s with clock := u.clock }) (t := { s with clock := u.clock, mgmt := m }) rfl rfl _),
    h.records, fun b => ⟨bay Bay.jobs b, bay Bay.inventory b, bay Bay.ctl b, bay Bay.channels b,
      bay Bay.txQueue b⟩, loads, uplink, streams, pool⟩
  have counted : (u.bay b).counters =
      (State.refigured { s with clock := u.clock } b).counters := bay Bay.counters b
  rw [State.bayCounter, counted, State.refigured]
  split <;> simp [State.bayCounter, State.bay]

/-- Settles O24: both events store their clock and then cause the same. -/
theorem secondEventRecomputes : Obligations.SecondEventRecomputes := by
  refine ⟨fun s h => ⟨s.rollSecond, rfl, ?subCount⟩, fun s h => ?held,
    fun s q rest seconds sub hs hq => ?set⟩
  case subCount =>
    have event : ({ s with
        clock := { s.clock with sub := 0, seconds := s.clock.seconds + 1 },
        mgmt := s.mgmt } : State).secondsTo s.rollSecond := State.secondEvent_secondsTo _ h
    exact event.outcome
  case held => exact congrArg Host.Outcome.next (if_pos h)
  case set =>
    obtain ⟨free, -, -, -⟩ := id hs
    have event := State.secondEvent_secondsTo { s with
      clock := { s.clock with seconds := seconds, sub := min 999 sub.toNat, valid := true },
      mgmt := { s.mgmt with queue := rest } } free
    obtain ⟨clock, figures, counts, notices, records, bays, loads, ⟨uplink, mgmt, -⟩, streams,
      pool⟩ := event.outcome
    exact ⟨_, congrArg Host.Outcome.next (State.execute_done hs (by rw [hq]; rfl) uplink), clock,
      figures, counts, notices, records, bays, loads, uplink, congrArg Mgmt.queue mgmt, streams,
      pool⟩

end Sys2Proof.Machine

namespace Sys2Proof.Machine

/-! PROOFS. The frames of the activation controller sent, and reports outside any activation
(05 R93, R96, R98, 06 R124). -/

/-! ## REVERT and INVENTORY REQUEST sent (05 R96, 06 R124) -/

/-- Settles O57: each frame is the transmitter's choice; a REVERT's sending starts the timer of the
activation, and the other writes the port and one counter. -/
theorem revertAndRequestSent : Obligations.RevertAndRequestSent := by
  refine fun s b rest ht hq => ⟨fun u v t previous timer hc ha => ?revert, fun own hc => ?request⟩
  case revert =>
    refine congrArg _ (show s.sendRevert b = _ from ?_)
    rw [State.sendRevert, Bay.txChoice_control ht hq hc, ha]
    simp [State.controlSent, State.popControl, State.onLine, State.activationTimer,
      State.startTimer, hc]
  case request =>
    refine congrArg _ (show s.sendInventoryRequest b = _ from ?_)
    rw [State.sendInventoryRequest, Bay.txChoice_control ht hq hc]
    simp [State.controlSent, State.popControl, State.onLine, hc]

/-! ## ACTIVATE judged at sending (05 R93) -/

/-- The ACTIVATE of a member that is still eligible is sent, and starts the activation. -/
theorem State.sendActivate_eligible {s : State} {b : BayId} {t : ActTarget} {r : UnitRecord}
    (hr : (s.bay b).unit? t.unit = some r) (he : s.targetEligible b t = true) :
    s.sendActivate b t false =
      (((s.modJob b t.place fun j => j.modMember t.unit fun m =>
        { m with state := .activating }).setActivation b
          (.activating t r.running s.activationTimer)).bump b .activationsStarted, true) := by
  simp only [State.sendActivate, hr, he, Bool.not_false, Bool.and_self]

/-- The ACTIVATE of a member that is no longer eligible is discarded (05 R93). -/
theorem State.sendActivate_ineligible {s : State} {b : BayId} {t : ActTarget} {gone : Bool}
    (h : s.targetEligible b t = false ∨ gone = true) :
    s.sendActivate b t gone =
      (((s.setActivation b .idle).bump b .activationsWithdrawn).look b, false) := by
  rcases h with h | rfl
  · unfold State.sendActivate
    rw [h, Bool.and_false]
    split
    · next eligible => cases eligible
    · rfl
  · exact s.sendActivate_gone b t

/-- Settles O56: the frame is the transmitter's choice, and its leaving the queue changes nothing
that the judgement reads. -/
theorem activateJudgedAtSending : Obligations.ActivateJudgedAtSending := by
  intro s b t gone u v rest ht hq hc ha
  have eligible : (s.popControl b).targetEligible b t = s.targetEligible b t :=
    s.targetEligible_setBay b t _ rfl rfl rfl
  have judged : s.sendActivateFrame b =
      if ((s.popControl b).sendActivate b t gone).2 then
        ((((s.popControl b).sendActivate b t gone).1.onLine b (.control (.activate u v))).bump b
          .controlFramesSent)
      else ((s.popControl b).sendActivate b t gone).1 := by
    rw [State.sendActivateFrame, Bay.txChoice_control ht hq hc, ha]
  refine ⟨fun r hr he hg => congrArg _ (show s.sendActivateFrame b = _ from ?sent),
    fun h => congrArg _ (show s.sendActivateFrame b = _ from ?discarded)⟩
  case sent =>
    have record : ((s.popControl b).bay b).unit? t.unit = some r := by
      simpa [State.popControl, Bay.unit?] using hr
    rw [judged, hg, State.sendActivate_eligible record (eligible.trans he)]
    simp [State.popControl, State.onLine, State.activationTimer, State.startTimer, hc]
  case discarded =>
    rw [judged, State.sendActivate_ineligible (h.imp_left eligible.trans)]
    simp [State.popControl, hc]

/-! ## A report judged (05 R94, R98) -/

section Reports
variable {s : State} {b : BayId} {f : UnitReportFrame} {u : UnitAddr} {r : UnitRecord}
  {t : ActTarget} {previous : Version}

/-- A report of a held unit while the controller is IDLE belongs to no activation. -/
theorem State.judgeReport_idle (ht : (s.bay b).ctl.state.takesReports = true)
    (hu : u.val = f.unit.toNat) (hr : (s.bay b).unit? u = some r)
    (ha : (s.bay b).activation = .idle) : s.judgeReport b f = s.reportOutside b u f := by
  simp only [State.judgeReport, ht, if_true, idx_eq_some hu.symm, Option.bind_some, hr,
    Option.map_some, ha]

/-- A report of the unit that is being activated. -/
theorem State.judgeReport_activating {timer : Timer}
    (ht : (s.bay b).ctl.state.takesReports = true) (hu : t.unit.val = f.unit.toNat)
    (hr : (s.bay b).unit? t.unit = some r)
    (ha : (s.bay b).activation = .activating t previous timer) :
    s.judgeReport b f = s.reportActivating b t previous f := by
  simp only [State.judgeReport, ht, if_true, idx_eq_some hu.symm, Option.bind_some, hr,
    Option.map_some, ha]

/-- A report of the unit that is being reverted. -/
theorem State.judgeReport_reverting {timer : Option Timer}
    (ht : (s.bay b).ctl.state.takesReports = true) (hu : t.unit.val = f.unit.toNat)
    (hr : (s.bay b).unit? t.unit = some r)
    (ha : (s.bay b).activation = .reverting t previous timer) :
    s.judgeReport b f = s.reportReverting b t previous f := by
  simp only [State.judgeReport, ht, if_true, idx_eq_some hu.symm, Option.bind_some, hr,
    Option.map_some, ha]

end Reports

/-- Settles O52: the report writes the record and one counter, and out of SERVING the look that
follows changes nothing. -/
theorem reportOutsideActivation : Obligations.ReportOutsideActivation := by
  intro s b f u r hears hst hu hr ha
  have away : (s.bay b).ctl.state ≠ .serving := by
    rcases hst with h | h <;> simp [h]
  have takes : (s.bay b).ctl.state.takesReports = true := by
    rcases hst with h | h <;> simp [h, BayState.takesReports]
  refine congrArg _ (show s.receive b (fun t => t.judgeReport b f) = _ from ?_)
  rw [State.receive_hears s b _ hears, State.judgeReport_idle (u := u) (r := r)
    (by rwa [State.setBay_bay, Bay.heard_ctl]) hu (by rw [State.setBay_bay]; exact hr)
    (by rwa [State.setBay_bay, Bay.heard_activation]), State.reportOutside,
    State.look_away _ b (by simpa [State.setVersions] using away)]
  simp [State.setVersions, reportedStandby, Bay.counted]

end Sys2Proof.Machine

namespace Sys2Proof.Machine

/-! SUPPORT. The choice of an activation controller (05 R90, R92). -/

/-! ## The eligible member with the lowest unit address -/

/-- A walk that keeps the first of the least elements finds one unless there is none. -/
theorem foldl_least {α : Type} (key : α → UnitAddr) (pick : Option α → α → Option α)
    (first : ∀ c, pick none c = some c)
    (next : ∀ a c, pick (some a) c = if key c < key a then some c else some a) (l : List α)
    (acc : Option α) :
    (l.foldl pick acc = none → acc.toList ++ l = []) ∧
      ∀ a, l.foldl pick acc = some a →
        a ∈ acc.toList ++ l ∧ ∀ c ∈ acc.toList ++ l, key a ≤ key c := by
  induction l generalizing acc with
  | nil => cases acc <;> simp
  | cons c l ih =>
    rw [List.foldl_cons]
    cases acc with
    | none => simpa [first] using ih (some c)
    | some d =>
      obtain ⟨e, he, mem, hc, hd⟩ : ∃ e, pick (some d) c = some e ∧ (e = d ∨ e = c) ∧
          key e ≤ key c ∧ key e ≤ key d := by
        rw [next]
        split
        · next lower => exact ⟨c, rfl, .inr rfl, le_rfl, lower.le⟩
        · next kept => exact ⟨d, rfl, .inl rfl, not_lt.mp kept, le_rfl⟩
      rw [he]
      obtain ⟨none, found⟩ := ih (some e)
      refine ⟨fun h => by simpa using none h, fun a ha => ?_⟩
      obtain ⟨listed, least⟩ := found a ha
      have below := least e (by simp)
      simp only [Option.toList_some, List.singleton_append, List.mem_cons] at listed least ⊢
      constructor
      · rcases listed with rfl | listed
        · exact mem.imp_right .inl
        · exact .inr (.inr listed)
      · rintro g (rfl | rfl | hg)
        · exact below.trans hd
        · exact below.trans hc
        · exact least g (.inr hg)

/-- The eligible members of a bay with the places of their jobs. -/
def State.eligibles (s : State) (b : BayId) : List (Place × Job × Member) :=
  (s.bay b).jobList.flatMap fun pj =>
    (pj.2.members.filter (s.eligible b pj.2)).map fun m => (pj.1, pj.2, m)

theorem State.mem_eligibles {s : State} {b : BayId} {p : Place} {j : Job} {m : Member} :
    (p, j, m) ∈ s.eligibles b ↔
      s.job b p = some j ∧ m ∈ j.members ∧ s.eligible b j m = true := by
  simp only [State.eligibles, List.mem_flatMap, List.mem_map, List.mem_filter, Prod.mk.injEq]
  constructor
  · rintro ⟨⟨q, k⟩, listed, n, ⟨mem, ok⟩, rfl, rfl, rfl⟩
    exact ⟨Bay.mem_jobList.mp listed, mem, ok⟩
  · rintro ⟨hj, mem, ok⟩
    exact ⟨(p, j), Bay.mem_jobList.mpr hj, m, ⟨mem, ok⟩, rfl, rfl, rfl⟩

theorem State.firstEligible_least (s : State) (b : BayId) :
    (s.firstEligible b = none → s.eligibles b = []) ∧
      ∀ a, s.firstEligible b = some a →
        a ∈ s.eligibles b ∧ ∀ c ∈ s.eligibles b, a.2.2.unit ≤ c.2.2.unit :=
  foldl_least (fun c : Place × Job × Member => c.2.2.unit) _ (fun _ => rfl) (fun _ _ => rfl)
    (s.eligibles b) none

/-! ## What a bay offers for activation -/

/-- A bay offers a member of the job in a place for activation to a target. -/
def State.offers (s : State) (b : BayId) (p : Place) (m : Member) (target : Version) : Prop :=
  ∃ j, s.job b p = some j ∧ m ∈ j.members ∧ s.mayActivate b j m ∧ j.identity.target = target

theorem State.offers_of_eligible {s : State} {b : BayId} {p : Place} {j : Job} {m : Member}
    (h : (p, j, m) ∈ s.eligibles b) : s.offers b p m j.identity.target := by
  obtain ⟨hj, mem, ok⟩ := State.mem_eligibles.mp h
  exact ⟨j, hj, mem, (s.eligible_iff b j m).mp ok |>.1, rfl⟩

theorem State.offers.eligible {s : State} {b : BayId} {p : Place} {m : Member} {target : Version}
    (h : s.offers b p m target) (serving : (s.bay b).ctl.state = .serving)
    (parked : (s.bay b).ctl.vehicleState = some .parked) :
    ∃ j, (p, j, m) ∈ s.eligibles b := by
  obtain ⟨j, hj, mem, may, -⟩ := h
  exact ⟨j, State.mem_eligibles.mpr ⟨hj, mem, (s.eligible_iff b j m).mpr ⟨may, serving, parked⟩⟩⟩

/-- A look of an IDLE controller: nothing where no member is eligible, and otherwise the selection
of the one with the lowest unit, its ACTIVATE waiting (05 R92). -/
theorem State.look_idle {s : State} {b : BayId} (h : (s.bay b).activation = .idle) :
    (s.eligibles b = [] ∧ s.look b = s) ∨
      ∃ p j m, (p, j, m) ∈ s.eligibles b ∧ (∀ c ∈ s.eligibles b, m.unit ≤ c.2.2.unit) ∧
        s.look b = s.setBay b { s.bay b with
          activation := .selected ⟨m.unit, p, j.identity.target⟩ false,
          port := { (s.bay b).port with
            control := (s.bay b).port.control ++ [.activate m.unit j.identity.target] } } := by
  obtain ⟨none, some⟩ := s.firstEligible_least b
  cases hf : s.firstEligible b with
  | none => exact .inl ⟨none hf, by rw [State.look, h, hf]⟩
  | some a =>
    obtain ⟨p, j, m⟩ := a
    obtain ⟨mem, least⟩ := some _ hf
    refine .inr ⟨p, j, m, mem, least, ?_⟩
    rw [State.look, h, hf]
    simp [State.placeControl]

/-- A look once an activation of a unit has ended, in a bay that offers what it offered before,
selects next what the claims say. -/
theorem State.look_selectsNext {s u : State} {b : BayId} {a : UnitAddr}
    (idle : (u.bay b).activation = .idle) (ctl : (u.bay b).ctl = (s.bay b).ctl)
    (same : (∀ p j m, s.job b p = some j → m ∈ j.members → m.unit = a → m.state ≠ .staged) →
      ∀ p m v, u.offers b p m v ↔ s.offers b p m v) :
    s.selectsNext (u.look b) b a := by
  have offered : ∀ p j m, s.job b p = some j → m ∈ j.members → s.mayActivate b j m →
      s.offers b p m j.identity.target := fun p j m hj mem may => ⟨j, hj, mem, may, rfl⟩
  rcases State.look_idle idle with ⟨none, look⟩ | ⟨p, j, m, mem, least, look⟩
  · rw [State.selectsNext, look]
    refine ⟨.inl idle, fun serving parked unstaged => ⟨fun p j m choice => ?_, fun _ => idle⟩⟩
    obtain ⟨hj, mem, may, -⟩ := choice
    obtain ⟨k, hk⟩ := ((same unstaged p m _).mpr (offered p j m hj mem may)).eligible
      (ctl ▸ serving) (ctl ▸ parked)
    simp [none] at hk
  · obtain ⟨-, -, ok⟩ := State.mem_eligibles.mp mem
    obtain ⟨-, serving, parked⟩ := (u.eligible_iff b j m).mp ok
    rw [ctl] at serving parked
    have selected : ((u.look b).bay b).activation =
        .selected ⟨m.unit, p, j.identity.target⟩ false := by rw [look, State.setBay_bay]
    refine ⟨.inr ⟨serving, parked, _, selected⟩, fun _ _ unstaged =>
      ⟨fun q k n choice => ?_, fun none => ?_⟩⟩
    · obtain ⟨hk, memk, mayk, lowest⟩ := choice
      obtain ⟨l, hl⟩ := ((same unstaged q n _).mpr (offered q k n hk memk mayk)).eligible
        (ctl ▸ serving) (ctl ▸ parked)
      obtain ⟨i, hi, memi, mayi, target⟩ := (same unstaged p m _).mp (State.offers_of_eligible mem)
      rcases lowest p i m hi memi mayi with lt | ⟨rfl, rfl⟩
      · exact absurd (least _ hl) (not_le.mpr lt)
      · cases hk.symm.trans hi
        rw [target, selected]
        exact ⟨rfl, by simp [look]⟩
    · obtain ⟨i, hi, memi, mayi, -⟩ := (same unstaged p m _).mp (State.offers_of_eligible mem)
      exact absurd mayi (none p i m hi memi)

end Sys2Proof.Machine

namespace Sys2Proof.Machine

/-! SUPPORT. The end of an activation with an outcome, up to the work that follows in its job
(05 R99 to R101, 01 R22). -/

/-! ## What an outcome writes -/

/-- An outcome of an activation, with the counter that it raises and what it writes to the record of
the unit (01 R22, 05 R107). -/
structure OutcomeWrites (t : ActTarget) (previous : Version) (o : UnitState)
    (report : Option UnitReportFrame) (k : BayCounter) (f : UnitRecord → UnitRecord) : Prop where
  counter : outcomeCounter o = some k
  record : ∀ (s : State) (b : BayId),
    s.applyOutcome b t previous o report = s.modUnit b t.unit f
  unit : ∀ r, (f r).unit = r.unit

theorem outcomeWrites_done (t : ActTarget) (previous : Version) (report : Option UnitReportFrame) :
    OutcomeWrites t previous .done report .outcomesDone fun r =>
      { r with running := t.target, standby := some previous } :=
  ⟨rfl, fun _ _ => rfl, fun _ => rfl⟩

theorem outcomeWrites_reverted (t : ActTarget) (previous : Version)
    (report : Option UnitReportFrame) :
    OutcomeWrites t previous .reverted report .outcomesReverted fun r =>
      { r with standby := some t.target, blocked := true } :=
  ⟨rfl, fun _ _ => rfl, fun _ => rfl⟩

theorem outcomeWrites_fault (t : ActTarget) (previous : Version) (report : UnitReportFrame) :
    OutcomeWrites t previous .fault (some report) .outcomesFault fun r =>
      { r with running := report.running, standby := reportedStandby report, blocked := true } :=
  ⟨rfl, fun _ _ => rfl, fun _ => rfl⟩

theorem outcomeWrites_expired (t : ActTarget) (previous : Version) :
    OutcomeWrites t previous .fault none .outcomesFault fun r => { r with blocked := true } :=
  ⟨rfl, fun _ _ => rfl, fun _ => rfl⟩

theorem UnitState.terminal_of_counted {o : UnitState} {k : BayCounter}
    (h : outcomeCounter o = some k) : o.terminal = true := by
  cases o with
  | done | reverted | fault => rfl
  | _ => cases h

/-! ## An outcome in its bay -/

/-- A job once the unit under activation has an outcome. -/
def Job.concluded (j : Job) (u : UnitAddr) (o : UnitState) : Job :=
  j.modMember u fun m => { m with state := o }

/-- A bay once the outcome of an activation is written: the record of the unit, which names its job
no more, the unit's member, and the counter (05 R99). -/
def Bay.concluded (x : Bay) (t : ActTarget) (o : UnitState) (k : BayCounter)
    (f : UnitRecord → UnitRecord) : Bay :=
  { x with
    inventory := x.inventory.map fun r => if r.unit = t.unit then { f r with job := none } else r,
    jobs := x.jobs.modify t.place (Option.map fun j => j.concluded t.unit o),
    counters := x.counters.modify k.index satInc }

/-- A bay whose controller has become IDLE; after a FAULT an INVENTORY REQUEST waits there
(05 R101). -/
def Bay.stoodDown (x : Bay) (o : UnitState) : Bay :=
  { x with
    activation := .idle,
    port := { x.port with
      control := if o = .fault ∧ x.port.control.any ControlFrame.asksInventory = false
        then x.port.control ++ [.inventoryRequest true] else x.port.control } }

/-- The notice of an outcome (05 R100). -/
def ActTarget.result (t : ActTarget) (b : BayId) (vehicle : Option Word) (previous : Version)
    (o : UnitState) (cause : ResultCause) (report : Option UnitReportFrame)
    (link : Option EntryId) : Notice :=
  .unitResult b vehicle t.unit o cause t.target previous (report.map (·.running))
    (report.map reportedStandby).join link

/-- The job in a place judged, and what follows where it has ended. -/
def State.closeAfter (s : State) (b : BayId) (p : Place) : State :=
  let u := s.closeOut b p
  if (u.job b p).any (!·.live) then u.afterEnd b else u

theorem State.standDown_eq (s : State) (b : BayId) (o : UnitState) :
    (if o = .fault then (s.setActivation b .idle).requestInventory b true
      else s.setActivation b .idle) = s.setBay b ((s.bay b).stoodDown o) := by
  by_cases ho : o = .fault
  · cases ha : (s.bay b).port.control.any ControlFrame.asksInventory <;>
      simp [ho, ha, State.requestInventory, State.placeControl, Bay.stoodDown]
  · simp [ho, Bay.stoodDown]

section Outcome
variable {s : State} {b : BayId} {t : ActTarget} {previous : Version} {o : UnitState}
  {cause : ResultCause} {report : Option UnitReportFrame} {k : BayCounter}
  {f : UnitRecord → UnitRecord} {j : Job} {m : Member}

/-- An activation ended: the outcome is written and posted, its job judged, and the controller looks
once more (05 R99). -/
theorem State.outcome_eq (hw : OutcomeWrites t previous o report k f)
    (hj : s.job b t.place = some j) (hm : j.member? t.unit = some m) {u v : State}
    (hu : (s.post (t.result b (s.bay b).ctl.vehicle previous o cause report m.link)).setBay b
      ((s.bay b).concluded t o k f) = u)
    (hv : u.closeAfter b t.place = v) :
    s.outcome b t previous o cause report = (v.setBay b ((v.bay b).stoodDown o)).look b := by
  have written : ∀ r : UnitRecord, (fun r => if r.unit = t.unit then { r with job := none } else r)
      (if r.unit = t.unit then f r else r) =
        if r.unit = t.unit then { f r with job := none } else r := by
    intro r
    by_cases h : r.unit = t.unit <;> simp [h, hw.unit]
  have concluded : (((((s.applyOutcome b t previous o report).modJob b t.place fun j =>
      j.modMember t.unit fun m => { m with state := o }).bump b k).post
        (t.result b (s.bay b).ctl.vehicle previous o cause report m.link)).modUnit b t.unit fun r =>
          { r with job := none }) = u := by
    rw [← hu, hw.record]
    simp only [State.modUnit_eq, State.modJob_eq, State.bump_eq, State.modBay_eq, State.post_setBay,
      State.setBay_bay, State.setBay_setBay, List.map_map, Function.comp_def, written]
    rfl
  rw [← State.standDown_eq, ← hv, State.closeAfter]
  simp only [State.outcome, hw.counter, hj, Option.bind_some, hm]
  rw [ActTarget.result] at concluded
  rw [concluded]
  cases (u.closeOut b t.place).job b t.place <;> rfl

end Outcome

/-- A job that goes on and does not leave the transfer stays as it is. -/
theorem State.closeAfter_goesOn {s : State} {b : BayId} {p : Place} {j : Job}
    (hj : s.job b p = some j) (hl : j.live = true) (ht : j.allTerminal = false)
    (hp : j.transferring = false ∨ j.hasPending = true) : s.closeAfter b p = s := by
  have stays : (j.transferring && !j.hasPending) = false := by
    rcases hp with h | h <;> simp [h]
  have out : s.closeOut b p = s := by
    simp [State.closeOut, hj, hl, ht, stays]
  simp [State.closeAfter, out, hj, hl]

/-! ## Members and records after an outcome -/

theorem Job.mem_concluded_of_staged {j : Job} {u : UnitAddr} {o : UnitState} {m : Member}
    (ho : o.terminal = true) (hm : m.state = .staged) (h : m ∈ (j.concluded u o).members) :
    m ∈ j.members := by
  obtain ⟨n, hn, rfl⟩ := List.mem_map.mp h
  split at hm
  · subst hm; cases ho
  · next other => rwa [if_neg other]

theorem Job.mem_concluded_of_other {j : Job} {u : UnitAddr} (o : UnitState) {m : Member}
    (hu : m.unit ≠ u) (h : m ∈ j.members) : m ∈ (j.concluded u o).members :=
  List.mem_map.mpr ⟨m, h, by simp [hu]⟩

theorem Bay.concluded_unit? {x y : Bay} {t : ActTarget} {o : UnitState} {k : BayCounter}
    {f : UnitRecord → UnitRecord} (hf : ∀ r, (f r).unit = r.unit)
    (hy : y.inventory = (x.concluded t o k f).inventory) (u : UnitAddr) :
    y.unit? u = (x.unit? u).map fun r => if u = t.unit then { f r with job := none } else r := by
  rw [Bay.unit?_map hy fun r => by split <;> simp [hf]]
  cases hr : x.unit? u with
  | none => rfl
  | some r => simp only [Option.map_some, Bay.unit?_unit hr]

theorem Bay.concluded_job (x : Bay) (t : ActTarget) (o : UnitState) (k : BayCounter)
    (f : UnitRecord → UnitRecord) (p : Place) :
    (x.concluded t o k f).jobs.get p =
      (x.jobs.get p).map fun j => if p = t.place then j.concluded t.unit o else j := by
  by_cases h : t.place = p
  · subst h; simp [Bay.concluded]
  · simp [Bay.concluded, h, Ne.symm h]

/-! ## What an outcome leaves to be selected -/

/-- A member may be activated alike where its record, its job and the state outside the bays are
alike. -/
theorem State.mayActivate_congr {s u : State} {b : BayId} {j l : Job} {m : Member}
    (manifest : u.manifest = s.manifest) (config : u.config = s.config) (clock : u.clock = s.clock)
    (unit : (u.bay b).unit? m.unit = (s.bay b).unit? m.unit) (live : l.live = j.live)
    (identity : l.identity = j.identity) : u.mayActivate b l m ↔ s.mayActivate b j m := by
  simp only [State.mayActivate, State.windowNow, State.entry, manifest, config, clock, unit, live,
    identity]

/-- After an outcome whose job goes on, a bay without another STAGED member of the unit offers what
it offered. -/
theorem State.offers_concluded {s u : State} {b : BayId} {t : ActTarget} {o : UnitState}
    {k : BayCounter} {f : UnitRecord → UnitRecord} (ho : o.terminal = true)
    (hf : ∀ r, (f r).unit = r.unit) (manifest : u.manifest = s.manifest)
    (config : u.config = s.config) (clock : u.clock = s.clock)
    (jobs : (u.bay b).jobs = ((s.bay b).concluded t o k f).jobs)
    (inventory : (u.bay b).inventory = ((s.bay b).concluded t o k f).inventory)
    (unstaged : ∀ p j m, s.job b p = some j → m ∈ j.members → m.unit = t.unit → m.state ≠ .staged)
    (p : Place) (m : Member) (v : Version) : u.offers b p m v ↔ s.offers b p m v := by
  have may : ∀ j l : Job, m.unit ≠ t.unit → l.live = j.live → l.identity = j.identity →
      (u.mayActivate b l m ↔ s.mayActivate b j m) := fun j l other =>
    State.mayActivate_congr manifest config clock (by
      rw [Bay.concluded_unit? hf inventory]; simp [other])
  have job : u.job b p = (s.job b p).map fun j =>
      if p = t.place then j.concluded t.unit o else j := by
    rw [State.job, jobs, Bay.concluded_job, State.job]
  have same : ∀ j : Job, (if p = t.place then j.concluded t.unit o else j).live = j.live ∧
      (if p = t.place then j.concluded t.unit o else j).identity = j.identity := fun j => by
    split <;> exact ⟨rfl, rfl⟩
  unfold State.offers
  constructor
  · rintro ⟨l, hl, mem, mayl, target⟩
    obtain ⟨j, hj, rfl⟩ := Option.map_eq_some_iff.mp (job ▸ hl)
    obtain ⟨live, identity⟩ := same j
    have memj : m ∈ j.members := by
      split at mem
      · exact Job.mem_concluded_of_staged ho mayl.1 mem
      · exact mem
    have other : m.unit ≠ t.unit := fun e => unstaged p j m hj memj e mayl.1
    exact ⟨j, hj, memj, (may j _ other live identity).mp mayl, identity ▸ target⟩
  · rintro ⟨j, hj, mem, mayj, target⟩
    obtain ⟨live, identity⟩ := same j
    have other : m.unit ≠ t.unit := fun e => unstaged p j m hj mem e mayj.1
    refine ⟨_, by rw [job, hj]; rfl, ?_, (may j _ other live identity).mpr mayj,
      identity.symm ▸ target⟩
    split
    · exact Job.mem_concluded_of_other o other mem
    · exact mem

end Sys2Proof.Machine

namespace Sys2Proof.Machine

/-! SUPPORT and PROOF. An activation that ends while its job goes on, and the activation timer
(05 R92, R95 to R101, 03 R51, R53). -/

/-! ## What a look writes -/

/-- A look writes the controller and places ACTIVATEs alone. -/
theorem State.look_writes (s : State) (b : BayId) :
    ∃ a l, s.look b = s.setBay b { s.bay b with
        activation := a,
        port := { (s.bay b).port with control := (s.bay b).port.control ++ l } } ∧
      ∀ f ∈ l, ∃ u v, f = .activate u v := by
  have stays : s = s.setBay b { s.bay b with
      activation := (s.bay b).activation,
      port := { (s.bay b).port with control := (s.bay b).port.control ++ [] } } := by
    rw [List.append_nil]; exact (s.setBay_self b).symm
  unfold State.look
  split
  · split
    · exact ⟨_, [], stays, by simp⟩
    · exact ⟨_, [.activate _ _], by simp [State.placeControl]; rfl, by simp⟩
  all_goals exact ⟨_, [], stays, by simp⟩

/-- What the look of an IDLE controller leaves of it. -/
theorem State.look_next {s : State} {b : BayId} (idle : (s.bay b).activation = .idle) :
    ((s.look b).bay b).activation = .idle ∨
      ((s.bay b).ctl.state = .serving ∧ (s.bay b).ctl.vehicleState = some .parked ∧
        ∃ d, ((s.look b).bay b).activation = .selected d false) :=
  (State.look_selectsNext (a := 0) idle rfl fun _ _ _ _ => Iff.rfl).1

/-- After a FAULT an INVENTORY REQUEST waits (05 R101). -/
theorem Bay.stoodDown_asks (x : Bay) :
    ∃ own, ControlFrame.inventoryRequest own ∈ (x.stoodDown .fault).port.control := by
  cases ha : x.port.control.any ControlFrame.asksInventory with
  | true =>
    obtain ⟨g, hg, asks⟩ := List.any_eq_true.mp ha
    cases g with
    | inventoryRequest own => exact ⟨own, by simpa [Bay.stoodDown, ha] using hg⟩
    | _ => cases asks
  | false => exact ⟨true, by simp [Bay.stoodDown, ha]⟩

/-- No other frame is placed as the controller becomes IDLE. -/
theorem Bay.mem_stoodDown {x : Bay} {o : UnitState} {g : ControlFrame}
    (h : g ∈ (x.stoodDown o).port.control) : g ∈ x.port.control ∨ g = .inventoryRequest true := by
  unfold Bay.stoodDown at h
  dsimp only at h
  split at h
  · simpa using h
  · exact .inl h

/-! ## The job that goes on -/

theorem Job.concluded_open {j : Job} {u : UnitAddr} (o : UnitState)
    (h : ∃ n ∈ j.members, n.unit ≠ u ∧ n.state.terminal = false) :
    (j.concluded u o).allTerminal = false := by
  obtain ⟨n, hn, other, still⟩ := h
  exact List.all_eq_false.mpr ⟨n, Job.mem_concluded_of_other o other hn, by simp [still]⟩

theorem Job.concluded_stays {j : Job} {u : UnitAddr} (o : UnitState)
    (h : j.state = .staged ∨ j.state = .closing ∨
      ∃ n ∈ j.members, n.unit ≠ u ∧ n.state = .pending) :
    (j.concluded u o).transferring = false ∨ (j.concluded u o).hasPending = true := by
  rcases h with h | h | ⟨n, hn, other, pending⟩
  · exact .inl (by simp [Job.transferring, Job.concluded, Job.modMember, h])
  · exact .inl (by simp [Job.transferring, Job.concluded, Job.modMember, h])
  · exact .inr (List.any_eq_true.mpr
      ⟨n, Job.mem_concluded_of_other o other hn, by simp [pending]⟩)

/-! ## The outcome while the job goes on -/

section GoesOn
variable {s s' : State} {b : BayId} {y : Bay} {t : ActTarget} {previous : Version} {o : UnitState}
  {cause : ResultCause} {report : Option UnitReportFrame} {k : BayCounter}
  {f : UnitRecord → UnitRecord} {j : Job} {m : Member}

/-- An outcome on a bay where a frame or an expiry has been noted: it is written and posted, the job
is judged, and the controller looks. -/
theorem State.outcome_noted (hy : (s.bay b).noted y) (hw : OutcomeWrites t previous o report k f)
    (hj : s.job b t.place = some j) (hm : j.member? t.unit = some m) {u v : State}
    (hu : (s.post (t.result b (s.bay b).ctl.vehicle previous o cause report m.link)).setBay b
      (y.concluded t o k f) = u)
    (hv : u.closeAfter b t.place = v) :
    (s.setBay b y).outcome b t previous o cause report =
      (v.setBay b ((v.bay b).stoodDown o)).look b := by
  have job : (s.setBay b y).job b t.place = some j := by
    rw [State.job, State.setBay_bay, hy.jobs]; exact hj
  refine State.outcome_eq hw job hm ?_ hv
  rw [State.setBay_bay, hy.ctl, State.post_setBay, State.setBay_setBay, hu]

/-- The job once the outcome is written. -/
theorem State.concluded_job (hy : (s.bay b).noted y) (hj : s.job b t.place = some j) (n : Notice) :
    ((s.post n).setBay b (y.concluded t o k f)).job b t.place = some (j.concluded t.unit o) := by
  rw [State.job, State.setBay_bay, Bay.concluded_job, hy.jobs, show
    (s.bay b).jobs.get t.place = some j from hj, Option.map_some, if_pos rfl]

/-- An outcome whose job goes on: it is written and posted, and the controller looks. -/
theorem State.outcome_goesOn (hy : (s.bay b).noted y)
    (hw : OutcomeWrites t previous o report k f) (hj : s.job b t.place = some j)
    (hl : j.live = true) (hm : j.member? t.unit = some m)
    (others : ∃ n ∈ j.members, n.unit ≠ t.unit ∧ n.state.terminal = false)
    (stays : j.state = .staged ∨ j.state = .closing ∨
      ∃ n ∈ j.members, n.unit ≠ t.unit ∧ n.state = .pending) :
    (s.setBay b y).outcome b t previous o cause report =
      ((s.post (t.result b (s.bay b).ctl.vehicle previous o cause report m.link)).setBay b
        ((y.concluded t o k f).stoodDown o)).look b := by
  rw [State.outcome_noted hy hw hj hm rfl (State.closeAfter_goesOn (State.concluded_job hy hj _) hl
    (Job.concluded_open o others) (Job.concluded_stays o stays)), State.setBay_bay,
    State.setBay_setBay]

/-- What such an outcome leaves: its member, its record and its counter written, the notice posted,
the controller as the claims have it, and the rest of the state as it was. -/
theorem State.outcome_goesOn_spec (hy : (s.bay b).noted y)
    (hw : OutcomeWrites t previous o report k f) (hj : s.job b t.place = some j)
    (hs' : ((s.post (t.result b (s.bay b).ctl.vehicle previous o cause report m.link)).setBay b
        ((y.concluded t o k f).stoodDown o)).look b = s') :
    s'.job b t.place = some (j.concluded t.unit o) ∧
      (∀ u, (s'.bay b).unit? u = ((s.bay b).unit? u).map fun r =>
        if u = t.unit then { f r with job := none } else r) ∧
      s.selectsNext s' b t.unit ∧
      (o = .fault → ∃ own, ControlFrame.inventoryRequest own ∈ (s'.bay b).port.control) ∧
      (∀ u v, ControlFrame.revert u v ∈ (s'.bay b).port.control →
        ControlFrame.revert u v ∈ y.port.control) ∧
      (s'.bay b).counters = y.counters.modify k.index satInc ∧
      s'.notices =
        (s.post (t.result b (s.bay b).ctl.vehicle previous o cause report m.link)).notices ∧
      (s'.bay b).ctl = (s.bay b).ctl ∧ (s'.bay b).txQueue = (s.bay b).txQueue ∧
      s.sameOtherBays s' b ∧ s.sameLoads s' ∧ s.sameBlocks s' ∧ s.sameUplink s' := by
  generalize t.result b (s.bay b).ctl.vehicle previous o cause report m.link = n at *
  generalize hx : (y.concluded t o k f).stoodDown o = x at *
  have jobs : x.jobs = ((s.bay b).concluded t o k f).jobs := by
    rw [← hx]; exact congrArg (Table.modify · t.place _) hy.jobs
  have inventory : x.inventory = ((s.bay b).concluded t o k f).inventory := by
    rw [← hx]; exact congrArg (List.map _) hy.inventory
  have selects : s.selectsNext s' b t.unit := by
    rw [← hs']
    refine State.look_selectsNext (by rw [State.setBay_bay, ← hx]; rfl)
      (by rw [State.setBay_bay, ← hx]; exact hy.ctl) fun unstaged => ?_
    exact State.offers_concluded (UnitState.terminal_of_counted hw.counter) hw.unit (by simp)
      (by simp) (by simp)
      (by rw [State.setBay_bay, jobs]) (by rw [State.setBay_bay, inventory]) unstaged
  obtain ⟨a, l, look, activates⟩ := ((s.post n).setBay b x).look_writes b
  simp only [State.setBay_bay, State.setBay_setBay] at look
  rw [hs'] at look
  subst look
  refine ⟨?_, fun u => ?_, selects, fun ho => ?_, fun u v hv => ?_, ?_, rfl, ?_, ?_,
    fun c hc => ?_, ?_, ?_, ?_⟩
  · rw [State.job, State.setBay_bay]
    dsimp only
    rw [jobs, Bay.concluded_job, show (s.bay b).jobs.get t.place = some j from hj, Option.map_some,
      if_pos rfl]
  · rw [State.setBay_bay]
    exact Bay.concluded_unit? (k := k) (o := o) hw.unit inventory u
  · subst ho
    obtain ⟨own, waits⟩ := (y.concluded t .fault k f).stoodDown_asks
    exact ⟨own, by rw [State.setBay_bay]; exact List.mem_append_left _ (hx ▸ waits)⟩
  · rw [State.setBay_bay] at hv
    rcases List.mem_append.mp hv with hv | hv
    · exact (Bay.mem_stoodDown (hx ▸ hv)).resolve_right nofun
    · obtain ⟨_, _, e⟩ := activates _ hv
      cases e
  · rw [State.setBay_bay, ← hx]; rfl
  · rw [State.setBay_bay, ← hx]; exact hy.ctl
  · rw [State.setBay_bay, ← hx]; exact hy.queue
  · rw [State.setBay_bay_ne _ _ (Ne.symm hc), State.post_bay]
  · exact ⟨by simp, by simp, by simp, by simp, by simp, by simp, by simp⟩
  · exact ⟨by simp, by simp, by simp⟩
  · exact ⟨by simp, by simp, by simp⟩

end GoesOn

/-! ## The activation timer (05 R96, R97) -/

theorem State.secondExpiry_eq {s : State} {b : BayId} {t : ActTarget} {previous : Version}
    {timer : Timer} (ha : (s.bay b).activation = .reverting t previous (some timer)) :
    s.secondExpiry b = (s.setBay b ((s.bay b).counted .activationTimeouts)).outcome b t previous
      .fault .secondExpiry none := by
  rw [State.secondExpiry, ha]
  rfl

theorem Bay.noted_counted (x : Bay) (k : BayCounter) : x.noted (x.counted k) :=
  ⟨rfl, rfl, rfl, rfl, rfl⟩

/-- Settles O28: the first expiry writes the bay; the second ends the activation with an outcome
whose job goes on. -/
theorem activationTimerExpires : Obligations.ActivationTimerExpires := by
  refine fun s b t previous timer => ⟨fun ha => ?first,
    fun r j ha hr hj hl ⟨m, hm⟩ others stays => ?second⟩
  case first =>
    refine congrArg _ (show s.firstExpiry b = _ from ?_)
    rw [State.firstExpiry, ha]
    simp [State.placeControl]
  case second =>
    have noted := (s.bay b).noted_counted .activationTimeouts
    have writes := outcomeWrites_expired t previous
    have ended := (State.secondExpiry_eq ha).trans
      (State.outcome_goesOn noted writes hj hl hm others stays)
    obtain ⟨job, units, selects, asks, -, counters, notices, ctl, queue, bays, loads, blocks,
      uplink⟩ := State.outcome_goesOn_spec noted writes hj ended.symm
    refine ⟨s.secondExpiry b, rfl, selects, fun n hn => ?_, ?_, job, asks rfl, ?_, ?_, ctl, queue,
      bays, loads, blocks, uplink⟩
    · cases hm.symm.trans hn
      exact notices
    · rw [units, hr, Option.map_some, if_pos rfl]
    · rw [State.bayCounter, counters, Table.get_modify_self]
      exact congrArg satInc (counters_modify_ne (by decide))
    · rw [State.bayCounter, counters, counters_modify_ne (by decide)]
      exact Table.get_modify_self ..

end Sys2Proof.Machine

namespace Sys2Proof.Machine

/-! SUPPORT. What a builder run keeps of a job that has ended (01 R18 to R21, 03 R51). -/

/-! ## A job that has ended, in its bay -/

/-- What of a unit's record no builder run changes. -/
def UnitRecord.versions (r : UnitRecord) : UnitAddr × Version × Option Version × Bool :=
  (r.unit, r.running, r.standby, r.blocked)

/-- A bay that keeps the record of a job that has ended in place p: no unit's record names the
place, and controller, queue and the units' versions are those of a bay x. -/
structure Bay.keepsEnded (x y : Bay) (p : Place) (l : Job) : Prop where
  job : y.jobs.get p = some l
  unreferred : ∀ r ∈ y.inventory, r.job ≠ some p
  versions : y.inventory.map UnitRecord.versions = x.inventory.map UnitRecord.versions
  queue : y.txQueue = x.txQueue
  ctl : y.ctl = x.ctl

/-- Bays with the same versions show them for the same units. -/
theorem Bay.unit?_versions {x y : Bay}
    (h : y.inventory.map UnitRecord.versions = x.inventory.map UnitRecord.versions) (u : UnitAddr) :
    (y.unit? u).map UnitRecord.versions = (x.unit? u).map UnitRecord.versions := by
  have find : ∀ z : Bay, (z.unit? u).map UnitRecord.versions =
      (z.inventory.map UnitRecord.versions).find? fun v => v.1 = u := fun z => by
    rw [List.find?_map]; rfl
  rw [find, find, h]

theorem referTo_unreferred {u : UnitAddr} {p q : Place} {l : List UnitRecord} (hq : q ≠ p)
    (h : ∀ r ∈ l, r.job ≠ some p) : ∀ r ∈ referTo u q l, r.job ≠ some p := by
  intro r hr
  obtain ⟨n, hn, rfl⟩ := List.mem_map.mp hr
  split
  · simpa using hq
  · exact h n hn

theorem referTo_versions (u : UnitAddr) (q : Place) (l : List UnitRecord) :
    (referTo u q l).map UnitRecord.versions = l.map UnitRecord.versions := by
  rw [referTo, List.map_map]
  refine List.map_congr_left fun r _ => ?_
  by_cases h : r.unit = u <;> simp [h, UnitRecord.versions]

section KeepsEnded
variable {x y : Bay} {p q : Place} {l : Job}

theorem Bay.keepsEnded.created (h : x.keepsEnded y p l) (hq : q ≠ p) (u : UnitAddr) (j : Job) :
    x.keepsEnded (y.created q u j) p l where
  job := by simpa [Bay.created, hq] using h.job
  unreferred := referTo_unreferred hq h.unreferred
  versions := (referTo_versions u q _).trans h.versions
  queue := h.queue
  ctl := h.ctl

theorem Bay.keepsEnded.joined (h : x.keepsEnded y p l) (hq : q ≠ p) (m : Member) :
    x.keepsEnded (y.joined q m) p l where
  job := by simpa [Bay.joined, hq] using h.job
  unreferred := referTo_unreferred hq h.unreferred
  versions := (referTo_versions m.unit q _).trans h.versions
  queue := h.queue
  ctl := h.ctl

/-- Work on channels and jobs keeps it where it keeps the job. -/
theorem Bay.keepsEnded.works {s t : State} {b : BayId} (h : x.keepsEnded (s.bay b) p l)
    (work : s.worksIn t b) (job : t.job b p = some l) : x.keepsEnded (t.bay b) p l where
  job := job
  unreferred := by rw [work.bay.inventory]; exact h.unreferred
  versions := by rw [work.bay.inventory]; exact h.versions
  queue := work.queue.trans h.queue
  ctl := work.bay.ctl.trans h.ctl

theorem Bay.keepsEnded.assign {s : State} {b : BayId} (h : x.keepsEnded (s.bay b) p l)
    (hl : l.live = false) : x.keepsEnded ((s.assign b).bay b) p l := by
  refine h.works (s.assign_worksIn b) ?_
  rcases State.assign_job (s := s) (b := b) h.job with e | ⟨ok, -⟩
  · exact e
  · have queued : l.state = .queued := by
      simp only [Job.assignable, Bool.and_eq_true, decide_eq_true_eq] at ok
      exact ok.1
    simp [Job.live, queued] at hl

theorem Bay.keepsEnded.look {s : State} {b : BayId} (h : x.keepsEnded (s.bay b) p l) :
    x.keepsEnded ((s.look b).bay b) p l :=
  h.works (s.look_worksIn b) (by rw [State.job, (s.look_keeps b b).1]; exact h.job)

end KeepsEnded

/-! ## Units placed beside it -/

/-- What placing a unit writes: nothing, a new job, or a member of a live job of the bay. -/
theorem State.placeUnit_writes (s : State) (b : BayId) (r : UnitRecord) (staged : Bool) :
    s.placeUnit b r staged = s ∨ (∃ i, s.placeUnit b r staged = s.createJob b r.unit i staged) ∨
      ∃ q k st i, s.job b q = some k ∧ k.live = true ∧
        s.placeUnit b r staged = s.addMember b q r.unit st i := by
  unfold State.placeUnit
  split
  · exact .inl rfl
  · next i _ =>
    dsimp only
    split
    · exact .inr (.inl ⟨i, rfl⟩)
    · next q k found =>
      obtain ⟨hk, live, -⟩ := Bay.find_job_iff.mp found
      have hl : k.live = true := (Bool.and_eq_true_iff.mp live).1
      split
      · split
        · exact .inr (.inr ⟨q, k, _, i, hk, hl, rfl⟩)
        · exact .inl rfl
      · split
        · exact .inr (.inr ⟨q, k, _, i, hk, hl, rfl⟩)
        · exact .inl rfl

/-- A unit for which a place is kept is placed beside the job that has ended. -/
theorem State.placeUnit_keepsEnded {s : State} {b : BayId} {r : UnitRecord}
    {w : Multiset UnitAddr} {x : Bay} {p : Place} {l : Job} (staged : Bool)
    (room : (s.bay b).room (r.unit ::ₘ w)) (h : x.keepsEnded (s.bay b) p l)
    (hl : l.live = false) : x.keepsEnded ((s.placeUnit b r staged).bay b) p l := by
  rcases s.placeUnit_writes b r staged with e | ⟨i, e⟩ | ⟨q, k, st, i, hk, live, e⟩
  · rwa [e]
  · rcases s.createJob_cases b r.unit i staged with g | ⟨q, j, t, hq, -, -, -, g⟩
    · rwa [e, g]
    · have spare : (s.bay b).occupied.card < 8 := by
        have used := card_placed (freeUnits (s.bay b).inventory) w r.unit
        unfold Bay.room at room
        omega
      have vacant := Bay.newPlace_vacant spare hq
      have other : q ≠ p := by
        rintro rfl
        cases vacant.symm.trans h.job
      rw [e, g, State.setBay_bay]
      exact h.created other r.unit j
  · have other : q ≠ p := by
      rintro rfl
      cases hk.symm.trans h.job
      exact Bool.false_ne_true (hl.symm.trans live)
    rw [e, State.addMember_eq, State.setBay_bay]
    exact h.joined other _

/-- A bay with room has a place kept for every unit that a pass places. -/
theorem Bay.room_listed {x : Bay} (h : x.room 0) (d : Disposition) :
    x.room ((x.inventory.filter fun r => r.job.isNone && r.disposition = d).map
      (·.unit) : List UnitAddr) := by
  have listed : ((x.inventory.filter fun r => r.job.isNone && r.disposition = d).map
      (·.unit) : List UnitAddr) ≤ freeUnits x.inventory :=
    Multiset.coe_le.mpr ((List.monotone_filter_right _ (by simp_all)).map _).subperm
  unfold Bay.room at h ⊢
  rw [Multiset.eq_union_left listed]
  simpa using h

theorem State.placeAll_keepsEnded {s : State} {b : BayId} {x : Bay} {p : Place} {l : Job}
    (d : Disposition) (staged : Bool) (room : (s.bay b).room 0) (h : x.keepsEnded (s.bay b) p l)
    (hl : l.live = false) : x.keepsEnded ((s.placeAll b d staged).bay b) p l := by
  have pass : ∀ (rs : List UnitRecord) (t : State),
      (t.bay b).room (rs.map (·.unit) : List UnitAddr) →
      x.keepsEnded (t.bay b) p l →
      x.keepsEnded ((rs.foldl (fun t r => t.placeUnit b r staged) t).bay b) p l := by
    intro rs
    induction rs with
    | nil => exact fun _ _ ht => ht
    | cons r rs ih =>
      intro t room ht
      have more : (t.bay b).room
          (r.unit ::ₘ ((rs.map (·.unit) : List UnitAddr) : Multiset _)) := room
      exact ih _ (State.placeUnit_room staged more).1
        (State.placeUnit_keepsEnded staged more ht hl)
  exact pass _ s (Bay.room_listed room d) h

/-- Dispositions take no room. -/
theorem State.disposeAll_room {s : State} {b : BayId} (h : (s.bay b).room 0) :
    ((s.disposeAll b).bay b).room 0 := by
  have free : freeUnits ((s.disposeAll b).bay b).inventory = freeUnits (s.bay b).inventory := by
    rw [State.disposeAll, State.modInventory_eq, State.modBay_eq, State.setBay_bay]
    exact freeUnits_map (fun r => by split <;> exact ⟨rfl, rfl⟩) _
  have jobs : ((s.disposeAll b).bay b).jobs = (s.bay b).jobs := by simp [State.disposeAll]
  unfold Bay.room Bay.occupied at h ⊢
  rwa [free, jobs]

theorem State.disposeAll_keepsEnded {s : State} {b : BayId} {x : Bay} {p : Place} {l : Job}
    (h : x.keepsEnded (s.bay b) p l) : x.keepsEnded ((s.disposeAll b).bay b) p l := by
  rw [State.disposeAll, State.modInventory_eq, State.modBay_eq, State.setBay_bay]
  refine ⟨h.job, fun r hr => ?_, Eq.trans ?_ h.versions, h.queue, h.ctl⟩
  · obtain ⟨n, hn, rfl⟩ := List.mem_map.mp hr
    have job := h.unreferred n hn
    split <;> exact job
  · rw [List.map_map]
    refine List.map_congr_left fun r _ => ?_
    rw [Function.comp_apply]
    split <;> rfl

/-! ## Builder runs and replacements -/

/-- A sheltered bay keeps it through a builder run for any bay. -/
theorem State.build_keepsEnded {s : State} {a b : BayId} {x : Bay} {p : Place} {l : Job}
    (shelter : (s.bay b).sheltered) (h : x.keepsEnded (s.bay b) p l) (hl : l.live = false) :
    x.keepsEnded ((s.build a).bay b) p l := by
  unfold State.build
  split
  · next serving =>
    by_cases e : a = b
    · subst e
      have disposed := State.disposeAll_room (shelter.resolve_left (not_not_intro serving))
      have first := State.placeAll_keepsEnded .needsImage false disposed
        (State.disposeAll_keepsEnded h) hl
      have second := State.placeAll_keepsEnded .stageReady true
        (State.placeAll_room .needsImage false disposed).1 first hl
      exact (second.assign hl).look
    · rw [(State.look_worksIn _ a).only, State.setBay_bay_ne _ _ e,
        (State.assign_worksIn _ a).only, State.setBay_bay_ne _ _ e, s.passes_bay_ne e]
      exact h
  · exact h

/-- So it does through what follows the job's end (03 R51, 01 R6, R18). -/
theorem State.afterEnd_keepsEnded {s : State} {b : BayId} {x : Bay} {p : Place} {l : Job}
    (shelter : (s.bay b).sheltered) (h : x.keepsEnded (s.bay b) p l) (hl : l.live = false) :
    x.keepsEnded ((s.afterEnd b).bay b) p l := by
  have assigned : ((s.assign b).bay b).sheltered := Bay.sheltered_of_lists
    (State.lists_eq_iff.mp (State.lists_of_outline (s.assign_outline b)) b) shelter
  have kept := h.assign hl
  rw [State.afterEnd]
  generalize s.assign b = u at *
  have replaced : (u.applyReplacements.bay b).sheltered ∧
      x.keepsEnded (u.applyReplacements.bay b) p l := by
    obtain ⟨m, -, e⟩ := u.applyReplacements_cases
    rcases e with e | e <;> rw [e]
    · exact ⟨assigned, kept⟩
    · exact State.forBays_inv
        (fun t => (t.bay b).sheltered ∧ x.keepsEnded (t.bay b) p l) _ _
        (fun a t ⟨ht, kt⟩ => ⟨(t.build_grows a b ht).1, State.build_keepsEnded ht kt hl⟩)
        ⟨assigned, kept⟩
  exact State.build_keepsEnded replaced.1 replaced.2 hl

/-- It posts nothing. -/
theorem State.afterEnd_notices (s : State) (b : BayId) : (s.afterEnd b).notices = s.notices := by
  rw [State.afterEnd, State.notices_of_builderFrame (State.build_builderFrame _ b)]
  obtain ⟨m, -, e⟩ := (s.assign b).applyReplacements_cases
  have assigned := State.notices_of_builderFrame (s.assign_builderFrame b)
  rcases e with e | e <;> rw [e]
  · exact assigned
  · exact (State.notices_of_builderFrame (State.buildAll_builderFrame _)).trans assigned

end Sys2Proof.Machine

namespace Sys2Proof.Machine

/-! SUPPORT. The end of a job that may hold a channel (03 R51, R58, R62). -/

/-! ## Queued entries and the channel given up -/

theorem State.dropEntry_shed (s : State) (b : BayId) (e : TxEntry) :
    (s.bay b).shed ((s.dropEntry b e).bay b) fun t => decide (t = e) := by
  rw [State.dropEntry, State.leaveSlot_bay]
  exact s.unqueue_shed b e

/-- Dropping the entries that meet a test sheds exactly those. -/
theorem State.dropEntries_shed (s : State) (b : BayId) (q : TxEntry → Bool) :
    (s.bay b).shed ((s.dropEntries b q).bay b) q := by
  refine (State.foldl_shed (fun t e => t.dropEntry_shed b e) _ s).congr fun e he => ?_
  cases h : q e with
  | true => simp [h, he]
  | false =>
    refine List.any_eq_false.mpr fun x hx same => ?_
    rw [of_decide_eq_true same, (List.mem_filter.mp hx).2] at h
    cases h

/-- Entries of a place dropped leave every other job. -/
theorem State.dropEntries_job_ne (s : State) (b : BayId) {p r : Place} (h : r ≠ p) :
    (s.dropEntries b (·.place = p)).job b r = s.job b r := by
  unfold State.dropEntries
  refine List.foldlRecOn (motive := fun t : State => t.job b r = s.job b r) _ _ rfl
    fun t ht e he => ?_
  obtain ⟨-, place⟩ := List.mem_filter.mp he
  rw [State.dropEntry_job_ne t b e (by rw [of_decide_eq_true place]; exact h.symm), ht]

/-- A job of another place once the deferred flags are cleared (03 R57). -/
def Job.undeferred (j : Job) : Job := { j with deferred := false }

/-- A freed channel changes no other job but in its deferred flag. -/
theorem State.freeChannel_job_ne {s : State} {b : BayId} {c : ChannelId} {p r : Place} {j : Job}
    {ch : Channel} (hch : s.channel b c = some ch) (hj : s.job b p = some j) (h : r ≠ p) :
    (s.freeChannel b c p).job b r = (s.job b r).map Job.undeferred := by
  have needed : ∀ (l : List Flight) (t : State),
      (l.foldl (fun t f => t.makeNeeded b p (j.offsetOf f.sequence)) t).job b r = t.job b r :=
    fun l t => foldl_keeps (·.job b r) _ (fun t _ => t.makeNeeded_job_ne b _ h.symm) l t
  have abandoned : ∀ t : State, (t.abandonProbe b c).job b r = t.job b r := by
    intro t
    obtain ⟨d, n, e, -⟩ := t.abandonProbe_writes b c
    rw [e, State.job, State.setBay_bay, State.job]
  simp only [State.freeChannel, hch, hj]
  generalize hu : ch.inFlight.foldl _ _ = u
  have job : u.job b r = s.job b r := by
    rw [← hu, needed, abandoned, State.modChannel_eq, State.modBay_eq, State.job,
      State.setBay_bay, State.job]
  rw [State.job] at job
  simp [State.job, State.removeControl, State.clearDeferred, h.symm, job]
  rfl

/-- A bay's work on the end of its job in place p, up to the record: its queued entries are gone and
the channel is free, and nothing has been posted. -/
structure State.releases (s u : State) (b : BayId) (p : Place) (j : Job) : Prop where
  job : ∃ g d, u.job b p = some { j with gaps := g, channel := none, deferred := d }
  works : (s.bay b).works (u.bay b)
  queue : (u.bay b).txQueue = (s.bay b).txQueue.filter fun e => decide (e.place ≠ p)
  kept : j.channel = none → ∀ r, r ≠ p → u.job b r = s.job b r
  freed : ∀ c ch, j.channel = some c → s.channel b c = some ch →
    u.channel b c = some (ch.freed (s.bay b).creditsPer) ∧
      ∀ r, r ≠ p → u.job b r = (s.job b r).map Job.undeferred
  clock : u.clock = s.clock
  notices : u.notices = s.notices

theorem State.releases_of_job {s : State} {b : BayId} {p : Place} {j : Job}
    (hj : s.job b p = some j) (hc : ∀ c, j.channel = some c → ∃ ch, s.channel b c = some ch) :
    s.releases ((s.dropEntries b (·.place = p)).freeJobChannel b p) b p j := by
  have shed := s.dropEntries_shed b (·.place = p)
  have others := fun r (h : r ≠ p) => s.dropEntries_job_ne b h
  obtain ⟨works, g, dropped⟩ := State.dropEntries_spec hj (·.place = p)
  have clock : (s.dropEntries b (·.place = p)).clock = s.clock := by simp
  have notices : (s.dropEntries b (·.place = p)).notices = s.notices := by simp
  generalize s.dropEntries b (·.place = p) = u at *
  have queue : (u.bay b).txQueue = (s.bay b).txQueue.filter fun e => decide (e.place ≠ p) := by
    rw [shed.queue]
    exact List.filter_congr fun e _ => by simp
  cases channel : j.channel with
  | none =>
    rw [State.freeJobChannel_none dropped channel]
    exact ⟨⟨g, j.deferred, by rw [dropped, ← channel]⟩, works, queue, fun _ => others,
      fun _ _ h => absurd (channel.symm.trans h) nofun, clock, notices⟩
  | some c =>
    obtain ⟨ch, hch⟩ := hc c channel
    have held : u.channel b c = some ch := by rw [State.channel, shed.channels]; exact hch
    have free : u.freeJobChannel b p = u.freeChannel b c p := by
      simp [State.freeJobChannel, dropped, channel]
    obtain ⟨work, job, freed⟩ := State.freeChannel_writes held dropped
    rw [free]
    refine ⟨⟨_, _, job⟩, works.trans work.bay, work.queue.trans queue,
      fun h => absurd (channel.symm.trans h) nofun, fun d dh hd hdh => ?_, ?_, ?_⟩
    · cases channel.symm.trans hd
      cases hch.symm.trans hdh
      refine ⟨?_, fun r hr => ?_⟩
      · rw [freed, Bay.creditsPer, works.ctl, Bay.creditsPer]
      · rw [State.freeChannel_job_ne held dropped hr, others r hr]
    · rw [work.only]; exact clock
    · rw [work.only]; exact notices

/-! ## The record of the job that ends -/

/-- A bay whose job in place p has ended at a time, once its entries and its channel are given up.
-/
def Bay.endedIn (x : Bay) (p : Place) (time : Word) : Bay :=
  { x with
    jobs := x.jobs.modify p (Option.map fun j => j.ended j.gaps time),
    inventory := x.inventory.map fun r => if r.job = some p then { r with job := none } else r,
    endOrder := x.endOrder ++ [p] }

theorem State.endJob_eq {s u : State} {b : BayId} {p : Place} {j : Job} (hj : s.job b p = some j)
    (hu : (s.dropEntries b (·.place = p)).freeJobChannel b p = u) :
    s.endJob b p = ((u.setBay b ((u.bay b).endedIn p s.clock.seconds)).judgeMoved s [b]
      j.stream).post (j.endNotice b (s.bay b).ctl.vehicle p) := by
  simp only [State.endJob, hj, hu]
  simp only [State.dropReferences, State.modInventory_eq, State.modJob_eq, State.modBay_eq,
    State.setBay_bay, State.setBay_setBay]
  rfl

/-- The outcome of the model is the one that the claims name (03 R51). -/
theorem Job.outcome_eq_endsAs (j : Job) : j.outcome = j.endsAs := by
  simp only [Job.outcome, Job.endsAs, List.all_eq_true, decide_eq_true_eq]

/-- A record l that the end of a job j at a time leaves (03 R51). -/
structure Job.endsTo (j l : Job) (time : Word) : Prop where
  live : l.live = false
  state : l.state = j.endsAs
  time : l.endTime = some time
  channel : l.channel = none
  members : l.members = j.members.map fun m => { m with link := none }
  rest : { l with state := j.state, endTime := j.endTime, members := j.members, gaps := j.gaps,
                  channel := j.channel, deferred := j.deferred } = j

/-- What the end of the job in place p makes of its bay and of the notices, and what later work
leaves of that: the record, a queue without its entries, units that name it no more; out of SERVING
every other job, and the channel freed. -/
structure State.endsIn (s t : State) (b : BayId) (p : Place) (j l : Job) : Prop where
  record : j.endsTo l s.clock.seconds
  job : t.job b p = some l
  ctl : (t.bay b).ctl = (s.bay b).ctl
  queue : (t.bay b).txQueue = (s.bay b).txQueue.filter fun e => decide (e.place ≠ p)
  unreferred : ∀ r ∈ (t.bay b).inventory, r.job ≠ some p
  versions : (t.bay b).inventory.map UnitRecord.versions =
    (s.bay b).inventory.map UnitRecord.versions
  kept : (s.bay b).ctl.state ≠ .serving → j.channel = none → ∀ r, r ≠ p → t.job b r = s.job b r
  freed : (s.bay b).ctl.state ≠ .serving → ∀ c ch, j.channel = some c → s.channel b c = some ch →
    t.channel b c = some (ch.freed (s.bay b).creditsPer) ∧
      ∀ r, r ≠ p → t.job b r = (s.job b r).map Job.undeferred
  notice : s.notices.mask.getLsbD 3 = true → s.notices.queue.length < 31 →
    ⟨s.clock.seconds, s.clock.valid, j.endNotice b (s.bay b).ctl.vehicle p⟩ ∈ t.notices.queue

/-- The notice of a job's end is posted where there is room for two. -/
theorem State.endJob_posts {s u : State} {b : BayId} {p : Place} {j : Job}
    (hj : s.job b p = some j) (hu : (s.dropEntries b (·.place = p)).freeJobChannel b p = u)
    (h : s.releases u b p j) (mask : s.notices.mask.getLsbD 3 = true)
    (room : s.notices.queue.length < 31) :
    ⟨s.clock.seconds, s.clock.valid, j.endNotice b (s.bay b).ctl.vehicle p⟩ ∈
      (s.endJob b p).notices.queue := by
  rw [State.endJob_eq hj hu]
  generalize hv : u.setBay b ((u.bay b).endedIn p s.clock.seconds) = v
  have notices : v.notices = s.notices := by rw [← hv]; exact h.notices
  have clock : v.clock = s.clock := by rw [← hv]; exact h.clock
  obtain ⟨mask', length⟩ := v.judgeMoved_notices s [b] j.stream
  rw [notices] at mask' length
  have posted := State.mem_post (s := v.judgeMoved s [b] j.stream)
    (n := j.endNotice b (s.bay b).ctl.vehicle p) (by rw [mask']; exact mask) (by omega)
  rwa [State.judgeMoved_clock, clock] at posted

theorem State.endJob_endsIn {s : State} {b : BayId} {p : Place} {j : Job}
    (hj : s.job b p = some j) (hc : ∀ c, j.channel = some c → ∃ ch, s.channel b c = some ch) :
    ∃ l, s.endsIn (s.endJob b p) b p j l := by
  have released := State.releases_of_job hj hc
  have posted := State.endJob_posts hj rfl released
  have bay := congrArg (State.bay · b) (State.endJob_eq hj rfl)
  generalize (s.dropEntries b (·.place = p)).freeJobChannel b p = u at *
  simp only [State.post_bay, State.judgeMoved_bay, State.setBay_bay] at bay
  obtain ⟨⟨g, d, job⟩, works, queue, kept, freed, -, -⟩ := released
  have others : ∀ r, r ≠ p → (s.endJob b p).job b r = u.job b r := fun r hr => by
    rw [State.job, bay]; exact Table.get_modify_ne _ _ hr.symm
  refine ⟨({ j with gaps := g, channel := none, deferred := d } : Job).ended g s.clock.seconds,
    ⟨Job.ended_live .., Job.outcome_eq_endsAs j, rfl, rfl, rfl, rfl⟩, ?_,
    by rw [bay]; exact works.ctl, by rw [bay]; exact queue, fun r hr => ?_, ?_,
    fun _ hn r hr => (others r hr).trans (kept hn r hr), fun _ c ch h hch => ?_, posted⟩
  · rw [State.job] at job
    simp only [State.job, bay, Bay.endedIn, Table.get_modify_self, job, Option.map_some]
  · rw [bay] at hr
    obtain ⟨n, -, rfl⟩ := List.mem_map.mp hr
    split
    · nofun
    · assumption
  · rw [bay, ← works.inventory]
    refine (List.map_map ..).trans (List.map_congr_left fun r _ => ?_)
    rw [Function.comp_apply]
    split <;> rfl
  · obtain ⟨free, cleared⟩ := freed c ch h hch
    exact ⟨by rw [State.channel, bay]; exact free, fun r hr => (others r hr).trans (cleared r hr)⟩

/-! ## What follows the end of a job -/

section EndsIn
variable {s t v : State} {b : BayId} {p : Place} {j l : Job}

theorem State.endsIn.unit? (h : s.endsIn t b p j l) (u : UnitAddr) :
    ((t.bay b).unit? u).map UnitRecord.versions = ((s.bay b).unit? u).map UnitRecord.versions :=
  Bay.unit?_versions h.versions u

/-- It holds of a later state whose bay keeps the job and whose notices are the same. -/
theorem State.endsIn.later (h : s.endsIn t b p j l) (kept : (t.bay b).keepsEnded (v.bay b) p l)
    (notices : v.notices = t.notices)
    (away : (s.bay b).ctl.state ≠ .serving →
      (v.bay b).jobs = (t.bay b).jobs ∧ (v.bay b).channels = (t.bay b).channels) :
    s.endsIn v b p j l where
  record := h.record
  job := kept.job
  ctl := kept.ctl.trans h.ctl
  queue := kept.queue.trans h.queue
  unreferred := kept.unreferred
  versions := kept.versions.trans h.versions
  kept out := by
    obtain ⟨jobs, -⟩ := away out
    have same := h.kept out
    simp only [State.job, jobs] at same ⊢
    exact same
  freed out := by
    obtain ⟨jobs, channels⟩ := away out
    have same := h.freed out
    simp only [State.job, State.channel, jobs, channels] at same ⊢
    exact same
  notice := notices ▸ h.notice

theorem State.endsIn.keepsEnded (h : s.endsIn t b p j l) : (t.bay b).keepsEnded (t.bay b) p l :=
  ⟨h.job, h.unreferred, rfl, rfl, rfl⟩

/-- It holds after what follows the end in a sheltered bay. -/
theorem State.endsIn.afterEnd (h : s.endsIn t b p j l) (shelter : (t.bay b).sheltered) :
    s.endsIn (t.afterEnd b) b p j l := by
  refine h.later (State.afterEnd_keepsEnded shelter h.keepsEnded h.record.live)
    (t.afterEnd_notices b) fun out => ?_
  obtain ⟨bay, -⟩ := State.afterEnd_away (s := t) (b := b) (by rwa [h.ctl])
  rw [bay]
  exact ⟨rfl, rfl⟩

/-- It holds with the controller and the port changed. -/
theorem State.endsIn.setPort (h : s.endsIn t b p j l) (a : Activation) (x : Port) :
    s.endsIn (t.setBay b { t.bay b with activation := a, port := x }) b p j l :=
  h.later (by rw [State.setBay_bay]; exact ⟨h.job, h.unreferred, rfl, rfl, rfl⟩) rfl
    fun _ => by rw [State.setBay_bay]; exact ⟨rfl, rfl⟩

end EndsIn

theorem State.closeAfter_ends {s : State} {b : BayId} {p : Place} {j : Job}
    (hj : s.job b p = some j) (hc : ∀ c, j.channel = some c → ∃ ch, s.channel b c = some ch)
    (hl : j.live = true) (ht : j.allTerminal = true) :
    s.closeAfter b p = (s.endJob b p).afterEnd b := by
  have out : s.closeOut b p = s.endJob b p := by simp [State.closeOut, hj, hl, ht]
  obtain ⟨l, ends⟩ := State.endJob_endsIn hj hc
  simp [State.closeAfter, out, ends.job, ends.record.live]

/-- A bay with room for its unit records beside its jobs, or out of SERVING, is sheltered where it
has kept its roster. -/
theorem Bay.sheltered_of_roster {x y : Bay} (h : y.roster = x.roster)
    (hx : x.ctl.state ≠ .serving ∨ x.inventory.length + x.jobList.length ≤ 8) : y.sheltered := by
  have hc : y.ctl = x.ctl := congrArg Prod.fst h
  have hi : y.inventory.length = x.inventory.length := congrArg (·.2.1) h
  have ho : y.occupied = x.occupied :=
    Bay.occupied_of_members fun p => by rw [Bay.states_of_roster h p]
  refine hx.imp (fun g => by rwa [hc]) fun g => ?_
  have free : Multiset.card (freeUnits y.inventory) ≤ y.inventory.length := by
    simpa [freeUnits] using List.length_filter_le ..
  rw [Bay.jobList_length] at g
  unfold Bay.room
  rw [ho, Multiset.union_zero]
  omega

/-- The end of a job as it stands once its bay has been served. -/
theorem State.closeAfter_endsIn {s : State} {b : BayId} {p : Place} {j : Job}
    (hj : s.job b p = some j) (hc : ∀ c, j.channel = some c → ∃ ch, s.channel b c = some ch)
    (hl : j.live = true) (ht : j.allTerminal = true)
    (shelter : (s.bay b).ctl.state ≠ .serving ∨
      (s.bay b).inventory.length + (s.bay b).jobList.length ≤ 8) :
    ∃ l, s.endsIn (s.closeAfter b p) b p j l := by
  obtain ⟨l, ends⟩ := State.endJob_endsIn hj hc
  rw [State.closeAfter_ends hj hc hl ht]
  exact ⟨l, ends.afterEnd (Bay.sheltered_of_roster ((s.windsDown_endJob b p).roster b) shelter)⟩

end Sys2Proof.Machine

namespace Sys2Proof.Machine

/-! SUPPORT and PROOF. A report that ends an activation, and the end of its job (05 R95, R97, R99,
03 R51). -/

/-! ## The outcome that a report shows (05 R95, R97) -/

/-- A report ends the activation of a unit with an outcome: of an ACTIVATING controller by the
target and the previous version, of a REVERTING one by the previous version. -/
def State.reportEnds (s : State) (b : BayId) (f : UnitReportFrame) (a : ActTarget)
    (previous : Version) (o : UnitState) (cause : ResultCause) : Prop :=
  ((∃ timer, (s.bay b).activation = .activating a previous timer) ∧
      cause = .reportActivating ∧
      ((f.running = a.target ∧ o = .done) ∨
        (f.running ≠ a.target ∧ f.running = previous ∧ o = .reverted) ∨
        (f.running ≠ a.target ∧ f.running ≠ previous ∧ o = .fault))) ∨
    ((∃ timer, (s.bay b).activation = .reverting a previous timer) ∧
      cause = .reportReverting ∧
      ((f.running = previous ∧ o = .reverted) ∨ (f.running ≠ previous ∧ o = .fault)))

/-- Such a report is noted on its bay, where a REVERT still unsent goes, and ends the activation. -/
theorem State.reportEnds.outcome {s : State} {b : BayId} {f : UnitReportFrame} {a : ActTarget}
    {previous : Version} {o : UnitState} {cause : ResultCause} {r : UnitRecord}
    (h : s.reportEnds b f a previous o cause) (hears : s.hears b)
    (takes : (s.bay b).ctl.state.takesReports = true) (hu : a.unit.val = f.unit.toNat)
    (hr : (s.bay b).unit? a.unit = some r) :
    ∃ y, (s.bay b).noted y ∧
      exec (.unitReport b f) s =
        .next ((s.setBay b y).outcome b a previous o cause (some f)) ∧
      y.counters = (s.bay b).counters.modify BayCounter.validFrames.index satInc ∧
      (cause = .reportReverting → ∀ v, ControlFrame.revert a.unit v ∉ y.port.control) := by
  have heard : exec (.unitReport b f) s =
      .next ((s.setBay b ((s.bay b).heard s.config.threshold)).judgeReport b f) :=
    congrArg _ (State.receive_hears s b (fun t => t.judgeReport b f) hears)
  have takes' : ((s.setBay b ((s.bay b).heard s.config.threshold)).bay b).ctl.state.takesReports =
      true := by rwa [State.setBay_bay]
  have hr' : ((s.setBay b ((s.bay b).heard s.config.threshold)).bay b).unit? a.unit = some r := by
    rwa [State.setBay_bay]
  rcases h with ⟨⟨timer, ha⟩, rfl, verdict⟩ | ⟨⟨timer, ha⟩, rfl, verdict⟩
  · refine ⟨(s.bay b).heard s.config.threshold, Bay.noted_heard .., ?_, rfl, nofun⟩
    rw [heard, State.judgeReport_activating (timer := timer) takes' hu hr'
      (by rwa [State.setBay_bay]), State.reportActivating]
    rcases verdict with ⟨e, rfl⟩ | ⟨e, e', rfl⟩ | ⟨e, e', rfl⟩
    · rw [if_pos e]
    · rw [if_neg e, if_pos e']
    · rw [if_neg e, if_neg e']
  · have shown : (if f.running = previous then UnitState.reverted else .fault) = o := by
      rcases verdict with ⟨e, rfl⟩ | ⟨e, rfl⟩
      · exact if_pos e
      · exact if_neg e
    rw [heard, State.judgeReport_reverting (timer := timer) takes' hu hr'
      (by rwa [State.setBay_bay]), State.reportReverting, shown, State.removeControl,
      State.modPort_eq, State.modBay_eq, State.setBay_bay, State.setBay_setBay]
    refine ⟨_, ?_, rfl, rfl, fun _ v hv => ?_⟩
    · exact ⟨rfl, rfl, rfl, rfl, rfl⟩
    obtain ⟨-, stays⟩ := List.mem_filter.mp hv
    simp at stays

/-- What the outcome of a report writes, with the counter that it raises. -/
theorem outcomeWrites_report (a : ActTarget) (previous : Version) (f : UnitReportFrame)
    {o : UnitState} {n : BayCounter} (h : (o = .done ∧ n = .outcomesDone) ∨
      (o = .reverted ∧ n = .outcomesReverted) ∨ (o = .fault ∧ n = .outcomesFault)) :
    ∃ g, OutcomeWrites a previous o (some f) n g ∧
      (o = .done → g = fun r => { r with running := a.target, standby := some previous }) ∧
      (o = .reverted → g = fun r => { r with standby := some a.target, blocked := true }) ∧
      (o = .fault → g = fun r =>
        { r with running := f.running, standby := reportedStandby f, blocked := true }) := by
  rcases h with ⟨rfl, rfl⟩ | ⟨rfl, rfl⟩ | ⟨rfl, rfl⟩
  · exact ⟨_, outcomeWrites_done .., fun _ => rfl, nofun, nofun⟩
  · exact ⟨_, outcomeWrites_reverted .., nofun, fun _ => rfl, nofun⟩
  · exact ⟨_, outcomeWrites_fault .., nofun, nofun, fun _ => rfl⟩

/-! ## The outcome that ends its job (03 R51) -/

theorem Bay.noted.unit? {x y : Bay} (h : x.noted y) (u : UnitAddr) : y.unit? u = x.unit? u :=
  congrArg (List.find? _) h.inventory

/-- The controller and the numbers of records and jobs of a bay are those before an outcome. -/
theorem Bay.noted.concluded_sizes {x y : Bay} (h : x.noted y) (t : ActTarget) (o : UnitState)
    (k : BayCounter) (f : UnitRecord → UnitRecord) :
    (y.concluded t o k f).ctl = x.ctl ∧
      (y.concluded t o k f).inventory.length + (y.concluded t o k f).jobList.length =
        x.inventory.length + x.jobList.length := by
  have occupied : (y.concluded t o k f).occupied = x.occupied :=
    Bay.occupied_of_members (f := id) fun p => by
      rw [Bay.concluded_job, h.jobs]
      cases x.jobs.get p <;> rfl
  refine ⟨h.ctl, ?_⟩
  rw [Bay.jobList_length, Bay.jobList_length, occupied, Bay.concluded, h.inventory,
    List.length_map]

/-- What a controller's becoming IDLE and its look leave of the state. -/
theorem State.standDown_look (v : State) (b : BayId) (o : UnitState) :
    ∃ a c, (v.setBay b ((v.bay b).stoodDown o)).look b =
        v.setBay b { v.bay b with activation := a, port := c } ∧
      (o = .fault → ∃ own, ControlFrame.inventoryRequest own ∈ c.control) ∧
      (a = .idle ∨ ((v.bay b).ctl.state = .serving ∧ (v.bay b).ctl.vehicleState = some .parked ∧
        ∃ d, a = .selected d false)) := by
  have next := State.look_next (s := v.setBay b ((v.bay b).stoodDown o)) (b := b)
    (by rw [State.setBay_bay]; rfl)
  obtain ⟨a, l, look, -⟩ := (v.setBay b ((v.bay b).stoodDown o)).look_writes b
  simp only [State.setBay_bay, State.setBay_setBay] at look
  rw [look, State.setBay_bay, State.setBay_bay] at next
  refine ⟨a, _, look, fun fault => ?_, next⟩
  subst fault
  obtain ⟨own, waits⟩ := (v.bay b).stoodDown_asks
  exact ⟨own, List.mem_append_left l waits⟩

section Ends
variable {s t : State} {b : BayId} {y : Bay} {a : ActTarget} {previous : Version} {o : UnitState}
  {cause : ResultCause} {report : Option UnitReportFrame} {k : BayCounter}
  {f : UnitRecord → UnitRecord} {j l : Job} {m : Member} {n : Notice}

/-- The end of a job read from the state before the outcome that has ended it, the notice where
there is room for three. -/
theorem State.endsIn.before (hy : (s.bay b).noted y) (hf : ∀ r, (f r).unit = r.unit)
    (h : ((s.post n).setBay b (y.concluded a o k f)).endsIn t b a.place (j.concluded a.unit o) l) :
    (j.concluded a.unit o).endsTo l s.clock.seconds ∧
      (t.bay b).ctl = (s.bay b).ctl ∧
      (t.bay b).txQueue = (s.bay b).txQueue.filter (fun e => decide (e.place ≠ a.place)) ∧
      (∀ r, (s.bay b).unit? a.unit = some r →
        ∃ u, (t.bay b).unit? a.unit = some u ∧ u.versions = (f r).versions) ∧
      ((s.bay b).ctl.state ≠ .serving →
        (j.channel = none → ∀ q, q ≠ a.place → t.job b q = s.job b q) ∧
        (∀ c ch, j.channel = some c → s.channel b c = some ch →
          t.channel b c = some (ch.freed (s.bay b).creditsPer) ∧
          ∀ q, q ≠ a.place → t.job b q = (s.job b q).map Job.undeferred)) ∧
      (s.notices.mask.getLsbD 3 = true → s.notices.queue.length < 30 →
        ⟨s.clock.seconds, s.clock.valid,
          (j.concluded a.unit o).endNotice b (s.bay b).ctl.vehicle a.place⟩ ∈ t.notices.queue) := by
  obtain ⟨mask', length⟩ := s.post_notices n
  have units := h.unit? a.unit
  obtain ⟨record, -, ctl, queue, -, -, kept, freed, notice⟩ := h
  simp only [State.setBay_bay, State.setBay_clock, State.post_clock, State.setBay_notices,
    State.job, State.channel, Bay.creditsPer, Bay.concluded_job,
    Bay.concluded_unit? (x := y) (k := k) (o := o) hf rfl, hy.unit?, if_true]
    at record units ctl queue kept freed notice
  rw [show (y.concluded a o k f).ctl = (s.bay b).ctl from hy.ctl] at ctl kept freed notice
  rw [show (y.concluded a o k f).txQueue = (s.bay b).txQueue from hy.queue] at queue
  rw [hy.jobs] at kept freed
  rw [show (y.concluded a o k f).channels = (s.bay b).channels from hy.channels] at freed
  refine ⟨record, ctl, queue, fun r hr => ?_,
    fun away => ⟨fun hn q hq => ?_, fun c ch hc hch => ?_⟩,
    fun mask room => notice (mask' ▸ mask) (by omega)⟩
  · rw [hr] at units
    exact Option.map_eq_some_iff.mp units
  · refine (kept away hn q hq).trans ?_
    simp [State.job, hq]
  · obtain ⟨free, others⟩ := freed away c ch hc hch
    refine ⟨free, fun q hq => (others q hq).trans ?_⟩
    simp [State.job, hq]

/-- An outcome that leaves its job without a member to judge ends the job, and the controller is
IDLE or has selected again. -/
theorem State.outcome_ends (hy : (s.bay b).noted y) (hw : OutcomeWrites a previous o report k f)
    (hj : s.job b a.place = some j) (hm : j.member? a.unit = some m) (hl : j.live = true)
    (hc : ∀ c, j.channel = some c → ∃ ch, s.channel b c = some ch)
    (ht : (j.concluded a.unit o).allTerminal = true)
    (shelter : (s.bay b).ctl.state ≠ .serving ∨
      (s.bay b).inventory.length + (s.bay b).jobList.length ≤ 8)
    (hn : n = a.result b (s.bay b).ctl.vehicle previous o cause report m.link)
    (eq : (s.setBay b y).outcome b a previous o cause report = t) :
    (∃ l, ((s.post n).setBay b (y.concluded a o k f)).endsIn t b a.place
        (j.concluded a.unit o) l) ∧
      (o = .fault → ∃ own, ControlFrame.inventoryRequest own ∈ (t.bay b).port.control) ∧
      ((t.bay b).activation = .idle ∨
        ((s.bay b).ctl.state = .serving ∧ (s.bay b).ctl.vehicleState = some .parked ∧
          ∃ d, (t.bay b).activation = .selected d false)) := by
  subst hn
  have job := State.concluded_job (o := o) (k := k) (f := f) hy hj
    (a.result b (s.bay b).ctl.vehicle previous o cause report m.link)
  generalize hu : (s.post (a.result b (s.bay b).ctl.vehicle previous o cause report m.link)).setBay
    b (y.concluded a o k f) = u at *
  have bay : u.bay b = y.concluded a o k f := by rw [← hu, State.setBay_bay]
  obtain ⟨ctl, sizes⟩ := hy.concluded_sizes a o k f
  rw [← bay] at ctl sizes
  have held : ∀ c, j.channel = some c → ∃ ch, u.channel b c = some ch := fun c h => by
    rw [State.channel, bay, show (y.concluded a o k f).channels = _ from hy.channels]
    exact hc c h
  obtain ⟨l, ends⟩ := State.closeAfter_endsIn job held hl ht (by rwa [ctl, sizes])
  have run := State.outcome_noted (cause := cause) hy hw hj hm hu rfl
  generalize u.closeAfter b a.place = v at *
  obtain ⟨act, port, look, asks, next⟩ := v.standDown_look b o
  rw [eq, look] at run
  rw [run, State.setBay_bay]
  rw [ends.ctl, ctl] at next
  exact ⟨⟨l, ends.setPort act port⟩, asks, next⟩

end Ends

/-- Settles O53: a report and the second expiry end the activation with an outcome on the noted bay;
its job goes on, or ends and is kept by the builder runs that follow. -/
theorem activationDone : Obligations.ActivationDone := by
  refine ⟨?goesOn, ?ends⟩
  case goesOn =>
    intro s b f a previous r j m o cause n hears hst hu hr hj hl hm others stays ends counter
    have takes : (s.bay b).ctl.state.takesReports = true := by
      rcases hst with h | h | h <;> rw [h] <;> rfl
    obtain ⟨y, noted, run, heard, unsent⟩ :=
      State.reportEnds.outcome (s := s) (b := b) (f := f) ends hears takes hu hr
    obtain ⟨g, writes, hdone, hreverted, hfault⟩ := outcomeWrites_report a previous f counter
    have ended := State.outcome_goesOn (cause := cause) noted writes hj hl hm others stays
    obtain ⟨job, units, selects, asks, reverts, counters, notices, ctl, queue, bays, loads, blocks,
      uplink⟩ := State.outcome_goesOn_spec noted writes hj ended.symm
    have record := units a.unit
    rw [hr, Option.map_some, if_pos rfl] at record
    refine ⟨_, run, job, fun ho => ?_, fun ho => ?_, fun ho => ?_, fun u other => ?_, asks,
      fun reverting v hv => unsent reverting v (reverts _ v hv), selects, ?_, notices, ctl, queue,
      bays, loads, blocks, uplink⟩
    · rw [record, hdone ho]
    · rw [record, hreverted ho]
    · rw [record, hfault ho]; rfl
    · rw [units u]; simp [other]
    · have fresh : n ≠ .validFrames := by
        rcases counter with ⟨-, rfl⟩ | ⟨-, rfl⟩ | ⟨-, rfl⟩ <;> decide
      rw [State.bayCounter, counters, Table.get_modify_self, heard, counters_modify_ne fresh]
      rfl
  case ends =>
    rintro s b i a previous r w j k m o ends hst hr hj hl hc hm rfl terminal
    have takes : (s.bay b).ctl.state.takesReports = true := by
      rcases hst with h | h | ⟨h, -⟩ <;> rw [h] <;> rfl
    have shelter : (s.bay b).ctl.state ≠ .serving ∨
        (s.bay b).inventory.length + (s.bay b).jobList.length ≤ 8 := by
      rcases hst with h | h | ⟨-, h⟩
      · exact .inl (by rw [h]; nofun)
      · exact .inl (by rw [h]; nofun)
      · exact .inr h
    obtain ⟨y, cause, report, n, g, noted, writes, rfl, run⟩ : ∃ y cause report n g,
        (s.bay b).noted y ∧ OutcomeWrites a previous o report n g ∧ w = g r ∧
          exec i s = .next ((s.setBay b y).outcome b a previous o cause report) := by
      rcases ends with ⟨f, rfl, hears, hu, verdict, record⟩ | ⟨rfl, rfl, rfl, timer, ha⟩
      · obtain ⟨cause, shows⟩ : ∃ cause, s.reportEnds b f a previous o cause := by
          rcases verdict with ⟨ha, v⟩ | ⟨ha, v⟩
          · exact ⟨_, .inl ⟨ha, rfl, v⟩⟩
          · exact ⟨_, .inr ⟨ha, rfl, v⟩⟩
        obtain ⟨y, noted, run, -, -⟩ := shows.outcome hears takes hu hr
        rcases record with ⟨rfl, rfl⟩ | ⟨rfl, rfl⟩ | ⟨rfl, rfl⟩
        · exact ⟨y, cause, _, _, _, noted, outcomeWrites_done .., rfl, run⟩
        · exact ⟨y, cause, _, _, _, noted, outcomeWrites_reverted .., rfl, run⟩
        · exact ⟨y, cause, _, _, _, noted, outcomeWrites_fault .., rfl, run⟩
      · exact ⟨_, .secondExpiry, none, _, _, (s.bay b).noted_counted .activationTimeouts,
          outcomeWrites_expired .., rfl, congrArg Host.Outcome.next (State.secondExpiry_eq ha)⟩
    obtain ⟨⟨l, ended⟩, asks, next⟩ := State.outcome_ends (cause := cause) noted writes hj hm hl hc
      (List.all_eq_true.mpr terminal) shelter rfl rfl
    obtain ⟨⟨-, state, time, channel, members, rest⟩, ctl, queue, units, away, notice⟩ :=
      State.endsIn.before noted writes.unit ended
    obtain ⟨u, unit, versions⟩ := units r hr
    refine ⟨_, l, u, run, ended.job, state, time, channel, members,
      congrArg (fun i : Job => { i with members := j.members }) rest, queue, ended.unreferred, unit,
      congrArg Prod.snd versions, asks, next, ctl, away, fun mask room => ?_⟩
    have posted := notice mask (Nat.lt_succ_of_lt room)
    rwa [Job.endNotice, Job.outcome_eq_endsAs] at posted

end Sys2Proof.Machine

namespace Sys2Proof.Machine

/-! SUPPORT and PROOFS. The bay port: the transmitter's choice, training, the switching of the line
rate, and frame errors (06 R110 to R118, R123 to R126). -/

/-! ## The transmitter's choice (06 R123) -/

/-- In training the link frame alone may be sent. -/
theorem Bay.txChoice_training {x : Bay} (h : x.port.phase = .probing ∨ x.port.phase = .switching) :
    x.txChoice = x.port.linkFrame.map .link := by
  rcases h with h | h <;> simp [Bay.txChoice, h]

/-- Outside training and qualification nothing may be sent. -/
theorem Bay.txChoice_silent {x : Bay} (h : x.port.phase = .down ∨ x.port.phase = .forced ∨
    (x.port.phase = .trained ∧ x.port.qualified = false)) : x.txChoice = none := by
  rcases h with h | h | ⟨h, q⟩
  · simp [Bay.txChoice, h]
  · simp [Bay.txChoice, h]
  · simp [Bay.txChoice, h, q]

section Queues
variable {x : Bay} (ht : x.port.phase = .trained) (hq : x.port.qualified = true)
  (hc : x.port.control = [])
include ht hq hc

/-- A block with credit goes first, unless eight of them have kept a PASS-DOWN waiting. -/
theorem Bay.txChoice_block {e : TxEntry} (he : x.nextBlock = some e)
    (hp : x.port.passDown = [] ∨ x.port.blockRun ≠ 8) : x.txChoice = some (.block e) := by
  cases hd : x.port.passDown with
  | nil => simp [Bay.txChoice, ht, hq, hc, he, hd]
  | cons body rest =>
    have run : x.port.blockRun ≠ Config.blockRun := hp.resolve_left (by simp [hd])
    simp [Bay.txChoice, ht, hq, hc, he, hd, run]

/-- The oldest PASS-DOWN goes after eight blocks, or when no block may go. -/
theorem Bay.txChoice_passDown {body : List Byte} {rest : List (List Byte)}
    (hd : x.port.passDown = body :: rest) (hp : x.port.blockRun = 8 ∨ x.nextBlock = none) :
    x.txChoice = some (.passDown body) := by
  cases he : x.nextBlock with
  | none => simp [Bay.txChoice, ht, hq, hc, hd, he]
  | some e =>
    have run : x.port.blockRun = Config.blockRun := hp.resolve_right (by simp [he])
    simp [Bay.txChoice, ht, hq, hc, hd, he, run]

theorem Bay.txChoice_idle (he : x.nextBlock = none) (hd : x.port.passDown = []) :
    x.txChoice = none := by
  simp [Bay.txChoice, ht, hq, hc, he, hd]

end Queues

/-- Settles O60: the choice by phase, qualification and what waits. -/
theorem transmitOrder : Obligations.TransmitOrder :=
  fun _ => ⟨Bay.txChoice_training, Bay.txChoice_silent, fun ht hq =>
    ⟨fun _ _ => Bay.txChoice_control ht hq, fun hc =>
      ⟨fun _ => Bay.txChoice_block ht hq hc, fun _ _ => Bay.txChoice_passDown ht hq hc,
        Bay.txChoice_idle ht hq hc⟩⟩⟩

/-- Settles O59: the PASS-DOWN is the transmitter's choice, and its sending writes the port and one
counter. -/
theorem passDownSent : Obligations.PassDownSent := by
  intro s b body rest ht hq hc hd hp
  refine congrArg _ (show s.sendPassDown b = _ from ?_)
  rw [State.sendPassDown, Bay.txChoice_passDown ht hq hc hd hp]
  simp [State.onLine, hd]

/-- Settles O54: each link frame is the transmitter's choice, and its sending writes the port. -/
theorem linkFramesSent : Obligations.LinkFramesSent := by
  refine ⟨fun s b hp hl => ?caps, fun s b r hp hl => ?retrain⟩
  case caps =>
    refine congrArg _ (show s.sendCaps b = _ from ?_)
    rw [State.sendCaps, Bay.txChoice_training hp, hl]
    simp [State.onLine]
  case retrain =>
    refine congrArg _ (show s.sendRetrain b = _ from ?_)
    rw [State.sendRetrain, Bay.txChoice_training (.inl hp), hl]
    simp [State.onLine, State.startTimer, Config.switchTime]

/-! ## Training begins (06 R110, 07 R129) -/

/-- A VACANT bay whose port starts probing enters TRAINING, with its notice. -/
theorem State.startProbing_vacant {s : State} {b : BayId} (hv : (s.bay b).ctl.state = .vacant) :
    s.startProbing b = (s.setBay b { s.bay b with
      port := (s.bay b).port.probe 0, ctl := { (s.bay b).ctl with state := .training } }).post
      (.bayState b .vacant .training .trainingBegun (s.bay b).ctl.vehicle 0 0 false) := by
  simp [State.startProbing, State.takeTrainingBegun, State.enter, hv]

/-- Settles O29: signal detect in DOWN and the end of FORCED start probing. -/
theorem trainingStarts : Obligations.TrainingStarts := by
  refine ⟨fun s b hp hv => ?detect, fun s b timer hp ht => ⟨fun hs => ?dark, fun hs hv => ?lit⟩⟩
  case detect =>
    refine congrArg _ (show s.signalDetected b = _ from ?_)
    simp only [State.signalDetected, hp]
    rw [State.startProbing_vacant (by simpa using hv)]
    simp [Port.probe]
  case dark =>
    refine congrArg _ (show s.forcedOver b = _ from ?_)
    simp [State.forcedOver, hp, ht, hs]
  case lit =>
    refine congrArg _ (show s.forcedOver b = _ from ?_)
    simp only [State.forcedOver, hp, ht, hs, Option.isSome_some, and_self, if_true]
    rw [State.startProbing_vacant hv]
    simp [Port.probe, hs]

/-! ## CAPS exchanged, and the switching of the line rate (06 R111, R112) -/

/-- The agent maximum of a CAPS: a value above 3 is taken as 3. -/
theorem agentMaximum_eq {code : Byte} {m : RateCode} (h : m.val = min code.toNat 3) :
    agentMaximum code = m := by
  unfold agentMaximum
  by_cases hc : code.toNat < 4
  · rw [idx_eq_some (i := m) (by omega)]
    rfl
  · rw [idx_eq_none (by omega)]
    exact Fin.ext (show 3 = m.val by omega)

/-- Settles O30: both events write the port alone. -/
theorem capsExchanged : Obligations.CapsExchanged := by
  refine ⟨fun s b age hp ha => ?resend, fun s b code m hp hm hc hs => ?answer⟩
  case resend =>
    refine congrArg _ (show s.resendCaps b = _ from ?_)
    simp [State.resendCaps, hp, ha]
  case answer =>
    refine congrArg _ (show s.takeCaps b code = _ from ?_)
    simp [State.takeCaps, State.capsInProbing, hp, agentMaximum_eq hm, hc, Nat.not_le.mpr hs]

/-- Settles O31: the three events write the port, and a switch failure one counter. -/
theorem switchingEvents : Obligations.SwitchingEvents := by
  refine fun s b timer hp => ⟨fun ht => ⟨?expiry, ?newRate⟩, fun ht => ?fallback⟩
  case expiry =>
    refine congrArg _ (show s.switchFailed b = _ from ?_)
    simp [State.switchFailed, hp, ht, State.startTimer, Config.switchTime]
  case newRate =>
    refine congrArg _ (show s.signalNew b = _ from ?_)
    simp [State.signalNew, hp, ht]
  case fallback =>
    refine congrArg _ (show s.signalFallback b = _ from ?_)
    simp [State.signalFallback, hp, ht, Port.probe]


/-! ## Training ends (06 R111 to R113, R117) -/

/-- A port whose training has ended at a rate with an agent maximum (06 R113). -/
def Port.trainedAt (x : Port) (m r : RateCode) : Port :=
  { x with phase := .trained, lineRate := r, trainedRate := some r, agentMax := some m,
           qualified := false, qualCount := 0, watchdog := 0, linkFrame := none, capsAge := none,
           switchTimer := none, fallbackTimer := none }

/-- A bay in TRAINING that enters QUALIFYING, its training counted. -/
def Bay.trainingDone (x : Bay) (m r : RateCode) : Bay :=
  { x with port := x.port.trainedAt m r, ctl := { x.ctl with state := .qualifying },
           counters := x.counters.modify (trainingCounter r).index satInc }

/-- The end of training of a bay in TRAINING, up to its qualification under a threshold of 0. -/
theorem State.trained_eq {s : State} {b : BayId} {x : Port} {m r : RateCode}
    (hx : x.trainedAt m r = (s.bay b).port.trainedAt m r)
    (hm : x.agentMax = some m) (hs : (s.bay b).ctl.state = .training) :
    (s.setBay b { s.bay b with port := x }).trained b r =
      let t := (s.setBay b ((s.bay b).trainingDone m r)).post
        (.bayState b .training .qualifying (.trainingDone r) (s.bay b).ctl.vehicle 0 0 false)
      if s.config.threshold = 0 then t.qualify b else t := by
  have port : ({ x with
      phase := .trained, trainedRate := some r, lineRate := r, qualified := false,
      qualCount := 0, watchdog := 0, linkFrame := none, capsAge := none,
      switchTimer := none, fallbackTimer := none } : Port) = (s.bay b).port.trainedAt m r := by
    rw [← hx, Port.trainedAt, hm]
  simp [State.trained, State.takeTrainingDone, State.enter, hs, port, Bay.trainingDone]

/-- A CAPS that ends training, at a rate. -/
theorem State.takeCaps_trained {s : State} {b : BayId} {code : Byte} {m r : RateCode}
    (hm : m.val = min code.toNat 3) (hs : (s.bay b).ctl.state = .training)
    (hr : ((s.bay b).port.phase = .probing ∧
        (min m (s.bay b).maxRate = 0 ∨ 2 ≤ (s.bay b).port.switchAttempts) ∧ r = 0) ∨
      ((s.bay b).port.phase = .switching ∧ (s.bay b).port.switchTimer.isSome ∧
        r = (s.bay b).port.lineRate)) :
    s.takeCaps b code =
      let t := (s.setBay b ((s.bay b).trainingDone m r)).post
        (.bayState b .training .qualifying (.trainingDone r) (s.bay b).ctl.vehicle 0 0 false)
      if s.config.threshold = 0 then t.qualify b else t := by
  rcases hr with ⟨hp, hc, rfl⟩ | ⟨hp, ht, rfl⟩
  · rw [← State.trained_eq (x := { (s.bay b).port with
      agentMax := some m, watchdog := 0, capsAge := none }) rfl rfl hs]
    simp only [State.takeCaps, State.capsInProbing, hp, agentMaximum_eq hm, if_pos hc,
      State.modPort_eq, State.modBay_eq]
  · obtain ⟨timer, ht⟩ := Option.isSome_iff_exists.mp ht
    rw [← State.trained_eq (x := { (s.bay b).port with agentMax := some m }) rfl rfl hs]
    simp [State.takeCaps, hp, agentMaximum_eq hm, ht]

/-- Settles O32: the bay enters QUALIFYING, and under a threshold of 0 it is qualified there. -/
theorem trainingEnds : Obligations.TrainingEnds := by
  refine fun s b code m r hm hs hr => ⟨fun h0 => ?qualifying, fun h0 hh hv ht => ?intake⟩
  case qualifying =>
    refine congrArg _ ((State.takeCaps_trained hm hs hr).trans ?_)
    exact if_neg h0
  case intake =>
    refine congrArg _ ((State.takeCaps_trained hm hs hr).trans ?_)
    simp only [if_pos h0]
    simp [State.qualify, State.takeQualified, State.enterIntake, State.enter, Bay.trainingDone,
      Port.trainedAt, State.post_setBay, State.startTimer, Config.intakeTime, hh, hv, ht]

/-! ## Frame errors (06 R115, R118) -/

/-- A verdict that makes a received frame an error, and the counter of its sort (06 R115). -/
def BayVerdict.isError (v : BayVerdict) (c : BayCounter) : Prop :=
  (v = .checkError ∧ c = .frameCheckErrors) ∨ (v = .unknownKind ∧ c = .unknownKindErrors) ∨
    (v = .lengthError ∧ c = .lengthErrors)

theorem State.badFrame_eq {s : State} {b : BayId} {bytes : List Byte} {c : BayCounter}
    (h : (judgeBayFrame bytes).isError c) : s.badFrame b bytes = s.frameError b c := by
  unfold State.badFrame
  rcases h with ⟨h, rfl⟩ | ⟨h, rfl⟩ | ⟨h, rfl⟩ <;> rw [h]

/-- An error that leaves the qualifier alone is only counted. -/
theorem State.frameError_counted {s : State} {b : BayId} (c : BayCounter)
    (h : (s.bay b).port.phase = .probing ∨ (s.bay b).port.phase = .switching ∨
      ((s.bay b).port.phase = .trained ∧ s.config.errorMode = .discard)) :
    s.frameError b c = s.bump b c := by
  unfold State.frameError
  rcases h with h | h | ⟨h, e⟩
  · rw [h]
  · rw [h]
  · rw [h, e]

/-- In DOWN and FORCED no frame is judged. -/
theorem State.frameError_unjudged {s : State} {b : BayId} (c : BayCounter)
    (h : (s.bay b).port.phase = .down ∨ (s.bay b).port.phase = .forced) :
    s.frameError b c = s := by
  unfold State.frameError
  rcases h with h | h <;> rw [h]

theorem State.frameError_relatch {s : State} {b : BayId} (c : BayCounter)
    (h : (s.bay b).port.phase = .trained) (e : s.config.errorMode = .relatch) :
    s.frameError b c = (s.bump b c).losePort b .relatches := by
  unfold State.frameError
  rw [h, e]

/-- Settles O33: the first test failed names the counter, and the phase and mode what else is done. -/
theorem frameErrorsCounted : Obligations.FrameErrorsCounted := by
  refine ⟨fun s b bytes c h => ⟨fun hp => ?counted, fun hp => ?unjudged⟩, fun s b => rfl⟩
  case counted =>
    exact congrArg _ ((State.badFrame_eq h).trans (State.frameError_counted c hp))
  case unjudged =>
    exact congrArg _ ((State.badFrame_eq h).trans (State.frameError_unjudged c hp))

/-! ## The frame check (06 R115, 10 R169) -/

/-- Four bytes read as a number are the bytes that spell it, most significant first. -/
theorem readBytes_u32 (w : Word) : readBytes (u32 w.toNat) = w.toNat := by
  have := w.isLt
  simp only [readBytes, u32, List.foldl_cons, List.foldl_nil, BitVec.toNat_ofNat]
  omega

/-- A number below 2^32 is spelled by four bytes in one way. -/
theorem u32_readBytes {l : List Byte} (h : l.length = 4) :
    u32 (BitVec.ofNat 32 (readBytes l)).toNat = l := by
  match l, h with
  | [a, b, c, d], _ =>
    have := a.isLt
    have := b.isLt
    have := c.isLt
    have := d.isLt
    simp only [readBytes, u32, List.foldl_cons, List.foldl_nil, BitVec.toNat_ofNat,
      List.cons.injEq, and_true]
    refine ⟨?_, ?_, ?_, ?_⟩
    all_goals
      apply BitVec.eq_of_toNat_eq
      simp only [BitVec.toNat_ofNat]
      omega

/-- The check of a frame is good when the frame ends with the check of the bytes before. -/
theorem bayCheckGood_iff {bytes : List Byte} :
    bayCheckGood bytes = true ↔ ∃ body, bytes = body ++ u32 (crc32 body).toNat := by
  have len (k : Nat) : (u32 k).length = 4 := rfl
  rw [bayCheckGood, Bool.and_eq_true, decide_eq_true_eq, decide_eq_true_eq, field]
  constructor
  · rintro ⟨long, check⟩
    have tail : (bytes.drop (bytes.length - 4)).length = 4 := by simp; omega
    rw [List.take_of_length_le tail.le] at check
    refine ⟨bytes.take (bytes.length - 4), ?_⟩
    rw [check, u32_readBytes tail, List.take_append_drop]
  · rintro ⟨body, rfl⟩
    have short : (body ++ u32 (crc32 body).toNat).length - 4 = body.length := by simp [len]
    rw [short, List.take_left, List.drop_left, List.take_of_length_le (len _).le, readBytes_u32,
      BitVec.ofNat_toNat, BitVec.setWidth_eq]
    exact ⟨by simp [len], rfl⟩

/-- Settles O34: the check is the first test, and the other verdicts come after it. -/
theorem checkJudgedFirst : Obligations.CheckJudgedFirst := by
  intro bytes
  refine Iff.trans ?_ bayCheckGood_iff
  unfold judgeBayFrame
  cases bayCheckGood bytes with
  | false => simp
  | true =>
    refine iff_of_true ?_ rfl
    rw [if_neg (by decide)]
    split
    · nofun
    · split <;> nofun


/-! ## Qualification lost in INTAKE (06 R118, R120, 07 R129) -/

/-- A bay whose qualified port has lost its qualification, by the cause that a counter names. -/
def Bay.unqualified (x : Bay) (why : BayCounter) : Bay :=
  { x with port := { x.port with qualified := false, qualCount := 0 },
           counters := (x.counters.modify why.index satInc).modify
             BayCounter.qualificationsLost.index satInc }

/-- A qualified port loses its qualification, and the controller is told. -/
theorem State.losePort_eq {s : State} {b : BayId} (why : BayCounter)
    (hq : (s.bay b).port.qualified = true) :
    s.losePort b why = (s.setBay b ((s.bay b).unqualified why)).takeQualificationLost b := by
  simp [State.losePort, hq, Bay.unqualified]

theorem State.watchdogTwo_eq {s : State} {b : BayId} (ht : (s.bay b).port.phase = .trained)
    (hq : (s.bay b).port.qualified = true) :
    s.watchdogTwo b =
      (s.setBay b ((s.bay b).unqualified .watchdogLosses)).takeQualificationLost b := by
  rw [← State.losePort_eq _ hq, State.watchdogTwo, ht]

theorem State.badFrame_relatch {s : State} {b : BayId} {bytes : List Byte} {c : BayCounter}
    (h : (judgeBayFrame bytes).isError c) (ht : (s.bay b).port.phase = .trained)
    (hq : (s.bay b).port.qualified = true) (e : s.config.errorMode = .relatch) :
    s.badFrame b bytes =
      (s.setBay b (((s.bay b).counted c).unqualified .relatches)).takeQualificationLost b := by
  rw [State.badFrame_eq h, State.frameError_relatch c ht e, State.losePort_eq _ (by simpa using hq)]
  simp [Bay.counted]

theorem State.takeQualificationLost_intake {s : State} {b : BayId}
    (hs : (s.bay b).ctl.state = .intake) :
    s.takeQualificationLost b = s.enter b .qualifying .qualificationLost := by
  rw [State.takeQualificationLost, hs]

/-- Settles O35: the port loses its qualification, and INTAKE is left for QUALIFYING. -/
theorem qualificationLostInIntake : Obligations.QualificationLostInIntake := by
  refine fun s b ht hq hs => ⟨fun bytes c h e => ?error, ?silence⟩
  case error =>
    refine congrArg _ ((State.badFrame_relatch h ht hq e).trans ?_)
    rw [State.takeQualificationLost_intake (by rw [State.setBay_bay]; exact hs)]
    simp [State.enter, Bay.unqualified, Bay.counted, hs]
  case silence =>
    refine congrArg _ ((State.watchdogTwo_eq ht hq).trans ?_)
    rw [State.takeQualificationLost_intake (by rw [State.setBay_bay]; exact hs)]
    simp [State.enter, Bay.unqualified, hs]

/-! ## Frames outside service (06 R110, R113, R114, R116) -/

theorem State.receive_unjudged {s : State} {b : BayId} (take : State → State)
    (h : (s.bay b).port.phase = .down ∨ (s.bay b).port.phase = .forced) :
    s.receive b take = s := by
  unfold State.receive
  rcases h with h | h <;> rw [h]

theorem State.receiveIf_unjudged {s : State} {b : BayId} (fits : Bool) (take : State → State)
    (h : (s.bay b).port.phase = .down ∨ (s.bay b).port.phase = .forced) :
    s.receiveIf b fits take = s := by
  cases fits with
  | false => exact State.frameError_unjudged _ h
  | true => exact State.receive_unjudged take h

/-- A bay in training that a valid frame other than CAPS has reached. -/
def Bay.overheard (x : Bay) : Bay :=
  Bay.counted { x with port := { x.port with watchdog := 0 } } .framesDiscardedInTraining

theorem State.receive_training {s : State} {b : BayId} (take : State → State)
    (h : (s.bay b).port.phase = .probing ∨ (s.bay b).port.phase = .switching) :
    s.receive b take = s.setBay b (s.bay b).overheard := by
  unfold State.receive
  rcases h with h | h <;> simp [h, Bay.overheard, Bay.counted]

theorem State.receiveIf_training {s : State} {b : BayId} {fits : Bool} (take : State → State)
    (hf : fits = true) (h : (s.bay b).port.phase = .probing ∨ (s.bay b).port.phase = .switching) :
    s.receiveIf b fits take = s.setBay b (s.bay b).overheard :=
  (if_pos hf).trans (State.receive_training take h)

theorem State.takeCaps_unjudged {s : State} {b : BayId} (code : Byte)
    (h : (s.bay b).port.phase = .down ∨ (s.bay b).port.phase = .forced) :
    s.takeCaps b code = s := by
  unfold State.takeCaps
  rcases h with h | h <;> rw [h]

theorem State.takeCaps_service {s : State} {b : BayId} (code : Byte)
    (h : (s.bay b).port.phase = .trained) :
    s.takeCaps b code = s.receive b fun t => t.bump b .capsOutsideTraining := by
  rw [State.takeCaps, h]

/-- A frame of another kind than CAPS is received, where it is within its kind's bounds. -/
theorem exec_receiveIf {b : BayId} {h : HelloFrame} {v : Byte} {items : List InventoryItem}
    {f : OpenAckFrame} {g : ReceiptFrame} {k : CloseResultFrame} {u : UnitReportFrame}
    {body : List Byte} {i : Instr}
    (hi : i = .hello b h ∨ i = .heartbeat b v ∨ i = .inventory b items ∨ i = .openAck b f ∨
      i = .receipt b g ∨ i = .closeResult b k ∨ i = .unitReport b u ∨ i = .passUp b body) :
    ∃ fits take, (inventoryFits items = true → g.fits = true → k.fits = true →
        bodyFits body = true → fits = true) ∧
      ∀ s, exec i s = .next (s.receiveIf b fits take) := by
  rcases hi with rfl | rfl | rfl | rfl | rfl | rfl | rfl | rfl
  · exact ⟨true, fun t => t.takeHello b h, fun _ _ _ _ => rfl, fun _ => rfl⟩
  · exact ⟨true, fun t => t.takeHeartbeat b v, fun _ _ _ _ => rfl, fun _ => rfl⟩
  · exact ⟨_, _, fun hf _ _ _ => hf, fun _ => rfl⟩
  · exact ⟨true, fun t => t.takeOpenAck b f, fun _ _ _ _ => rfl, fun _ => rfl⟩
  · exact ⟨_, _, fun _ hf _ _ => hf, fun _ => rfl⟩
  · exact ⟨_, _, fun _ _ hf _ => hf, fun _ => rfl⟩
  · exact ⟨true, fun t => t.judgeReport b u, fun _ _ _ _ => rfl, fun _ => rfl⟩
  · exact ⟨_, _, fun _ _ _ hf => hf, fun _ => rfl⟩

/-- Settles O38: the phase says whether a frame is judged, only heard, or handed on. -/
theorem framesOutsideService : Obligations.FramesOutsideService := by
  refine fun s b => ⟨fun code hb => ?caps, fun h v items f g k u body i hi => ?others,
    fun code hp => congrArg _ (State.takeCaps_unjudged code hp)⟩
  case caps =>
    refine congrArg _ ((State.takeCaps_service code hb.1).trans ?_)
    exact State.receive_counted s b _ _ hb fun _ _ => rfl
  case others =>
    obtain ⟨fits, take, bounds, received⟩ := exec_receiveIf hi
    refine ⟨fun hp => ?_, fun hp hitems hg hg' hk hbody hbody' => ?_⟩
    · exact (received s).trans (congrArg _ (State.receiveIf_unjudged fits take hp))
    · have fit := bounds (by simpa [inventoryFits] using hitems) (by simp [ReceiptFrame.fits, hg, hg'])
        (by simpa [CloseResultFrame.fits] using hk) (by simp [bodyFits, hbody, hbody'])
      exact (received s).trans (congrArg _ (State.receiveIf_training take fit hp))

end Sys2Proof.Machine

namespace Sys2Proof.Machine

/-! SUPPORT. Several streams judged in one step: what a bay's leaving SERVING withholds, and what its
return asks for (02 R41 to R43, 03 R69, R70). -/

/-! ## What grants alone do to a stream (02 R40) -/

/-- A stream on which grants alone have acted: limit and age aside it is as it was, an age of 0 is
still 0, a satisfied stream has been granted nothing, and a status that was due is due. -/
structure State.grantsOnly (s t : State) (st : StreamId) : Prop where
  footing : (t.stream st).footing = (s.stream st).footing
  satisfied : (s.stream st).satisfied = true → t.stream st = s.stream st
  age : (s.stream st).age = 0 → (t.stream st).age = 0
  due : st ∈ s.due → st ∈ t.due

section Grants
variable {s t u : State} {st tt : StreamId}

theorem State.grantsOnly.of_same (hs : t.stream st = s.stream st) (hd : st ∈ s.due → st ∈ t.due) :
    s.grantsOnly t st :=
  ⟨congrArg Stream.footing hs, fun _ => hs, fun h => by rw [hs, h], hd⟩

theorem State.grantsOnly.refl (s : State) (st : StreamId) : s.grantsOnly s st := .of_same rfl id

theorem State.grantsOnly.trans (h : s.grantsOnly t st) (g : t.grantsOnly u st) :
    s.grantsOnly u st where
  footing := g.footing.trans h.footing
  satisfied sat := by
    have same := h.satisfied sat
    rw [← same]
    exact g.satisfied (by rw [same, sat])
  age a := g.age (h.age a)
  due d := g.due (h.due d)

theorem State.grantsOnly.makeDue : s.grantsOnly (s.makeDue tt) st :=
  .of_same (s.makeDue_stream tt st) fun h => State.mem_makeDue.mpr (.inl h)

theorem State.grantsOnly.modStream {f : Stream → Stream} (h : tt ≠ st) :
    s.grantsOnly (s.modStream tt f) st :=
  .of_same (State.modStream_stream_ne s f h) id

/-- A grant goes to a stream that is not satisfied, and makes its age 0. -/
theorem State.grantsOnly.grantTo (hw : (s.stream tt).wanting s.config.streamWindow = true) :
    s.grantsOnly (s.grantTo tt) st := by
  refine ⟨s.grantTo_footing tt st, fun sat => ?_, fun age => ?_, fun d => ?_⟩
  · have ne : tt ≠ st := by
      rintro rfl
      simp [Stream.wanting, sat] at hw
    rw [State.grantTo, State.makeDue_stream, State.modStream_stream_ne _ _ ne]
  · rw [State.grantTo, State.makeDue_stream]
    by_cases e : tt = st
    · subst e; rw [State.modStream_stream]
    · rw [State.modStream_stream_ne _ _ e, age]
  · exact State.mem_makeDue.mpr (.inl d)

theorem State.grantsOnly.arbitrate (s : State) (st : StreamId) : s.grantsOnly s.arbitrate st :=
  State.arbitrate_inv (s.grantsOnly · st) (.refl s st) fun _ _ h hw => h.trans (.grantTo hw)

theorem State.grantsOnly.post {n : Notice} : s.grantsOnly (s.post n) st :=
  .of_same (State.post_stream s n st) (by rw [State.post_due]; exact id)

theorem State.grantsOnly.foldl {α : Type} {f : State → α → State} {l : List α}
    (h : ∀ (t : State), ∀ a ∈ l, t.grantsOnly (f t a) st) : s.grantsOnly (l.foldl f s) st :=
  List.foldlRecOn (motive := (s.grantsOnly · st)) l f (.refl s st) fun t ht a ha =>
    ht.trans (h t a ha)

/-- The judgement of another stream. -/
theorem State.grantsOnly.judge (h : tt ≠ st) : s.grantsOnly (s.judge tt) st := by
  rcases s.judge_cases tt with e | e | e | e <;> rw [e]
  · exact .refl s st
  · exact .modStream h
  · exact (State.grantsOnly.modStream h).trans (.trans .makeDue (.trans .post (.arbitrate _ st)))
  · exact (State.grantsOnly.modStream h).trans (.trans (.modStream h)
      (.trans .makeDue (.arbitrate _ st)))

/-- The judgements of other streams. -/
theorem State.grantsOnly.judgeAll {l : List StreamId} (h : st ∉ l) :
    s.grantsOnly (s.judgeAll l) st :=
  .foldl fun _ _ ha => .judge fun e => h (e ▸ ha)

theorem State.grantsOnly.leaveSlot {b : BayId} {sl : SlotId} :
    s.grantsOnly (s.leaveSlot b sl) st := by
  unfold State.leaveSlot
  split
  · exact .refl s st
  · dsimp only
    split
    · have freed : s.grantsOnly { s with pool := s.pool.set sl none } st := .of_same rfl id
      exact freed.trans (.arbitrate _ st)
    · exact .of_same rfl id

theorem State.grantsOnly.dropEntries {b : BayId} {p : TxEntry → Bool} :
    s.grantsOnly (s.dropEntries b p) st := by
  refine .foldl fun t e _ => State.grantsOnly.trans (t := t.unqueue b e) (.of_same ?_ ?_) .leaveSlot
  · rw [State.stream, State.unqueue_streams, State.stream]
  · rw [State.unqueue_due]; exact id

end Grants

/-! ## The judgement of one stream among several -/

section Judged
variable {s : State} {st : StreamId}

/-- A stream that has been satisfied (02 R42). -/
def Stream.quenched (x : Stream) : Stream :=
  { x with limit := x.accepted, resume := x.position, age := 0, satisfied := true }

theorem Stream.quenched_of_footing {x y : Stream} (h : y.footing = x.footing) :
    y.quenched = x.quenched :=
  show y.footing.quenched = x.footing.quenched from congrArg _ h

theorem State.satisfy_quenches (s : State) (st : StreamId) :
    (s.satisfy st).stream st = (s.stream st).quenched ∧ st ∈ (s.satisfy st).due := by
  rw [State.satisfy]
  generalize hu : ((s.modStream st _).makeDue st).post _ = u
  have stream : u.stream st = (s.stream st).quenched := by
    rw [← hu, State.post_stream, State.makeDue_stream, State.modStream_stream]
    rfl
  have due : st ∈ u.due := by
    rw [← hu, State.post_due]
    exact State.mem_makeDue.mpr (.inr rfl)
  have grants := State.grantsOnly.arbitrate u st
  exact ⟨(grants.satisfied (by rw [stream]; rfl)).trans stream, grants.due due⟩

/-- An OPEN, unsatisfied stream of which no job wants blocks is satisfied (02 R42). -/
theorem State.judge_unwanted (ho : (s.stream st).isOpen = true)
    (hs : (s.stream st).satisfied = false) (hw : s.wantingJobs st = []) :
    s.judge st = s.satisfy st := by
  simp [State.judge, ho, hs, hw]

/-- An OPEN stream of which a job wants blocks is not satisfied; one that was starts with age 0 and
its status due (02 R43). -/
theorem State.judge_wanted (ho : (s.stream st).isOpen = true) (hw : s.wantingJobs st ≠ []) :
    ((s.judge st).stream st).satisfied = false ∧
      ((s.stream st).satisfied = true → ((s.judge st).stream st).age = 0 ∧ st ∈ (s.judge st).due) := by
  have wanted : (s.wantingJobs st).isEmpty = false := by simpa using hw
  cases hs : (s.stream st).satisfied with
  | false =>
    have e : s.judge st = s.recomputeResume st := by simp [State.judge, ho, hs, wanted]
    rw [e, State.recomputeResume, State.modStream_stream]
    exact ⟨hs, nofun⟩
  | true =>
    have e : s.judge st = s.unsatisfy st := by simp [State.judge, ho, hs, wanted]
    rw [e, State.unsatisfy]
    generalize hu : State.makeDue _ st = u
    have grants := State.grantsOnly.arbitrate u st
    obtain ⟨satisfied, -⟩ := Stream.judgement_of_footing grants.footing
    refine ⟨?_, fun _ => ⟨grants.age ?_, grants.due ?_⟩⟩
    · rw [satisfied, ← hu, State.makeDue_stream, State.recomputeResume, State.modStream_stream,
        State.modStream_stream]
    · rw [← hu, State.makeDue_stream, State.recomputeResume, State.modStream_stream,
        State.modStream_stream]
    · rw [← hu]
      exact State.mem_makeDue.mpr (.inr rfl)

/-- What a stream is wanted for is read off the bays, which no judgement changes. -/
theorem State.wantingJobs_congr {t : State} (h : t.bays = s.bays) (st : StreamId) :
    t.wantingJobs st = s.wantingJobs st := by
  simp only [State.wantingJobs, State.bay, h]

/-- A stream judged once among several stands, when its turn comes, as grants alone have left it, and
grants alone follow. -/
theorem State.judgeAll_turn {l : List StreamId} (s : State) (hl : l.Nodup) (hm : st ∈ l) :
    ∃ k m u, l = k ++ st :: m ∧ u = s.judgeAll k ∧ s.grantsOnly u st ∧
      s.judgeAll l = (u.judge st).judgeAll m ∧ (u.judge st).grantsOnly (s.judgeAll l) st := by
  obtain ⟨k, m, rfl⟩ := List.append_of_mem hm
  have before : st ∉ k := fun h => List.disjoint_of_nodup_append hl h List.mem_cons_self
  have after : st ∉ m := (List.nodup_cons.mp hl.of_append_right).1
  have split : s.judgeAll (k ++ st :: m) = ((s.judgeAll k).judge st).judgeAll m := by
    simp only [State.judgeAll, List.foldl_append, List.foldl_cons]
  refine ⟨k, m, _, rfl, rfl, .judgeAll before, split, ?_⟩
  rw [split]
  exact .judgeAll after

/-- One of several streams judged, OPEN and wanted (02 R43). -/
theorem State.judgeAll_wanted {l : List StreamId} (hl : l.Nodup) (hm : st ∈ l)
    (ho : (s.stream st).isOpen = true) (hw : s.wantingJobs st ≠ []) :
    ((s.judgeAll l).stream st).satisfied = false ∧
      ((s.stream st).satisfied = true →
        ((s.judgeAll l).stream st).age = 0 ∧ st ∈ (s.judgeAll l).due) := by
  obtain ⟨k, m, u, -, rfl, before, -, after⟩ := s.judgeAll_turn hl hm
  obtain ⟨isOpen, -⟩ := Stream.fields_of_record (Stream.record_of_footing before.footing)
  obtain ⟨unsatisfied, asked⟩ := State.judge_wanted (s := s.judgeAll k) (isOpen.trans ho)
    (by rwa [State.wantingJobs_congr (State.judgeAll_bays s k)])
  refine ⟨(Stream.judgement_of_footing after.footing).1.trans unsatisfied, fun sat => ?_⟩
  obtain ⟨age, due⟩ := asked ((Stream.judgement_of_footing before.footing).1.trans sat)
  exact ⟨after.age age, after.due due⟩

/-- One of several streams judged, OPEN, unsatisfied and wanted no more (02 R42). -/
theorem State.judgeAll_unwanted {l : List StreamId} (hl : l.Nodup) (hm : st ∈ l)
    (ho : (s.stream st).isOpen = true) (hs : (s.stream st).satisfied = false)
    (hw : s.wantingJobs st = []) :
    (s.judgeAll l).stream st = (s.stream st).quenched ∧ st ∈ (s.judgeAll l).due := by
  obtain ⟨k, m, u, -, rfl, before, -, after⟩ := s.judgeAll_turn hl hm
  obtain ⟨isOpen, -⟩ := Stream.fields_of_record (Stream.record_of_footing before.footing)
  have sat := (Stream.judgement_of_footing before.footing).1
  rw [State.judge_unwanted (isOpen.trans ho) (sat.trans hs)
    (by rwa [State.wantingJobs_congr (State.judgeAll_bays s k)])] at after
  obtain ⟨stream, due⟩ := (s.judgeAll k).satisfy_quenches st
  rw [Stream.quenched_of_footing before.footing] at stream
  exact ⟨(after.satisfied (by rw [stream]; rfl)).trans stream, after.due due⟩

end Judged

/-! ## The notices of several judgements (02 R42, 08 R155, R156) -/

theorem State.post_keeps_notice {s : State} {n : Notice} {x : PostedNotice}
    (h : x ∈ s.notices.queue) : x ∈ (s.post n).notices.queue := by
  unfold State.post
  split
  · split
    · exact List.mem_append_left _ h
    · exact h
  · exact h

/-- A judgement leaves the mask and the notices that wait, and posts at most one. -/
theorem State.judge_notices (s : State) (st : StreamId) :
    (s.judge st).notices.mask = s.notices.mask ∧
      (s.judge st).notices.queue.length ≤ s.notices.queue.length + 1 ∧
      ∀ x ∈ s.notices.queue, x ∈ (s.judge st).notices.queue := by
  rcases s.judge_cases st with e | e | e | e <;> rw [e]
  case inr.inr.inl =>
    rw [State.satisfy, State.arbitrate_notices]
    generalize hu : (s.modStream st _).makeDue st = u
    have notices : u.notices = s.notices := by rw [← hu, State.makeDue_notices]; rfl
    obtain ⟨mask, length⟩ := u.post_notices (.streamSatisfied st _ _)
    rw [← notices]
    exact ⟨mask, length, fun x => State.post_keeps_notice⟩
  case inr.inr.inr =>
    rw [State.unsatisfy_notices]
    exact ⟨rfl, Nat.le_succ _, fun _ => id⟩
  all_goals exact ⟨rfl, Nat.le_succ _, fun _ => id⟩

theorem State.judgeAll_notices (l : List StreamId) (s : State) :
    (s.judgeAll l).notices.mask = s.notices.mask ∧
      (s.judgeAll l).notices.queue.length ≤ s.notices.queue.length + l.length ∧
      ∀ x ∈ s.notices.queue, x ∈ (s.judgeAll l).notices.queue := by
  induction l generalizing s with
  | nil => exact ⟨rfl, Nat.le_refl _, fun _ => id⟩
  | cons st l ih =>
    obtain ⟨mask, length, kept⟩ := s.judge_notices st
    obtain ⟨mask', length', kept'⟩ := ih (s.judge st)
    refine ⟨mask'.trans mask, length'.trans ?_, fun x hx => kept' x (kept x hx)⟩
    rw [List.length_cons]
    omega

/-- STREAM SATISFIED is posted where the mask lets it and there is room. -/
theorem State.satisfy_posts {s : State} (st : StreamId)
    (hm : s.notices.mask.getLsbD 6 = true) (hl : s.notices.queue.length < 32) :
    ⟨s.clock.seconds, s.clock.valid, .streamSatisfied st (s.stream st).accepted
      (s.stream st).position⟩ ∈ (s.satisfy st).notices.queue := by
  rw [State.satisfy, State.arbitrate_notices]
  generalize hu : s.modStream st _ = u
  have fields : u.stream st = (s.stream st).quenched := by
    rw [← hu, State.modStream_stream]; rfl
  have posted := State.mem_post (s := u.makeDue st)
    (n := .streamSatisfied st (u.stream st).accepted (u.stream st).position)
    (by rw [State.makeDue_notices, ← hu]; exact hm) (by rw [State.makeDue_notices, ← hu]; exact hl)
  rw [State.makeDue_clock, ← hu, State.modStream_clock, hu, fields] at posted
  rw [fields]
  exact posted

/-- The notice of one of several streams judged, OPEN, unsatisfied and wanted no more. -/
theorem State.judgeAll_posts {s : State} {st : StreamId} {l : List StreamId} (hl : l.Nodup)
    (hm : st ∈ l) (ho : (s.stream st).isOpen = true) (hs : (s.stream st).satisfied = false)
    (hw : s.wantingJobs st = []) (mask : s.notices.mask.getLsbD 6 = true)
    (room : s.notices.queue.length + l.length ≤ 32) :
    ⟨s.clock.seconds, s.clock.valid, .streamSatisfied st (s.stream st).accepted
      (s.stream st).position⟩ ∈ (s.judgeAll l).notices.queue := by
  obtain ⟨k, m, u, rfl, rfl, before, split, -⟩ := s.judgeAll_turn hl hm
  obtain ⟨isOpen, -, position, accepted, -⟩ :=
    Stream.fields_of_record (Stream.record_of_footing before.footing)
  have sat := (Stream.judgement_of_footing before.footing).1
  obtain ⟨mask', length, -⟩ := State.judgeAll_notices k s
  rw [List.length_append, List.length_cons] at room
  have posted := State.satisfy_posts (s := s.judgeAll k) st (by rwa [mask']) (by omega)
  rw [accepted, position, State.judgeAll_clock] at posted
  rw [split, State.judge_unwanted (isOpen.trans ho) (sat.trans hs)
    (by rwa [State.wantingJobs_congr (State.judgeAll_bays s k)])]
  obtain ⟨-, -, kept⟩ := State.judgeAll_notices m ((s.judgeAll k).satisfy st)
  exact kept _ posted

end Sys2Proof.Machine

namespace Sys2Proof.Machine

/-! SUPPORT and PROOF. A bay's blocks withheld, and qualification lost in service (03 R69, 06 R118,
R120, 07 R136). -/

/-! ## Offsets needed again (03 R60, R62) -/

/-- A job but for its gap ranges. -/
def Job.ungapped (j : Job) : Job := { j with gaps := [] }

/-- A bay that has had offsets made needed and queued entries removed: its queue, the gap ranges of its
jobs and the count of joins aside it is as it was. -/
structure Bay.regapped (x y : Bay) : Prop where
  only : y = { x with txQueue := y.txQueue, jobs := y.jobs, counters := y.counters }
  jobs : ∀ p, (y.jobs.get p).map Job.ungapped = (x.jobs.get p).map Job.ungapped
  counts : ∀ k : BayCounter, k ≠ .gapJoins → y.counters.get k.index = x.counters.get k.index
  queue : y.txQueue.Sublist x.txQueue

theorem Bay.regapped.refl (x : Bay) : x.regapped x :=
  ⟨rfl, fun _ => rfl, fun _ _ => rfl, .refl _⟩

theorem Bay.regapped.trans {x y z : Bay} (h : x.regapped y) (g : y.regapped z) : x.regapped z where
  only := by
    have e := g.only
    rw [h.only] at e
    exact e
  jobs p := (g.jobs p).trans (h.jobs p)
  counts k hk := (g.counts k hk).trans (h.counts k hk)
  queue := g.queue.trans h.queue

/-- What a regapped bay keeps. -/
theorem Bay.regapped.fields {x y : Bay} (h : x.regapped y) :
    y.port = x.port ∧ y.ctl = x.ctl ∧ y.deadline = x.deadline ∧ y.activation = x.activation ∧
      y.inventory = x.inventory ∧ y.channels = x.channels := by
  rw [h.only]
  exact ⟨rfl, rfl, rfl, rfl, rfl, rfl⟩

theorem State.makeNeeded_regapped (s : State) (b : BayId) (p : Place) (d : Nat) :
    (s.bay b).regapped ((s.makeNeeded b p d).bay b) := by
  have job := s.makeNeeded_job b p d
  have others := fun q (h : p ≠ q) => s.makeNeeded_job_ne b d h
  obtain ⟨jobs, n, made, counts⟩ := s.makeNeeded_writes b p d
  simp only [State.job, made, State.setBay_bay] at job others ⊢
  refine ⟨rfl, fun q => ?_, counts, .refl _⟩
  by_cases e : p = q
  · subst e
    rw [job, Option.map_map]
    rfl
  · rw [others q e]

theorem State.dropEntry_regapped (s : State) (b : BayId) (e : TxEntry) :
    (s.bay b).regapped ((s.dropEntry b e).bay b) := by
  rw [State.dropEntry, State.leaveSlot_bay, State.unqueue]
  refine Bay.regapped.trans ?_ (State.makeNeeded_regapped _ b e.place e.offset)
  rw [State.modBay_eq, State.setBay_bay]
  exact ⟨rfl, fun _ => rfl, fun _ _ => rfl, List.filter_sublist⟩

theorem State.dropEntries_regapped (s : State) (b : BayId) (q : TxEntry → Bool) :
    (s.bay b).regapped ((s.dropEntries b q).bay b) :=
  foldl_inv (fun t : State => (s.bay b).regapped (t.bay b)) _
    (fun t e h => h.trans (t.dropEntry_regapped b e)) _ s (.refl _)

theorem State.dropEntries_bay_ne (s : State) {a b : BayId} (q : TxEntry → Bool) (h : b ≠ a) :
    (s.dropEntries b q).bay a = s.bay a :=
  foldl_keeps (fun t : State => t.bay a) _
    (fun t e => (State.leaveSlot_bay ..).trans (t.unqueue_bay_ne e h)) _ s

theorem State.dropEntries_all_queue (s : State) (b : BayId) :
    ((s.dropEntries b fun _ => true).bay b).txQueue = [] := by
  rw [(s.dropEntries_shed b fun _ => true).queue]
  simp

@[simp] theorem State.dropEntries_blockFrame (s : State) (b : BayId) (q : TxEntry → Bool) :
    (s.dropEntries b q).blockFrame = s.blockFrame :=
  foldl_keeps State.blockFrame _
    (fun t e => (State.leaveSlot_blockFrame ..).trans (t.unqueue_blockFrame b e)) _ s

@[simp] theorem State.judgeAll_blockFrame (s : State) (l : List StreamId) :
    (s.judgeAll l).blockFrame = s.blockFrame :=
  foldl_keeps State.blockFrame _ (fun t st => t.judge_blockFrame st) l s

@[simp] theorem State.post_blockFrame (s : State) (n : Notice) :
    (s.post n).blockFrame = s.blockFrame := by
  simp [State.blockFrame]

/-! ## Blocks withheld (03 R69, 02 R41, R42) -/

/-- Streams judged where SERVING has been left, as a bay withholds its blocks. -/
def State.judgeLeft (s : State) (left : BayState) (l : List StreamId) : State :=
  if left = .serving then s.judgeAll l else s

theorem State.judgeLeft_frame (s : State) (left : BayState) (l : List StreamId) :
    (s.judgeLeft left l).bays = s.bays ∧ (s.judgeLeft left l).blockFrame = s.blockFrame := by
  unfold State.judgeLeft
  split
  · exact ⟨State.judgeAll_bays .., State.judgeAll_blockFrame ..⟩
  · exact ⟨rfl, rfl⟩

/-- What a withholding leaves of its bay, of the others, and outside blocks and notices. -/
theorem State.withhold_spec (s : State) (b : BayId) (left : BayState) :
    (s.bay b).regapped ((s.withhold b left).bay b) ∧ ((s.withhold b left).bay b).txQueue = [] ∧
      s.sameOtherBays (s.withhold b left) b ∧ (s.withhold b left).blockFrame = s.blockFrame := by
  obtain ⟨bays, frame⟩ := s.judgeLeft_frame left (s.bay b).receivingStreams
  have e : s.withhold b left = (s.judgeLeft left (s.bay b).receivingStreams).dropEntries b
    fun _ => true := rfl
  generalize s.judgeLeft left (s.bay b).receivingStreams = u at *
  have bay (a : BayId) : u.bay a = s.bay a := by rw [State.bay, bays, State.bay]
  have shed := u.dropEntries_regapped b fun _ => true
  rw [bay] at shed
  rw [e]
  refine ⟨shed, State.dropEntries_all_queue _ b, fun a ha => ?_, ?_⟩
  · rw [State.dropEntries_bay_ne _ _ (Ne.symm ha), bay]
  · rw [State.dropEntries_blockFrame, frame]

/-- Outside SERVING, with nothing queued, there is nothing to withhold. -/
theorem State.withhold_nothing {s : State} {b : BayId} {left : BayState} (hl : left ≠ .serving)
    (hq : (s.bay b).txQueue = []) : s.withhold b left = s := by
  simp [State.withhold, State.dropEntries, hl, hq]

theorem Bay.receivingStreams_nodup (x : Bay) : x.receivingStreams.Nodup :=
  (List.nodup_finRange 16).filter _

theorem Bay.receivingStreams_length (x : Bay) : x.receivingStreams.length ≤ 16 :=
  (List.length_filter_le ..).trans (List.length_finRange).le

theorem Bay.mem_receivingStreams {x : Bay} {p : Place} {j : Job} (hj : x.jobs.get p = some j)
    (hr : j.state = .receiving) : j.stream ∈ x.receivingStreams := by
  refine List.mem_filter.mpr ⟨List.mem_finRange _, List.any_eq_true.mpr ⟨(p, j), ?_, ?_⟩⟩
  · exact Bay.mem_jobList.mpr hj
  · simp [hr]

/-- A bay that has left SERVING, its streams not yet judged and at most one notice posted, withholds
its blocks as the claims say (02 R42). -/
theorem State.withhold_withheld {s v : State} {b : BayId} (streams : v.streams = s.streams)
    (jobs : (v.bay b).jobs = (s.bay b).jobs) (away : (v.bay b).ctl.state ≠ .serving)
    (others : s.sameOtherBays v b) (clock : v.clock = s.clock)
    (mask : v.notices.mask = s.notices.mask)
    (length : v.notices.queue.length ≤ s.notices.queue.length + 1) :
    s.withheld (v.withhold b .serving) b := by
  intro p j hj hr ho hs unwanted
  have stream : v.stream j.stream = s.stream j.stream := by rw [State.stream, streams, State.stream]
  have mem : j.stream ∈ (v.bay b).receivingStreams :=
    Bay.mem_receivingStreams (by rw [jobs]; exact hj) hr
  have nodup := (v.bay b).receivingStreams_nodup
  have size := (v.bay b).receivingStreams_length
  have nobody : v.wantingJobs j.stream = [] := by
    refine List.eq_nil_iff_forall_not_mem.mpr fun k hk => ?_
    obtain ⟨a, q, hk, same, wants⟩ := State.mem_wantingJobs.mp hk
    by_cases e : a = b
    · subst e
      exact away (Bay.jobWants_iff.mp wants).1
    · rw [State.job, others a e] at hk
      rw [others a e, unwanted a e q k hk same] at wants
      exact Bool.false_ne_true wants
  rw [← stream] at ho hs ⊢
  obtain ⟨quenched, due⟩ := State.judgeAll_unwanted nodup mem ho hs nobody
  generalize hu : v.judgeAll (v.bay b).receivingStreams = u at quenched due
  have e : v.withhold b .serving = u.dropEntries b fun _ => true := by rw [← hu]; rfl
  have grants : u.grantsOnly (u.dropEntries b fun _ => true) j.stream := .dropEntries
  rw [e]
  refine ⟨(grants.satisfied (by rw [quenched]; rfl)).trans quenched, grants.due due,
    fun enabled room => ?_⟩
  rw [State.dropEntries_notices, ← hu, ← clock]
  exact State.judgeAll_posts nodup mem ho hs nobody (by rwa [mask]) (by omega)

/-! ## HOLDING entered (07 R136) -/

/-- A bay that has entered HOLDING, before it gives up its queue. -/
def Bay.holds (x : Bay) (timer : Timer) : Bay :=
  { x with ctl := { x.ctl with state := .holding, holdingTimer := some timer },
           counters := x.counters.modify BayCounter.holdingEntries.index satInc }

theorem State.enterHolding_eq (s : State) (b : BayId) :
    s.enterHolding b =
      ((s.setBay b ((s.bay b).holds ⟨s.clock.ticks, s.config.holdingTime * 1000⟩)).post
        (.bayState b (s.bay b).ctl.state .holding .qualificationLost (s.bay b).ctl.vehicle 0 0
          false)).withhold b (s.bay b).ctl.state := by
  simp [State.enterHolding, State.enter, State.startTimer, Bay.holds, State.post_setBay]

theorem State.takeQualificationLost_service {s : State} {b : BayId}
    (h : (s.bay b).ctl.state = .serving ∨ (s.bay b).ctl.state = .departing) :
    s.takeQualificationLost b = s.enterHolding b := by
  unfold State.takeQualificationLost
  rcases h with h | h <;> rw [h]

/-- A bay whose port has just lost its qualification, but for the counters. -/
structure Bay.disqualified (x y : Bay) : Prop where
  only : y = { x with port := { x.port with qualified := false, qualCount := 0 },
                      counters := y.counters }
  lost : y.counters.get BayCounter.qualificationsLost.index =
    satInc (x.counters.get BayCounter.qualificationsLost.index)
  holding : y.counters.get BayCounter.holdingEntries.index =
    x.counters.get BayCounter.holdingEntries.index

/-- The two ways of losing a qualification, and what they count (06 R118, R120). -/
theorem exec_disqualifies {s : State} {b : BayId} {i : Instr} {n : BayCounter}
    (ht : (s.bay b).port.phase = .trained) (hq : (s.bay b).port.qualified = true)
    (hi : (i = .watchdogTwoPeriods b ∧ n = .watchdogLosses) ∨
      (∃ bytes, i = .bayFrameError b bytes ∧ s.config.errorMode = .relatch ∧ n = .relatches ∧
        (judgeBayFrame bytes = .checkError ∨ judgeBayFrame bytes = .unknownKind ∨
          judgeBayFrame bytes = .lengthError))) :
    ∃ x, exec i s = .next ((s.setBay b x).takeQualificationLost b) ∧ (s.bay b).disqualified x ∧
      x.counters.get n.index = satInc ((s.bay b).counters.get n.index) ∧ n ≠ .holdingEntries ∧
      n ≠ .gapJoins ∧
      ∀ bytes c, i = .bayFrameError b bytes → (judgeBayFrame bytes).isError c →
        x.counters.get c.index = satInc ((s.bay b).counters.get c.index) := by
  rcases hi with ⟨rfl, rfl⟩ | ⟨bytes, rfl, mode, rfl, error⟩
  · refine ⟨_, congrArg _ (State.watchdogTwo_eq ht hq), ⟨rfl, ?_, ?_⟩, ?_, by decide, by decide,
      nofun⟩
    all_goals simp [Bay.unqualified, counters_modify_ne]
  · obtain ⟨c, hc⟩ : ∃ c, (judgeBayFrame bytes).isError c := by
      rcases error with e | e | e <;> simp [BayVerdict.isError, e]
    refine ⟨_, congrArg _ (State.badFrame_relatch hc ht hq mode), ⟨rfl, ?_, ?_⟩, ?_, by decide,
      by decide, ?_⟩
    case refine_4 =>
      rintro _ d ⟨⟩ hd
      rcases hd with ⟨hd, rfl⟩ | ⟨hd, rfl⟩ | ⟨hd, rfl⟩
      all_goals
        obtain rfl : c = _ := by simpa [BayVerdict.isError, hd] using hc
        simp [Bay.unqualified, Bay.counted, counters_modify_ne]
    all_goals
      rcases hc with ⟨-, rfl⟩ | ⟨-, rfl⟩ | ⟨-, rfl⟩ <;>
        simp [Bay.unqualified, Bay.counted, counters_modify_ne]

/-- Settles O36: the port loses its qualification, and the bay enters HOLDING and withholds its
blocks. -/
theorem qualificationLossHolds : Obligations.QualificationLossHolds := by
  intro s b i n ht hq hs hi
  obtain ⟨x, ran, lost, why, notHolding, notJoins, errors⟩ := exec_disqualifies ht hq hi
  have ctl : x.ctl = (s.bay b).ctl := by rw [lost.only]
  generalize hz : x.holds ⟨s.clock.ticks, s.config.holdingTime * 1000⟩ = z
  generalize hv : (s.setBay b z).post (.bayState b (s.bay b).ctl.state .holding .qualificationLost
    (s.bay b).ctl.vehicle 0 0 false) = v
  have held : (s.setBay b x).takeQualificationLost b = v.withhold b (s.bay b).ctl.state := by
    rw [State.takeQualificationLost_service (by rwa [State.setBay_bay, ctl]), State.enterHolding_eq,
      State.setBay_bay, State.setBay_setBay, ctl, ← hv, ← hz]
    rfl
  have bay : v.bay b = z := by rw [← hv, State.post_bay, State.setBay_bay]
  have others : s.sameOtherBays v b := fun a ha => by
    rw [← hv, State.post_bay, State.setBay_bay_ne _ _ (Ne.symm ha)]
  have count {k : BayCounter} (hk : k ≠ .holdingEntries) :
      z.counters.get k.index = x.counters.get k.index := by
    rw [← hz]; exact counters_modify_ne hk
  obtain ⟨shed, queue, rest, frame⟩ := v.withhold_spec b (s.bay b).ctl.state
  obtain ⟨loads, uplink, mgmt, resume, clock⟩ := State.fields_of_blockFrame
    (frame.trans (by rw [← hv, State.post_blockFrame, State.setBay_blockFrame] :
      v.blockFrame = s.blockFrame))
  rw [bay] at shed
  obtain ⟨port', ctl', -, activation', inventory', channels'⟩ := shed.fields
  have kept : z = { x with ctl := z.ctl, counters := z.counters } := by rw [← hz]; rfl
  rw [lost.only] at kept
  refine ⟨_, ran.trans (congrArg _ held), ?ctl, ?port, queue, ?channels, ?jobs, ?inventory,
    ?activation, ?why, ?lost, ?errors, ?holding, ?serving, ?departing, ?bays, loads, resume, uplink⟩
  case ctl => rw [ctl', ← hz, Bay.holds, ctl]
  case port => rw [port', kept]
  case channels => rw [channels', kept]
  case jobs =>
    intro p
    refine (shed.jobs p).trans ?_
    rw [kept]
    rfl
  case inventory => rw [inventory', kept]
  case activation => rw [activation', kept]
  case why => exact (shed.counts n notJoins).trans ((count notHolding).trans why)
  case lost =>
    exact (shed.counts _ (by decide)).trans ((count (by decide)).trans lost.lost)
  case errors =>
    intro bytes c hi hc
    have sort : c ≠ .gapJoins ∧ c ≠ .holdingEntries := by
      rcases hc with ⟨-, rfl⟩ | ⟨-, rfl⟩ | ⟨-, rfl⟩ <;> decide
    exact (shed.counts c sort.1).trans ((count sort.2).trans (errors bytes c hi hc))
  case holding =>
    refine (shed.counts _ (by decide)).trans ?_
    rw [← hz, Bay.holds, Table.get_modify_self, lost.holding]
    rfl
  case serving =>
    intro serving
    obtain ⟨mask, length⟩ := (s.setBay b z).post_notices
      (.bayState b (s.bay b).ctl.state .holding .qualificationLost (s.bay b).ctl.vehicle 0 0 false)
    rw [hv] at mask length
    rw [serving]
    refine State.withhold_withheld ?_ ?_ ?_ others ?_ mask length
    · rw [← hv, State.post_streams, State.setBay_streams]
    · rw [bay, kept]
    · rw [bay, ← hz]; nofun
    · rw [← hv, State.post_clock, State.setBay_clock]
  case departing =>
    intro departing empty
    have same : v.withhold b (s.bay b).ctl.state = v := by
      refine State.withhold_nothing (by simp [departing]) ?_
      rw [bay, kept]
      exact empty
    rw [same, bay, ← hv]
    refine ⟨by rw [kept], ⟨?_, ?_, ?_⟩, ?_⟩ <;> simp
  case bays => exact fun a ha => (rest a ha).trans (others a ha)

end Sys2Proof.Machine

namespace Sys2Proof.Machine

/-! SUPPORT. What teardown takes from a bay: its blocks given up, its resume records written, and its
activation abandoned (05 R104, 07 R137, R141). -/

/-! ## A counter incremented several times -/

theorem Table.modify_modify {n : Nat} {α : Type} (t : Table n α) (i : Fin n) (f g : α → α) :
    (t.modify i f).modify i g = t.modify i fun a => g (f a) := by
  simp [Table.modify]

theorem repeat_satInc (n : Nat) (w : Word) :
    Nat.repeat satInc n (satInc w) = satInc (Nat.repeat satInc n w) := by
  induction n with
  | zero => rfl
  | succ n ih => exact congrArg satInc ih

theorem State.bumpBy_eq (s : State) (b : BayId) (k : BayCounter) (n : Nat) :
    s.bumpBy b k n = s.setBay b { s.bay b with
      counters := (s.bay b).counters.modify k.index (Nat.repeat satInc n) } := by
  induction n with
  | zero =>
    simp only [Table.modify, Nat.repeat, Table.set_get_self]
    exact (s.setBay_self b).symm
  | succ n ih =>
    have e : s.bumpBy b k (n + 1) = (s.bumpBy b k n).bump b k := rfl
    rw [e, ih, State.bump_eq, State.modBay_eq, State.setBay_bay, State.setBay_setBay,
      Table.modify_modify]
    rfl

/-! ## The offsets of a bay needed again (03 R62, 07 R137) -/

/-- A job once offsets of it have been made needed, one after another. -/
def Job.needing (j : Job) (l : List Nat) : Job := { j with gaps := l.foldl gapsNeeding j.gaps }

theorem Job.needing_needing (j : Job) (l m : List Nat) :
    (j.needing l).needing m = j.needing (l ++ m) := by
  simp [Job.needing, List.foldl_append]

/-- The offsets that a bay's channels have in flight for the job of a place, in the order of log 28. -/
def Job.inFlightOn (j : Job) (p : Place) (l : List Channel) : List Nat :=
  (l.filter (·.job = some p)).flatMap fun ch => ch.inFlight.map fun f => j.offsetOf f.sequence

theorem Job.inFlightOn_needing (j : Job) (d : List Nat) (p : Place) (l : List Channel) :
    (j.needing d).inFlightOn p l = j.inFlightOn p l := rfl

theorem State.dropEntries_job (b : BayId) (p : Place) (l : List TxEntry) (s : State) :
    (l.foldl (fun t e => t.dropEntry b e) s).job b p =
      (s.job b p).map (·.needing ((l.filter (·.place = p)).map (·.offset))) := by
  induction l generalizing s with
  | nil => cases h : s.job b p <;> simp [h, Job.needing]
  | cons e l ih =>
    rw [List.foldl_cons, ih]
    by_cases h : e.place = p
    · subst h
      rw [State.dropEntry_job, Option.map_map]
      simp [Job.needing, Function.comp_def]
    · rw [State.dropEntry_job_ne _ _ _ h]
      simp [h]

/-- The in-flight list of a channel given up by the job that holds it. -/
def State.giveUpChannel (s : State) (b : BayId) (ch : Channel) : State :=
  match ch.job with
  | none => s
  | some p => match s.job b p with
    | none => s
    | some j => ch.inFlight.foldl (fun u f => u.makeNeeded b p (j.offsetOf f.sequence)) s

theorem State.giveUpChannel_job (s : State) (b : BayId) (ch : Channel) (p : Place) :
    (s.giveUpChannel b ch).job b p = (s.job b p).map fun j => j.needing (j.inFlightOn p [ch]) := by
  unfold State.giveUpChannel
  split
  · next free => cases h : s.job b p <;> simp [free, Job.inFlightOn, Job.needing]
  · next q held =>
    have other : q ≠ p → ∀ j : Job, j.needing (j.inFlightOn p [ch]) = j := by
      intro h j
      simp [Job.inFlightOn, Job.needing, held, h]
    split
    · next none =>
      by_cases e : q = p
      · subst e
        simp [none]
      · cases h : s.job b p <;> simp [other e]
    · next j hj =>
      by_cases e : q = p
      · subst e
        have made := State.makeNeeded_all b q (ch.inFlight.map fun f => j.offsetOf f.sequence) s
        rw [List.foldl_map] at made
        rw [made, hj]
        simp [Job.inFlightOn, Job.needing, held]
      · rw [foldl_keeps (fun t : State => t.job b p) _ (fun t f => t.makeNeeded_job_ne b _ e)]
        cases h : s.job b p <;> simp [other e]

theorem State.giveUpChannels_job (b : BayId) (p : Place) (l : List Channel) (s : State) :
    (l.foldl (fun t ch => t.giveUpChannel b ch) s).job b p =
      (s.job b p).map fun j => j.needing (j.inFlightOn p l) := by
  induction l generalizing s with
  | nil => cases h : s.job b p <;> simp [h, Job.needing, Job.inFlightOn]
  | cons ch l ih =>
    rw [List.foldl_cons, ih, State.giveUpChannel_job, Option.map_map]
    congr 1
    funext j
    have split : j.inFlightOn p (ch :: l) = j.inFlightOn p [ch] ++ j.inFlightOn p l := by
      unfold Job.inFlightOn
      rw [← List.flatMap_append, ← List.filter_append, List.singleton_append]
    rw [Function.comp_apply, Job.inFlightOn_needing, Job.needing_needing, split]

theorem State.giveUpChannel_regapped (s : State) (b : BayId) (ch : Channel) :
    (s.bay b).regapped ((s.giveUpChannel b ch).bay b) := by
  unfold State.giveUpChannel
  split
  · exact .refl _
  · split
    · exact .refl _
    · exact foldl_inv (fun t : State => (s.bay b).regapped (t.bay b)) _
        (fun t f h => h.trans (t.makeNeeded_regapped b _ _)) _ s (.refl _)

theorem State.makeNeeded_blockFrame (s : State) (b : BayId) (p : Place) (d : Nat) :
    (s.makeNeeded b p d).blockFrame = s.blockFrame := by
  simp [State.blockFrame]

theorem State.giveUpChannel_blockFrame (s : State) (b : BayId) (ch : Channel) :
    (s.giveUpChannel b ch).blockFrame = s.blockFrame := by
  unfold State.giveUpChannel
  split
  · rfl
  · split
    · rfl
    · exact foldl_keeps State.blockFrame _ (fun t f => t.makeNeeded_blockFrame b _ _) _ s

/-- A bay's queue and in-flight lists emptied. -/
def Bay.emptied (x : Bay) : Bay :=
  { x with txQueue := [], channels := x.channels.map fun ch => { ch with inFlight := [] },
           deadline := { x.deadline with probe := none } }

/-- The channels' part of a bay's giving up its blocks. -/
def State.giveUpChannels (s : State) (b : BayId) : State :=
  (s.bay b).channels.foldl (fun t ch => t.giveUpChannel b ch) s

theorem State.giveUpBlocks_eq (s : State) (b : BayId) :
    s.giveUpBlocks b = ((s.dropEntries b fun _ => true).giveUpChannels b).modBay b fun x =>
      { x with channels := x.channels.map fun ch => { ch with inFlight := [] },
               deadline := { x.deadline with probe := none } } := rfl

/-- What a bay's giving up its blocks makes of it: its queue and in-flight lists are empty, and every
job needs the offsets again that it had there (03 R62, 07 R137). -/
theorem State.giveUpBlocks_spec (s : State) (b : BayId) :
    (s.bay b).emptied.regapped ((s.giveUpBlocks b).bay b) ∧
      ((s.giveUpBlocks b).bay b).txQueue = [] ∧
      (∀ p, (s.giveUpBlocks b).job b p =
        (s.job b p).map fun j => j.needing ((s.bay b).givenUp p j)) ∧
      (s.giveUpBlocks b).blockFrame = s.blockFrame := by
  have dropped := s.dropEntries_regapped b fun _ => true
  have jobs := fun p => State.dropEntries_job b p (s.bay b).txQueue s
  have queue := s.dropEntries_all_queue b
  have frame := s.dropEntries_blockFrame b fun _ => true
  have all : s.dropEntries b (fun _ => true) =
      (s.bay b).txQueue.foldl (fun t e => t.dropEntry b e) s := by
    rw [State.dropEntries, List.filter_true]
  rw [← all] at jobs
  rw [State.giveUpBlocks_eq]
  generalize s.dropEntries b (fun _ => true) = u at *
  obtain ⟨-, -, -, -, -, channels⟩ := dropped.fields
  have given : (u.bay b).regapped ((u.giveUpChannels b).bay b) :=
    foldl_inv (fun t : State => (u.bay b).regapped (t.bay b)) _
      (fun t ch h => h.trans (t.giveUpChannel_regapped b ch)) _ u (.refl _)
  have frame' : (u.giveUpChannels b).blockFrame = u.blockFrame :=
    foldl_keeps State.blockFrame _ (fun t ch => t.giveUpChannel_blockFrame b ch) _ u
  have jobs' := fun p => State.giveUpChannels_job b p (u.bay b).channels u
  have e : u.giveUpChannels b = (u.bay b).channels.foldl (fun t ch => t.giveUpChannel b ch) u := rfl
  rw [← e] at jobs'
  generalize u.giveUpChannels b = v at *
  have both := dropped.trans given
  have empty : (v.bay b).txQueue = [] := List.sublist_nil.mp (queue ▸ given.queue)
  rw [State.modBay_eq, State.setBay_bay]
  refine ⟨⟨?_, both.jobs, both.counts, ?_⟩, empty, fun p => ?_, ?_⟩
  · rw [both.only]
    rfl
  · rw [empty]
    exact List.nil_sublist _
  · have job := jobs' p
    rw [jobs p, channels, Option.map_map] at job
    simp only [State.job, State.setBay_bay] at job ⊢
    rw [job]
    congr 1
    funext j
    rw [Function.comp_apply, Job.inFlightOn_needing, Job.needing_needing]
    rfl
  · exact frame'.trans frame

end Sys2Proof.Machine

namespace Sys2Proof.Machine

/-! SUPPORT and PROOF. A bay torn down, and the drops of its link (06 R122, 07 R137, R141). -/

/-! ## Resume records written (07 R137, R141) -/

/-- The resume records of a bay's jobs as they stand, in ascending record place. -/
def State.records (s : State) (b : BayId) : List ResumeRecord :=
  match (s.bay b).ctl.vehicle with
  | none => []
  | some v =>
    ((s.bay b).jobList.filter fun pj => pj.2.resumable).map fun pj =>
      { vehicle := v, identity := pj.2.identity, start := pj.2.start, cursor := pj.2.cursor,
        gaps := pj.2.gaps, created := s.clock.seconds }

theorem State.writeResumes_records (s : State) (b : BayId) (counted : Bool) :
    (s.writeResumes b counted).resume = (s.records b).foldl ResumeTable.written s.resume := by
  rw [State.writeResumes_resume, State.records]
  cases (s.bay b).ctl.vehicle <;> rfl

@[simp] theorem State.writeResume_builderFrame (s : State) (v : Word) (j : Job) :
    (s.writeResume v j).builderFrame = s.builderFrame := by
  unfold State.writeResume
  split <;> [rfl; split <;> [rfl; split <;> rfl]]

theorem State.writeResumes_builderFrame (s : State) (b : BayId) :
    (s.writeResumes b true).builderFrame = s.builderFrame := by
  unfold State.writeResumes
  split
  · rfl
  · exact foldl_keeps State.builderFrame _ (fun t pj => by simp [State.bumpIf]) _ s

/-- Each record written is counted, and nothing else of the bay changes. -/
theorem State.writeResumes_bay (s : State) (b : BayId) :
    (s.writeResumes b true).bay b = { s.bay b with
      counters := (s.bay b).counters.modify BayCounter.resumeRecordsWritten.index
        (Nat.repeat satInc (s.records b).length) } := by
  have written : ∀ (v : Word) (l : List (Place × Job)) (t : State),
      (l.foldl (fun t pj => (t.writeResume v pj.2).bumpIf true b .resumeRecordsWritten) t).bay b =
        { t.bay b with
          counters := (t.bay b).counters.modify BayCounter.resumeRecordsWritten.index
            (Nat.repeat satInc l.length) } := by
    intro v l
    induction l with
    | nil =>
      intro t
      simp only [List.foldl_nil, List.length_nil, Table.modify, Nat.repeat, Table.set_get_self]
    | cons a l ih =>
      intro t
      have bay : (t.writeResume v a.2).bay b = t.bay b := by
        rw [State.bay, State.writeResume_bays, State.bay]
      rw [List.foldl_cons, ih]
      simp only [State.bumpIf, if_true, State.bump_eq, State.modBay_eq, State.setBay_bay, bay,
        Table.modify_modify, repeat_satInc]
      rfl
  unfold State.writeResumes State.records
  cases (s.bay b).ctl.vehicle with
  | none => simp only [List.length_nil, Table.modify, Nat.repeat, Table.set_get_self]
  | some v => simp only [written, List.length_map]

/-- The jobs of a bay whose jobs have all been changed in their places. -/
theorem Bay.jobList_map {x y : Bay} {f : Place → Job → Job}
    (h : ∀ p, y.jobs.get p = (x.jobs.get p).map (f p)) :
    y.jobList = x.jobList.map fun pj => (pj.1, f pj.1 pj.2) := by
  simp only [Bay.jobList, h, List.map_filterMap, Option.map_map]
  rfl

/-- The records that a bay leaves once it has given up its blocks are those of the claims. -/
theorem State.giveUpBlocks_records (s : State) (b : BayId) :
    (s.giveUpBlocks b).records b = s.savedRecords b := by
  obtain ⟨shed, -, jobs, frame⟩ := s.giveUpBlocks_spec b
  obtain ⟨-, -, -, -, clock⟩ := State.fields_of_blockFrame frame
  have list := Bay.jobList_map (f := fun p j => j.needing ((s.bay b).givenUp p j)) jobs
  obtain ⟨-, ctl, -⟩ := shed.fields
  have vehicle : ((s.giveUpBlocks b).bay b).ctl.vehicle = (s.bay b).ctl.vehicle := by rw [ctl]; rfl
  simp only [State.records, State.savedRecords, vehicle, clock, list]
  cases (s.bay b).ctl.vehicle with
  | none => rfl
  | some v => simp only [List.filter_map, List.map_map]; rfl

/-- The records are read off the bay's vehicle, jobs, queue and channels, and the clock. -/
theorem State.savedRecords_congr {s t : State} {b : BayId} (clock : t.clock = s.clock)
    (vehicle : (t.bay b).ctl.vehicle = (s.bay b).ctl.vehicle)
    (jobs : (t.bay b).jobs = (s.bay b).jobs) (queue : (t.bay b).txQueue = (s.bay b).txQueue)
    (channels : (t.bay b).channels = (s.bay b).channels) :
    t.savedRecords b = s.savedRecords b := by
  simp only [State.savedRecords, Bay.jobList, Bay.givenUp, clock, vehicle, jobs, queue, channels]

/-! ## An activation abandoned, and replacements applied (01 R6, 05 R104) -/

/-- An activation abandoned writes its controller, the control frames that wait, and one counter. -/
theorem State.abandonActivation_writes (s : State) (b : BayId) :
    ∃ q a n, s.abandonActivation b = s.setBay b { s.bay b with
        port := { (s.bay b).port with control := (s.bay b).port.control.filter q },
        activation := a, counters := n } ∧
      ∀ k : BayCounter, k ≠ .activationsAbandoned →
        n.get k.index = (s.bay b).counters.get k.index := by
  have stays : ∃ q a n, s = s.setBay b { s.bay b with
      port := { (s.bay b).port with control := (s.bay b).port.control.filter q },
      activation := a, counters := n } ∧
      ∀ k : BayCounter, k ≠ .activationsAbandoned →
        n.get k.index = (s.bay b).counters.get k.index := by
    refine ⟨fun _ => true, (s.bay b).activation, (s.bay b).counters, ?_, fun _ _ => rfl⟩
    rw [List.filter_true]
    exact (s.setBay_self b).symm
  unfold State.abandonActivation
  dsimp only
  split
  · exact stays
  · exact stays
  all_goals
    simp only [State.removeControl, State.modPort_eq, State.setActivation_eq, State.bump_eq,
      State.modBay_eq, State.setBay_bay, State.setBay_setBay]
    exact ⟨_, _, _, rfl, fun k hk => counters_modify_ne hk⟩

theorem State.applyReplacements_none {s : State} (h : ∀ i, (s.entry i).replacement = none) :
    s.applyReplacements = s := by
  have none : allEntries.filter s.replaceable = [] :=
    List.filter_eq_nil_iff.mpr fun i _ => by simp [State.replaceable, h i]
  unfold State.applyReplacements
  dsimp only
  rw [none]
  rfl

/-- The replacements of entries leave a bay that is not SERVING. -/
theorem State.applyReplacements_away {s : State} {b : BayId}
    (h : (s.bay b).ctl.state ≠ .serving) : s.applyReplacements.bay b = s.bay b := by
  obtain ⟨m, -, e | e⟩ := s.applyReplacements_cases <;> rw [e]
  · rfl
  · exact State.buildAll_away h

/-! ## The frame of a teardown -/

/-- What a teardown cannot change, whatever the builder then does: all but the blocks, the bays, the
notices, the counters, the manifest and the resume records. -/
def State.teardownFrame (s : State) : State :=
  { s.blockFrame with manifest := State.reset.manifest, resume := State.reset.resume }

theorem State.fields_of_teardownFrame {s t : State} (h : t.teardownFrame = s.teardownFrame) :
    t.config = s.config ∧ t.departures = s.departures ∧ t.uplink = s.uplink ∧ t.mgmt = s.mgmt ∧
      t.clock = s.clock := by
  have keep {α : Type} (g : State → α) : g t.teardownFrame = g s.teardownFrame := congrArg g h
  exact ⟨keep State.config, keep State.departures, keep State.uplink, keep State.mgmt,
    keep State.clock⟩

theorem State.teardownFrame_of_blockFrame {s t : State} (h : t.blockFrame = s.blockFrame) :
    t.teardownFrame = s.teardownFrame := by
  simp only [State.teardownFrame, h]

theorem State.teardownFrame_of_builderFrame {s t : State} (h : t.builderFrame = s.builderFrame) :
    t.teardownFrame = s.teardownFrame := by
  have keep {α : Type} (g : State → α) : g t.builderFrame = g s.builderFrame := congrArg g h
  exact keep State.teardownFrame

theorem State.applyReplacements_teardownFrame (s : State) :
    s.applyReplacements.teardownFrame = s.teardownFrame := by
  obtain ⟨m, -, e | e⟩ := s.applyReplacements_cases <;> rw [e]
  · rfl
  · exact (State.teardownFrame_of_builderFrame (State.buildAll_builderFrame _)).trans rfl

/-! ## A bay torn down (07 R137) -/

/-- A bay that has become VACANT, before it gives anything up: step 1 of the rule. -/
def Bay.vacated (x : Bay) : Bay :=
  { x with ctl := { x.ctl with
      state := .vacant, intakeTimer := none, holdingTimer := none, pendingHello := none } }

/-- Steps 1 to 4 of a teardown: the bay is VACANT, its blocks are given up, its resume records are
written, and its activation is abandoned. -/
def State.surrendered (s : State) (b : BayId) : State :=
  let t := s.setBay b (s.bay b).vacated
  let u := (t.judgeLeft (s.bay b).ctl.state (s.bay b).receivingStreams).giveUpBlocks b
  ((u.writeResumes b true).abandonActivation b).setActivation b .idle

/-- A bay without its jobs: step 5 of the rule. -/
def Bay.jobless (x : Bay) : Bay := { x with jobs := Table.fill 8 none, endOrder := [] }

/-- What a torn-down bay no longer holds: steps 6 and 7 of the rule. -/
def Bay.cleared (x : Bay) : Bay :=
  { x with inventory := [], truncated := false, channels := [],
           ctl := { x.ctl with vehicle := none, announced := none, channelCount := none,
                               credits := none, vehicleState := none, period := Config.idlePeriod },
           deadline := { x.deadline with probe := none, urgency := 0, remaining := 0,
                                         estimate := 0, slack := none } }

theorem State.teardown_eq (s : State) (b : BayId) (cause : DropCause) :
    ∃ n, s.teardown b cause =
      ((((((s.surrendered b).modBay b Bay.jobless).applyReplacements).judgeAll
        ((s.bay b).jobList.map fun pj => pj.2.stream)).modBay b Bay.cleared).post n).bump b
          .teardowns :=
  ⟨_, rfl⟩

/-- A port without control frames is not changed by dropping some. -/
theorem Port.filter_control {p : Port} (h : p.control = []) (q : ControlFrame → Bool) :
    { p with control := p.control.filter q } = p := by
  have same : p.control.filter q = p.control := by rw [h]; rfl
  rw [same]

/-- What steps 1 to 4 leave, of a bay whose control queue is empty. -/
structure State.surrenders (s t : State) (b : BayId) : Prop where
  port : (t.bay b).port = (s.bay b).port
  ctl : (t.bay b).ctl = (s.bay b).vacated.ctl
  service : (t.bay b).deadline.serviceTime = (s.bay b).deadline.serviceTime
  activation : (t.bay b).activation = .idle
  queue : (t.bay b).txQueue = []
  written : t.bayCounter b .resumeRecordsWritten = Nat.repeat satInc (s.savedRecords b).length
    (s.bayCounter b .resumeRecordsWritten)
  counts : ∀ k : BayCounter, k ≠ .gapJoins → k ≠ .activationsAbandoned →
    k ≠ .resumeRecordsWritten → t.bayCounter b k = s.bayCounter b k
  resume : t.resume = (s.savedRecords b).foldl ResumeTable.written s.resume
  manifest : t.manifest = s.manifest
  frame : t.teardownFrame = s.teardownFrame

theorem State.surrendered_surrenders {s : State} {b : BayId}
    (hc : (s.bay b).port.control = []) : s.surrenders (s.surrendered b) b := by
  -- step 1, and the streams judged as the bay leaves SERVING
  obtain ⟨v, hv⟩ : ∃ v, v = (s.setBay b (s.bay b).vacated).judgeLeft (s.bay b).ctl.state
    (s.bay b).receivingStreams := ⟨_, rfl⟩
  obtain ⟨bays, frame⟩ := (s.setBay b (s.bay b).vacated).judgeLeft_frame (s.bay b).ctl.state
    (s.bay b).receivingStreams
  rw [← hv] at bays frame
  have bay : v.bay b = (s.bay b).vacated := by
    rw [State.bay, bays]
    exact s.setBay_bay b _
  rw [State.setBay_blockFrame] at frame
  obtain ⟨-, -, -, resume, clock⟩ := State.fields_of_blockFrame frame
  have saved : v.savedRecords b = s.savedRecords b :=
    State.savedRecords_congr clock (by rw [bay]; rfl) (by rw [bay]; rfl) (by rw [bay]; rfl)
      (by rw [bay]; rfl)
  -- step 2: its blocks given up
  obtain ⟨shed, queue, -, frame'⟩ := v.giveUpBlocks_spec b
  have records := v.giveUpBlocks_records b
  obtain ⟨w, hw⟩ : ∃ w, w = v.giveUpBlocks b := ⟨_, rfl⟩
  rw [← hw] at shed queue records frame'
  obtain ⟨port, ctl, deadline, -⟩ := shed.fields
  rw [bay] at port ctl deadline
  obtain ⟨loads, -, -, resume', -⟩ := State.fields_of_blockFrame (frame'.trans frame)
  obtain ⟨-, manifest, -⟩ := loads
  -- step 3: its resume records written
  have written := w.writeResumes_bay b
  have table := w.writeResumes_records b true
  have frame'' := w.writeResumes_builderFrame b
  have manifest' : (w.writeResumes b true).manifest = w.manifest :=
    (State.fields_of_jobFrame (State.jobFrame_of_builderFrame frame'')).1
  rw [records, saved] at written table
  -- step 4: its activation abandoned
  obtain ⟨q, a, n, abandoned, counts⟩ := (w.writeResumes b true).abandonActivation_writes b
  have e : s.surrendered b =
      ((w.writeResumes b true).abandonActivation b).setActivation b .idle := by
    rw [hw, hv]; rfl
  rw [e, abandoned, State.setActivation_eq, State.modBay_eq, State.setBay_bay, State.setBay_setBay]
  rw [written] at counts ⊢
  have before {k : BayCounter} (h : k ≠ .gapJoins) :
      (w.bay b).counters.get k.index = s.bayCounter b k := by
    refine (shed.counts k h).trans ?_
    rw [bay]
    rfl
  constructor
  case port =>
    rw [State.setBay_bay]
    exact (Port.filter_control ((congrArg Port.control port).trans hc) q).trans port
  case ctl => rw [State.setBay_bay]; exact ctl
  case service =>
    rw [State.setBay_bay]
    change (w.bay b).deadline.serviceTime = _
    rw [deadline]
    rfl
  case activation => rw [State.setBay_bay]
  case queue => rw [State.setBay_bay]; exact queue
  case written =>
    rw [State.bayCounter, State.setBay_bay]
    refine (counts _ (by decide)).trans ?_
    rw [Table.get_modify_self, before (by decide)]
  case counts =>
    intro k h1 h2 h3
    rw [State.bayCounter, State.setBay_bay]
    refine (counts k h2).trans ?_
    rw [Table.get_modify_ne _ _ (BayCounter.index_ne (Ne.symm h3)), before h1]
  case resume => rw [State.setBay_resume, table, resume']
  case manifest => rw [State.setBay_manifest, manifest', manifest]
  case frame =>
    exact (State.teardownFrame_of_builderFrame frame'').trans
      (State.teardownFrame_of_blockFrame (frame'.trans frame))

/-- What a teardown makes of a bay whose control queue is empty (07 R137). -/
structure State.tornDown (s t : State) (b : BayId) : Prop where
  port : (t.bay b).port = (s.bay b).port
  ctl : (t.bay b).ctl = Controller.initial
  jobs : (t.bay b).jobs = Table.fill 8 none
  inventory : (t.bay b).inventory = []
  truncated : (t.bay b).truncated = false
  channels : (t.bay b).channels = []
  queue : (t.bay b).txQueue = []
  activation : (t.bay b).activation = .idle
  deadline : (t.bay b).deadline =
    { Deadline.initial with serviceTime := (s.bay b).deadline.serviceTime }
  teardowns : t.bayCounter b .teardowns = satInc (s.bayCounter b .teardowns)
  written : t.bayCounter b .resumeRecordsWritten = Nat.repeat satInc (s.savedRecords b).length
    (s.bayCounter b .resumeRecordsWritten)
  resume : (∀ i, (s.entry i).replacement = none) →
    t.resume = (s.savedRecords b).foldl ResumeTable.written s.resume
  frame : t.teardownFrame = s.teardownFrame

theorem State.teardown_tornDown {s : State} {b : BayId} (cause : DropCause)
    (hc : (s.bay b).port.control = []) : s.tornDown (s.teardown b cause) b := by
  have given := State.surrendered_surrenders hc
  obtain ⟨n, e⟩ := s.teardown_eq b cause
  rw [e]
  generalize s.surrendered b = u at given
  -- step 5: its jobs discarded, which no builder run makes up for in a VACANT bay
  obtain ⟨x, hx⟩ : ∃ x, x = (u.bay b).jobless := ⟨_, rfl⟩
  rw [u.modBay_eq b Bay.jobless, ← hx]
  have vacant : ((u.setBay b x).bay b).ctl.state ≠ .serving := by
    rw [State.setBay_bay, hx, Bay.jobless, given.ctl]
    nofun
  have replaced : (u.setBay b x).applyReplacements.bay b = x :=
    (State.applyReplacements_away vacant).trans (State.setBay_bay ..)
  have frame := (u.setBay b x).applyReplacements_teardownFrame
  have kept : (∀ i, (s.entry i).replacement = none) →
      (u.setBay b x).applyReplacements.resume = u.resume := fun h => by
    rw [State.applyReplacements_none, State.setBay_resume]
    intro i
    rw [State.setBay_entry, State.entry, given.manifest]
    exact h i
  generalize (u.setBay b x).applyReplacements = v at *
  -- steps 6 to 8
  generalize (s.bay b).jobList.map _ = l
  obtain ⟨y, hy⟩ : ∃ y : Bay, y = (Bay.cleared x).counted .teardowns := ⟨_, rfl⟩
  have e : (((v.judgeAll l).modBay b Bay.cleared).post n).bump b .teardowns =
      ((v.judgeAll l).post n).setBay b y := by
    rw [State.modBay_eq, State.judgeAll_bay, replaced, State.bump_eq, State.modBay_eq,
      State.post_bay, State.setBay_bay, State.post_setBay, State.setBay_setBay, hy]
    rfl
  rw [e]
  have count {k : BayCounter} (h : k ≠ .teardowns) :
      y.counters.get k.index = u.bayCounter b k := by
    rw [hy, hx]
    exact counters_modify_ne h
  constructor
  case port => rw [State.setBay_bay, ← given.port, hy, hx]; rfl
  case ctl =>
    rw [State.setBay_bay, hy, hx]
    change (Bay.cleared { u.bay b with ctl := (u.bay b).ctl }).ctl = _
    rw [given.ctl]
    rfl
  case jobs => rw [State.setBay_bay, hy, hx]; rfl
  case inventory => rw [State.setBay_bay, hy]; rfl
  case truncated => rw [State.setBay_bay, hy]; rfl
  case channels => rw [State.setBay_bay, hy]; rfl
  case queue => rw [State.setBay_bay, ← given.queue, hy, hx]; rfl
  case activation => rw [State.setBay_bay, ← given.activation, hy, hx]; rfl
  case deadline => rw [State.setBay_bay, ← given.service, hy, hx]; rfl
  case teardowns =>
    rw [State.bayCounter, State.setBay_bay, hy, Bay.counted, Table.get_modify_self,
      ← given.counts .teardowns (by decide) (by decide) (by decide), hx]
    rfl
  case written => rw [State.bayCounter, State.setBay_bay, count (by decide), given.written]
  case resume =>
    intro h
    rw [State.setBay_resume, State.post_resume, State.judgeAll_resume, kept h, given.resume]
  case frame =>
    refine Eq.trans ?_ (frame.trans given.frame)
    exact State.teardownFrame_of_blockFrame
      ((State.post_blockFrame ..).trans (State.judgeAll_blockFrame ..))

/-! ## The link dropped (06 R122) -/

/-- A bay whose port has dropped: its port cleared, and the PASS-DOWN frames flushed counted. -/
def Bay.linkLost (x : Bay) (phase : LinkPhase) (timer : Option Timer) : Bay :=
  { x with port := x.port.dropped phase timer,
           counters := x.counters.modify BayCounter.passDownFlushed.index
             (Nat.repeat satInc x.port.passDown.length) }

/-- The timer of the phase that a drop enters. -/
def State.dropTimer (s : State) (cause : DropCause) : Option Timer :=
  if cause.phase = .forced then some (s.startTimer Config.forcedTime) else none

theorem State.linkLost_eq (s : State) (b : BayId) (phase : LinkPhase) (timer : Option Timer) :
    (s.modPort b fun y => y.dropped phase timer).bumpBy b .passDownFlushed
      (s.bay b).port.passDown.length = s.setBay b ((s.bay b).linkLost phase timer) := by
  rw [State.bumpBy_eq, State.modPort_eq, State.modBay_eq, State.setBay_bay, State.setBay_setBay]
  rfl

/-- A drop of a link that is up or coming up, on a bay that is not VACANT. -/
theorem State.dropLink_eq {s : State} {b : BayId} (cause : DropCause)
    (hp : (s.bay b).port.phase = .probing ∨ (s.bay b).port.phase = .switching ∨
      (s.bay b).port.phase = .trained) (hs : (s.bay b).ctl.state ≠ .vacant) :
    s.dropLink b cause =
      ((s.setBay b ((s.bay b).linkLost cause.phase (s.dropTimer cause))).teardown b cause).bump b
        cause.counter := by
  have course : s.dropLink b cause =
      (((s.modPort b fun y => y.dropped cause.phase (s.dropTimer cause)).bumpBy b .passDownFlushed
        (s.bay b).port.passDown.length).teardown b cause).bump b cause.counter := by
    unfold State.dropLink
    dsimp only
    rcases hp with hp | hp | hp <;> rw [hp] <;> exact congrArg (State.bump · b _) (if_neg hs)
  rw [course, State.linkLost_eq]

/-- What a drop makes of a bay that is not VACANT, whose signal is as `signal` says (06 R122). -/
structure State.linkDropped (s t : State) (b : BayId) (phase : LinkPhase) (signal : Bool)
    (timer : Option Timer) : Prop where
  port : (t.bay b).port = { Port.initial with
    phase := phase, watchdog := (s.bay b).port.watchdog, signal := signal, forcedTimer := timer }
  ctl : (t.bay b).ctl = Controller.initial
  jobs : (t.bay b).jobs = Table.fill 8 none
  inventory : (t.bay b).inventory = []
  truncated : (t.bay b).truncated = false
  channels : (t.bay b).channels = []
  queue : (t.bay b).txQueue = []
  activation : (t.bay b).activation = .idle
  deadline : (t.bay b).deadline =
    { Deadline.initial with serviceTime := (s.bay b).deadline.serviceTime }
  teardowns : t.bayCounter b .teardowns = satInc (s.bayCounter b .teardowns)
  written : t.bayCounter b .resumeRecordsWritten = Nat.repeat satInc (s.savedRecords b).length
    (s.bayCounter b .resumeRecordsWritten)
  resume : (∀ i, (s.entry i).replacement = none) →
    t.resume = (s.savedRecords b).foldl ResumeTable.written s.resume
  frame : t.teardownFrame = s.teardownFrame

/-- A bay whose signal and counters alone have changed, as the causes of a drop change it first. -/
def Bay.signalled (x : Bay) (signal : Bool) (n : Table 66 Word) : Bay :=
  { x with port := { x.port with signal := signal }, counters := n }

theorem DropCause.counter_ne (cause : DropCause) :
    cause.counter ≠ .teardowns ∧ cause.counter ≠ .resumeRecordsWritten := by
  cases cause <;> decide

/-- A drop from such a bay, whose counters are still those that a teardown counts in. -/
theorem State.dropLink_linkDropped {s : State} {b : BayId} (cause : DropCause) (signal : Bool)
    {n : Table 66 Word}
    (counts : ∀ k : BayCounter, k = .teardowns ∨ k = .resumeRecordsWritten →
      n.get k.index = s.bayCounter b k)
    (hp : (s.bay b).port.phase = .probing ∨ (s.bay b).port.phase = .switching ∨
      (s.bay b).port.phase = .trained) (hs : (s.bay b).ctl.state ≠ .vacant) :
    s.linkDropped ((s.setBay b ((s.bay b).signalled signal n)).dropLink b cause) b cause.phase
      signal (s.dropTimer cause) := by
  obtain ⟨x, hx⟩ : ∃ x, x = (s.bay b).signalled signal n := ⟨_, rfl⟩
  rw [← hx]
  obtain ⟨z, hz⟩ : ∃ z, z = x.linkLost cause.phase (s.dropTimer cause) := ⟨_, rfl⟩
  have e : (s.setBay b x).dropLink b cause =
      ((s.setBay b z).teardown b cause).bump b cause.counter := by
    rw [State.dropLink_eq cause (by rw [State.setBay_bay, hx]; exact hp)
      (by rw [State.setBay_bay, hx]; exact hs), State.setBay_bay, State.setBay_setBay, hz]
    rfl
  have torn := (s.setBay b z).teardown_tornDown (b := b) cause
    (by rw [State.setBay_bay, hz]; rfl)
  obtain ⟨not_teardowns, not_written⟩ := cause.counter_ne
  have saved : (s.setBay b z).savedRecords b = s.savedRecords b :=
    State.savedRecords_congr rfl (by rw [State.setBay_bay, hz, hx]; rfl)
      (by rw [State.setBay_bay, hz, hx]; rfl) (by rw [State.setBay_bay, hz, hx]; rfl)
      (by rw [State.setBay_bay, hz, hx]; rfl)
  have before {k : BayCounter} (h : k = .teardowns ∨ k = .resumeRecordsWritten) :
      (s.setBay b z).bayCounter b k = s.bayCounter b k := by
    have other : k ≠ .passDownFlushed := by rcases h with rfl | rfl <;> decide
    rw [State.bayCounter, State.setBay_bay, hz, ← counts k h, hx]
    exact Table.get_modify_ne _ _ (BayCounter.index_ne other.symm)
  rw [e]
  generalize (s.setBay b z).teardown b cause = t at torn
  rw [State.bump_eq, State.modBay_eq]
  constructor
  case port => rw [State.setBay_bay, torn.port, State.setBay_bay, hz, hx]; rfl
  case ctl => rw [State.setBay_bay]; exact torn.ctl
  case jobs => rw [State.setBay_bay]; exact torn.jobs
  case inventory => rw [State.setBay_bay]; exact torn.inventory
  case truncated => rw [State.setBay_bay]; exact torn.truncated
  case channels => rw [State.setBay_bay]; exact torn.channels
  case queue => rw [State.setBay_bay]; exact torn.queue
  case activation => rw [State.setBay_bay]; exact torn.activation
  case deadline => rw [State.setBay_bay, torn.deadline, State.setBay_bay, hz, hx]; rfl
  case teardowns =>
    rw [State.bayCounter, State.setBay_bay]
    refine (counters_modify_ne not_teardowns.symm).trans (torn.teardowns.trans ?_)
    rw [before (.inl rfl)]
  case written =>
    rw [State.bayCounter, State.setBay_bay]
    refine (counters_modify_ne not_written.symm).trans (torn.written.trans ?_)
    rw [before (.inr rfl), saved]
  case resume =>
    intro h
    rw [State.setBay_resume, torn.resume (fun i => by rw [State.setBay_entry]; exact h i), saved]
    rfl
  case frame => exact torn.frame

/-! ## The causes of a drop (06 R110, R112, R121, 07 R130, R136) -/

/-- The five causes of the claim, each as the drop it makes. -/
theorem exec_drops {s : State} {b : BayId} {i : Instr} {down : Bool}
    (h : (i = .signalLost b ∧ down = true ∧
        ((s.bay b).port.phase = .probing ∨ (s.bay b).port.phase = .trained)) ∨
      (i = .switchFallbackExpiry b ∧ down = true ∧ (s.bay b).port.phase = .switching ∧
        (s.bay b).port.fallbackTimer.isSome) ∨
      (i = .watchdogEightPeriods b ∧ down = false ∧
        ((s.bay b).port.phase = .probing ∨ (s.bay b).port.phase = .trained)) ∨
      (i = .intakeTimerExpiry b ∧ down = false ∧ (s.bay b).ctl.intakeTimer.isSome ∧
        (s.bay b).port.phase = .trained) ∨
      (i = .holdingTimerExpiry b ∧ down = false ∧ (s.bay b).ctl.holdingTimer.isSome ∧
        (s.bay b).port.phase = .trained)) :
    ∃ (cause : DropCause) (n : Table 66 Word),
      exec i s = .next ((s.setBay b ((s.bay b).signalled
        (if down then false else (s.bay b).port.signal) n)).dropLink b cause) ∧
      cause.phase = (if down then .down else .forced) ∧
      (∀ k : BayCounter, k = .teardowns ∨ k = .resumeRecordsWritten →
        n.get k.index = s.bayCounter b k) ∧
      ((s.bay b).port.phase = .probing ∨ (s.bay b).port.phase = .switching ∨
        (s.bay b).port.phase = .trained) := by
  rcases h with ⟨rfl, rfl, hp⟩ | ⟨rfl, rfl, hp, ht⟩ | ⟨rfl, rfl, hp⟩ | ⟨rfl, rfl, ht, hp⟩ |
    ⟨rfl, rfl, ht, hp⟩
  · refine ⟨.signalLost, (s.bay b).counters, congrArg Host.Outcome.next ?_, rfl, fun _ _ => rfl,
      hp.elim .inl (.inr ∘ .inr)⟩
    rcases hp with hp | hp <;> simp only [State.signalGone, hp] <;> rfl
  · refine ⟨.signalLost, (s.bay b).counters, congrArg Host.Outcome.next ?_, rfl, fun _ _ => rfl,
      .inr (.inl hp)⟩
    exact if_pos ⟨hp, ht⟩
  · refine ⟨.watchdog, (s.bay b).counters, congrArg Host.Outcome.next ?_, rfl, fun _ _ => rfl,
      hp.elim .inl (.inr ∘ .inr)⟩
    have same := s.setBay_self b
    rcases hp with hp | hp <;> simp only [State.watchdogEight, hp] <;>
      exact congrArg (State.dropLink · b .watchdog) same.symm
  · refine ⟨.intakeTimeout, _, congrArg Host.Outcome.next (if_pos ht), rfl, fun k hk => ?_,
      .inr (.inr hp)⟩
    exact counters_modify_ne (by rcases hk with rfl | rfl <;> decide)
  · refine ⟨.holdingExpired, _, congrArg Host.Outcome.next (if_pos ht), rfl, fun k hk => ?_,
      .inr (.inr hp)⟩
    exact counters_modify_ne (by rcases hk with rfl | rfl <;> decide)

/-- Settles O37: each of the five causes is a drop of the link, which tears the bay down. -/
theorem linkDropTearsDown : Obligations.LinkDropTearsDown := by
  unfold Obligations.LinkDropTearsDown
  intro s b i down hs h
  obtain ⟨cause, n, e, phase, counts, hp⟩ := exec_drops h
  have drop := State.dropLink_linkDropped cause
    (if down then false else (s.bay b).port.signal) counts hp hs
  have timer : s.dropTimer cause = if down then none else some ⟨s.clock.ticks, 100⟩ := by
    rw [State.dropTimer, phase]
    cases down <;> rfl
  rw [phase, timer] at drop
  exact ⟨_, e, drop.port, drop.ctl, drop.jobs, drop.inventory, drop.truncated, drop.channels,
    drop.queue, drop.activation, drop.deadline, drop.teardowns, drop.written, drop.resume,
    State.fields_of_teardownFrame drop.frame⟩

end Sys2Proof.Machine

namespace Sys2Proof.Machine

/-! SUPPORT and PROOF. The frame that qualifies a port, and the entries into INTAKE, DEPARTING and
SERVING that follow (06 R117, 07 R129 to R131, R136, 03 R70). -/

/-! ## Valid frames of every kind (06 R116) -/

/-- In TRAINED a valid frame of any kind is received, and only its handing over depends on its kind. -/
theorem validFrame_received {b : BayId} {i : Instr} (h : validFrameOn b i) :
    ∃ take, ∀ s : State, (s.bay b).port.phase = .trained → exec i s = .next (s.receive b take) := by
  rcases h with ⟨code, rfl⟩ | ⟨f, rfl⟩ | ⟨v, rfl⟩ | ⟨items, rfl, h⟩ | ⟨f, rfl⟩ | ⟨f, rfl, h, h'⟩ |
    ⟨f, rfl, h⟩ | ⟨f, rfl⟩ | ⟨body, rfl, h, h'⟩
  · exact ⟨_, fun s hp => congrArg _ (State.takeCaps_service code hp)⟩
  · exact ⟨fun t => t.takeHello b f, fun _ _ => rfl⟩
  · exact ⟨fun t => t.takeHeartbeat b v, fun _ _ => rfl⟩
  · exact ⟨_, fun _ _ => congrArg _ (if_pos (by simpa [inventoryFits] using h))⟩
  · exact ⟨fun t => t.takeOpenAck b f, fun _ _ => rfl⟩
  · exact ⟨_, fun _ _ => congrArg _ (if_pos (by simp [ReceiptFrame.fits, h, h']))⟩
  · exact ⟨_, fun _ _ => congrArg _ (if_pos (by simpa [CloseResultFrame.fits] using h))⟩
  · exact ⟨fun t => t.judgeReport b f, fun _ _ => rfl⟩
  · exact ⟨_, fun _ _ => congrArg _ (if_pos (by simp [bodyFits, h, h']))⟩

/-! ## The frame that qualifies (06 R117) -/

/-- The state in which the qualifying frame is taken: the port is qualified, and the controller has
taken "qualified". -/
def State.qualifiedOn (s : State) (b : BayId) : State :=
  (s.setBay b ((s.bay b).gained s.config.threshold)).takeQualified b

theorem State.receive_gains {s : State} {b : BayId} (h : s.qualifiesNext b)
    (take : State → State) :
    s.receive b take = take ((s.qualifiedOn b).bump b .validFrames) := by
  obtain ⟨hp, hq, ht⟩ := h
  have count : (if (s.bay b).port.qualCount < s.config.threshold then (s.bay b).port.qualCount + 1
      else (s.bay b).port.qualCount) = max s.config.threshold (s.bay b).port.qualCount := by
    split <;> omega
  have reached : s.config.threshold ≤ max s.config.threshold (s.bay b).port.qualCount :=
    le_max_left _ _
  have judged : (s.modPort b fun x => { x with watchdog := 0 }).judgeQualifier b =
      s.qualifiedOn b := by
    simp only [State.judgeQualifier, State.modPort_eq, State.modBay_eq, State.setBay_bay,
      State.setBay_setBay, State.setBay_config, count]
    rw [if_pos ⟨reached, hq⟩]
    simp only [State.qualify, State.modPort_eq, State.modBay_eq, State.bump_eq, State.setBay_bay,
      State.setBay_setBay]
    rfl
  rw [State.receive, hp]
  dsimp only
  rw [judged]

/-- A port that has just heard a frame and is qualified, its count not below the threshold. -/
structure Port.settled (p : Port) (threshold : Nat) : Prop where
  phase : p.phase = .trained
  qualified : p.qualified = true
  watchdog : p.watchdog = 0
  count : threshold ≤ p.qualCount

/-- Such a port hears a further frame without a change but in the count of its frames. -/
theorem Bay.heard_settled {x : Bay} {threshold : Nat} (h : x.port.settled threshold) :
    x.heard threshold = x.counted .validFrames := by
  have count : countAfter threshold x.port.qualCount = x.port.qualCount :=
    if_neg (Nat.not_lt.mpr h.count)
  rw [Bay.heard, count, ← h.watchdog]
  rfl

theorem State.hears_settled {u : State} {b : BayId}
    (h : (u.bay b).port.settled u.config.threshold) : u.hears b := ⟨h.phase, .inl h.qualified⟩

/-- The qualifying frame is taken as a frame in the state that the qualification reaches. -/
theorem exec_qualifies {s : State} {b : BayId} {i : Instr} (h : s.qualifiesNext b)
    (settled : ((s.qualifiedOn b).bay b).port.settled (s.qualifiedOn b).config.threshold)
    (hi : validFrameOn b i) : exec i s = exec i (s.qualifiedOn b) := by
  obtain ⟨take, received⟩ := validFrame_received hi
  rw [received s h.1, received _ settled.phase, State.receive_gains h,
    State.receive_hears _ _ _ (State.hears_settled settled), Bay.heard_settled settled]
  rfl

/-- A CAPS is counted in that state (06 R113). -/
theorem exec_agentCaps_qualifies {s : State} {b : BayId} (h : s.qualifiesNext b)
    (settled : ((s.qualifiedOn b).bay b).port.settled (s.qualifiedOn b).config.threshold)
    (code : Byte) : exec (.agentCaps b code) s = .next ((s.qualifiedOn b).setBay b
      ((((s.qualifiedOn b).bay b).heard (s.qualifiedOn b).config.threshold).counted
        .capsOutsideTraining)) := by
  rw [exec_qualifies h settled (.inl ⟨code, rfl⟩)]
  refine congrArg _ ((State.takeCaps_service code settled.phase).trans ?_)
  exact State.receive_counted _ b _ _ (State.hears_settled settled) fun _ _ => rfl

/-- A HEARTBEAT is discarded where no vehicle is held (07 R135). -/
theorem State.takeHeartbeat_nobody {s : State} {b : BayId} (code : Byte)
    (h : (s.bay b).ctl.vehicle = none) : s.takeHeartbeat b code = s.bump b .heartbeatsDiscarded := by
  unfold State.takeHeartbeat
  dsimp only
  split
  · rfl
  · rw [h]
    rfl

theorem exec_heartbeat_qualifies {s : State} {b : BayId} (h : s.qualifiesNext b)
    (settled : ((s.qualifiedOn b).bay b).port.settled (s.qualifiedOn b).config.threshold)
    (code : Byte) (nobody : ((s.qualifiedOn b).bay b).ctl.vehicle = none) :
    exec (.heartbeat b code) s = .next ((s.qualifiedOn b).setBay b
      ((((s.qualifiedOn b).bay b).heard (s.qualifiedOn b).config.threshold).counted
        .heartbeatsDiscarded)) := by
  rw [exec_qualifies h settled (.inr (.inr (.inl ⟨code, rfl⟩)))]
  refine congrArg _ (State.receive_counted _ b _ _ (State.hears_settled settled) ?_)
  rintro t rfl
  exact State.takeHeartbeat_nobody code (by rw [State.setBay_bay]; exact nobody)

/-! ## INTAKE entered (07 R130, R131) -/

/-- The control frames once an INVENTORY REQUEST has been placed, unless one waits already. -/
def asking (l : List ControlFrame) : List ControlFrame :=
  if l.any ControlFrame.asksInventory then l else l ++ [.inventoryRequest false]

theorem any_asksInventory {l : List ControlFrame} :
    l.any ControlFrame.asksInventory = true ↔ ∃ own, ControlFrame.inventoryRequest own ∈ l := by
  constructor
  · intro h
    obtain ⟨f, hf, asks⟩ := List.any_eq_true.mp h
    cases f with
    | inventoryRequest own => exact ⟨own, hf⟩
    | channelOpen | channelClose | activate | revert => cases asks
  · rintro ⟨own, hf⟩
    exact List.any_eq_true.mpr ⟨_, hf, rfl⟩

/-- Asked once, the inventory is not asked for again. -/
theorem asking_asking (l : List ControlFrame) : asking (asking l) = asking l := by
  have waits : (asking l).any ControlFrame.asksInventory = true := by
    unfold asking
    split
    · next h => exact h
    · simp [ControlFrame.asksInventory]
  exact if_pos waits

theorem State.requestInventory_eq (s : State) (b : BayId) (x : Bay) :
    (s.setBay b x).requestInventory b false =
      s.setBay b { x with port := { x.port with control := asking x.port.control } } := by
  unfold State.requestInventory asking
  rw [State.setBay_bay]
  split
  · rfl
  · simp only [State.placeControl, State.modPort_eq, State.modBay_eq, State.setBay_bay,
      State.setBay_setBay]

/-- A HELLO processed on a bay whose vehicle no other bay holds writes that bay. -/
def Bay.greeted (x : Bay) (h : HelloFrame) : Bay :=
  let count := clampTo 1 4 h.channels.toNat
  let credits := clampTo 1 16 h.credits.toNat
  Bay.counted { x with
    ctl := { x.ctl.identify h with channelCount := some count, credits := some credits },
    channels := freshChannels count credits,
    port := { x.port with control := asking x.port.control } } .hellosProcessed

/-- The PASS-DOWN frames of a bay flushed and counted (06 R126). -/
def Bay.flushed (x : Bay) : Bay :=
  { x with port := { x.port with passDown := [] },
           counters := x.counters.modify BayCounter.passDownFlushed.index
             (Nat.repeat satInc x.port.passDown.length) }

theorem State.dropDuplicates_alone {s : State} {b : BayId} {v : Word}
    (h : ∀ a, a ≠ b → (s.bay a).ctl.vehicle ≠ some v) : s.dropDuplicates b v = s := by
  have none : (allBays.filter fun a => a ≠ b && (s.bay a).ctl.vehicle = some v) = [] :=
    List.filter_eq_nil_iff.mpr fun a _ => by simpa using h a
  rw [State.dropDuplicates, none]
  rfl

theorem State.flushForeign_own {s : State} {b : BayId} {v : Word}
    (h : (s.bay b).ctl.vehicle = none ∨ (s.bay b).ctl.vehicle = some v) :
    s.flushForeign b v = s := by
  unfold State.flushForeign
  rcases h with h | h <;> rw [h]
  exact if_pos rfl

theorem State.flushForeign_other {s : State} {b : BayId} {v : Word}
    (h : (s.bay b).ctl.vehicle ≠ none) (h' : (s.bay b).ctl.vehicle ≠ some v) :
    s.flushForeign b v = s.setBay b (s.bay b).flushed := by
  obtain ⟨k, hk⟩ := Option.ne_none_iff_exists'.mp h
  have ne : k ≠ v := fun e => h' (hk.trans (congrArg some e))
  unfold State.flushForeign
  rw [hk]
  dsimp only
  rw [if_neg ne, State.bumpBy_eq, State.modPort_eq, State.modBay_eq, State.setBay_bay,
    State.setBay_setBay]
  rfl

theorem State.processHello_alone {s : State} {b : BayId} {x y : Bay} {h : HelloFrame}
    (alone : ∀ a, a ≠ b → (s.bay a).ctl.vehicle ≠ some h.vehicle)
    (flush : (s.setBay b x).flushForeign b h.vehicle = s.setBay b y) :
    (s.setBay b x).processHello b h = s.setBay b (y.greeted h) := by
  have same : (s.setBay b x).dropDuplicates b h.vehicle = s.setBay b x :=
    State.dropDuplicates_alone fun a ha => by
      rw [State.setBay_bay_ne _ _ (Ne.symm ha)]
      exact alone a ha
  unfold State.processHello
  dsimp only
  rw [same, flush, State.modBay_eq, State.setBay_bay, State.setBay_setBay,
    State.requestInventory_eq, State.bump_eq, State.modBay_eq, State.setBay_bay,
    State.setBay_setBay]
  rfl

/-- Counters of two numbers count independently. -/
theorem Table.modify_comm {n : Nat} {α : Type} (t : Table n α) {i j : Fin n} (h : i ≠ j)
    (f g : α → α) : (t.modify i f).modify j g = (t.modify j g).modify i f := by
  refine Table.ext_get fun k => ?_
  by_cases hi : k = i
  · subst hi
    rw [Table.get_modify_ne _ _ (Ne.symm h), Table.get_modify_self, Table.get_modify_self,
      Table.get_modify_ne _ _ (Ne.symm h)]
  · by_cases hj : k = j
    · subst hj
      rw [Table.get_modify_self, Table.get_modify_ne _ _ (Ne.symm hi),
        Table.get_modify_ne _ _ (Ne.symm hi), Table.get_modify_self]
    · simp only [Table.get_modify_ne _ _ (Ne.symm hi), Table.get_modify_ne _ _ (Ne.symm hj)]

/-- The controller of a bay that enters INTAKE: its intake timer starts, or goes on (07 R130). -/
def Controller.takenIn (c : Controller) (now : Nat) : Controller :=
  { c with state := .intake, intakeTimer := some (c.intakeTimer.getD ⟨now, 10000⟩) }

/-- A pending HELLO, where there is one, taken and processed (07 R130). -/
def State.greet (s : State) (b : BayId) : Option HelloFrame → State
  | none => s
  | some h => (s.modCtl b fun c => { c with pendingHello := none }).processHello b h

/-- The inventory of a vehicle held is asked for (07 R130). -/
def State.askHeld (s : State) (b : BayId) : State :=
  if (s.bay b).ctl.vehicle.isSome then s.requestInventory b false else s

/-- The notice of a bay that goes from QUALIFYING to INTAKE (07 R139). -/
def State.noteIntake (s : State) (b : BayId) : State :=
  s.post (.bayState b .qualifying .intake .qualified (s.bay b).ctl.vehicle 0 0 false)

/-- INTAKE entered from QUALIFYING: its notice and timer, the pending HELLO, the INVENTORY
REQUEST. -/
theorem State.qualifiedOn_qualifying {s : State} {b : BayId} {x : Bay}
    (hs : (s.bay b).ctl.state = .qualifying)
    (hx : x = { (s.bay b).gained s.config.threshold with
      ctl := (s.bay b).ctl.takenIn s.clock.ticks }) :
    s.qualifiedOn b =
      (((s.noteIntake b).setBay b x).greet b (s.bay b).ctl.pendingHello).askHeld b := by
  obtain ⟨g, hg⟩ : ∃ g, g = (s.bay b).gained s.config.threshold := ⟨_, rfl⟩
  have ctl : g.ctl = (s.bay b).ctl := by rw [hg]; rfl
  have timer : (match (s.bay b).ctl.intakeTimer with
      | none => some (s.startTimer Config.intakeTime)
      | some t => some t) = some ((s.bay b).ctl.intakeTimer.getD ⟨s.clock.ticks, 10000⟩) := by
    cases (s.bay b).ctl.intakeTimer <;> rfl
  have entered : ((s.setBay b g).enter b .intake .qualified).modCtl b (fun c =>
      { c with intakeTimer := match c.intakeTimer with
        | none => some (s.startTimer Config.intakeTime)
        | some t => some t }) = (s.noteIntake b).setBay b x := by
    simp only [State.enter, State.modCtl_eq, State.modBay_eq, State.setBay_bay,
      State.setBay_setBay, State.post_setBay, hx, ctl, hs, Controller.takenIn, ← timer, ← hg]
    rfl
  have qualifying : ((s.setBay b g).bay b).ctl.state = .qualifying := by
    rw [State.setBay_bay, ctl, hs]
  have pending : ((s.setBay b g).bay b).ctl.pendingHello = (s.bay b).ctl.pendingHello := by
    rw [State.setBay_bay, ctl]
  rw [State.qualifiedOn, ← hg, State.takeQualified, qualifying, ← entered]
  dsimp only
  rw [State.enterIntake, pending]
  cases (s.bay b).ctl.pendingHello <;> rfl

theorem State.askHeld_nobody {s : State} {b : BayId} {x : Bay} (h : x.ctl.vehicle = none) :
    (s.setBay b x).askHeld b = s.setBay b x := by
  rw [State.askHeld, State.setBay_bay, h]
  rfl

theorem State.askHeld_held {s : State} {b : BayId} {x : Bay} (h : x.ctl.vehicle ≠ none) :
    (s.setBay b x).askHeld b =
      s.setBay b { x with port := { x.port with control := asking x.port.control } } := by
  rw [State.askHeld, State.setBay_bay, if_pos (Option.isSome_iff_ne_none.mpr h),
    State.requestInventory_eq]

/-- The bay that has processed a HELLO has asked for the inventory already. -/
theorem State.askHeld_greeted {s : State} {b : BayId} (y : Bay) (h : HelloFrame) :
    (s.setBay b (y.greeted h)).askHeld b = s.setBay b (y.greeted h) := by
  rw [State.askHeld_held (by nofun)]
  have asked : asking (y.greeted h).port.control = (y.greeted h).port.control :=
    asking_asking _
  rw [asked]

theorem State.noteIntake_bay (s : State) (b a : BayId) : (s.noteIntake b).bay a = s.bay a :=
  State.post_bay ..

/-- A pending HELLO of a vehicle that no other bay holds. -/
theorem State.greet_alone {s : State} {b : BayId} {x y : Bay} {h : HelloFrame}
    (alone : ∀ a, a ≠ b → (s.bay a).ctl.vehicle ≠ some h.vehicle)
    (flush : (s.setBay b { x with ctl := { x.ctl with pendingHello := none } }).flushForeign b
      h.vehicle = s.setBay b y) :
    ((s.setBay b x).greet b (some h)).askHeld b = s.setBay b (y.greeted h) := by
  rw [State.greet, State.modCtl_eq, State.modBay_eq, State.setBay_bay, State.setBay_setBay,
    State.processHello_alone alone flush, State.askHeld_greeted]

theorem asking_eq {l w : List ControlFrame}
    (h : ((∃ own, ControlFrame.inventoryRequest own ∈ l) ∧ w = l) ∨
      ((∀ own, ControlFrame.inventoryRequest own ∉ l) ∧ w = l ++ [.inventoryRequest false])) :
    asking l = w := by
  rcases h with ⟨waits, rfl⟩ | ⟨none, rfl⟩
  · exact if_pos (any_asksInventory.mpr waits)
  · exact if_neg fun waits => (any_asksInventory.mp waits).elim none

/-- A bay that has processed a HELLO, in the words of the claim (07 R131). -/
theorem Bay.greeted_eq (x : Bay) {h : HelloFrame} {v : VehicleState}
    (hv : readVehicleState h.vehicleState = some v) :
    x.greeted h = { x with
      ctl := { x.ctl with
        vehicle := some h.vehicle, announced := some h.period,
        period := max 100 (min 2000 h.period.toNat), vehicleState := some v,
        channelCount := some (max 1 (min 4 h.channels.toNat)),
        credits := some (max 1 (min 16 h.credits.toNat)) },
      channels := List.replicate (max 1 (min 4 h.channels.toNat))
        { job := none, credit := max 1 (min 16 h.credits.toNat), inFlight := [], tag := 0,
          openTimer := none, openExpired := false, closeTimer := none },
      port := { x.port with control := asking x.port.control },
      counters := x.counters.modify BayCounter.hellosProcessed.index satInc } := by
  simp only [Bay.greeted, Controller.identify, hv, clampTo_eq 1 4 _ (by decide),
    clampTo_eq 1 16 _ (by decide), clampTo_eq 100 2000 _ (by decide), freshChannels]
  rfl

/-- A flush before the HELLO is processed shows as one after it. -/
theorem Bay.flushed_greeted (x : Bay) (h : HelloFrame) :
    x.flushed.greeted h = { x.greeted h with
      port := { (x.greeted h).port with passDown := [] },
      counters := (x.greeted h).counters.modify BayCounter.passDownFlushed.index
        (Nat.repeat satInc x.port.passDown.length) } := by
  have counters := Table.modify_comm x.counters (BayCounter.index_ne
    (show BayCounter.passDownFlushed ≠ .hellosProcessed by decide))
    (Nat.repeat satInc x.port.passDown.length) satInc
  simp only [Bay.greeted, Bay.flushed, Bay.counted, counters]

section Intake
variable {s : State} {b : BayId} {x : Bay}

theorem State.qualifiedOn_nobody (hs : (s.bay b).ctl.state = .qualifying)
    (hx : x = { (s.bay b).gained s.config.threshold with
      ctl := (s.bay b).ctl.takenIn s.clock.ticks })
    (hp : (s.bay b).ctl.pendingHello = none) (hv : (s.bay b).ctl.vehicle = none) :
    s.qualifiedOn b = (s.noteIntake b).setBay b x := by
  rw [State.qualifiedOn_qualifying hs hx, hp]
  exact State.askHeld_nobody (by rw [hx]; exact hv)

theorem State.qualifiedOn_held (hs : (s.bay b).ctl.state = .qualifying)
    (hx : x = { (s.bay b).gained s.config.threshold with
      ctl := (s.bay b).ctl.takenIn s.clock.ticks })
    (hp : (s.bay b).ctl.pendingHello = none) (hv : (s.bay b).ctl.vehicle ≠ none) :
    s.qualifiedOn b = (s.noteIntake b).setBay b
      { x with port := { x.port with control := asking x.port.control } } := by
  rw [State.qualifiedOn_qualifying hs hx, hp]
  exact State.askHeld_held (by rw [hx]; exact hv)

/-- With a pending HELLO the PASS-DOWN frames stay, where the bay held no other vehicle, or are
flushed (07 R131, 06 R126). -/
theorem State.qualifiedOn_greeted (hs : (s.bay b).ctl.state = .qualifying)
    (hx : x = { (s.bay b).gained s.config.threshold with
      ctl := (s.bay b).ctl.takenIn s.clock.ticks })
    {h : HelloFrame} (hp : (s.bay b).ctl.pendingHello = some h)
    (alone : ∀ a, a ≠ b → (s.bay a).ctl.vehicle ≠ some h.vehicle)
    {z : Bay} (hz : z = { x with ctl := { x.ctl with pendingHello := none } }) :
    (((s.bay b).ctl.vehicle = none ∨ (s.bay b).ctl.vehicle = some h.vehicle) →
      s.qualifiedOn b = (s.noteIntake b).setBay b (z.greeted h)) ∧
    ((s.bay b).ctl.vehicle ≠ none → (s.bay b).ctl.vehicle ≠ some h.vehicle →
      s.qualifiedOn b = (s.noteIntake b).setBay b { z.greeted h with
        port := { (z.greeted h).port with passDown := [] },
        counters := (z.greeted h).counters.modify BayCounter.passDownFlushed.index
          (Nat.repeat satInc (s.bay b).port.passDown.length) }) := by
  have alone' (a : BayId) (ha : a ≠ b) :
      ((s.noteIntake b).bay a).ctl.vehicle ≠ some h.vehicle := by
    rw [State.noteIntake_bay]
    exact alone a ha
  have vehicle : (((s.noteIntake b).setBay b z).bay b).ctl.vehicle = (s.bay b).ctl.vehicle := by
    rw [State.setBay_bay, hz, hx]
    rfl
  have passDown : z.port.passDown = (s.bay b).port.passDown := by rw [hz, hx]; rfl
  have greeted {y : Bay} (flush : ((s.noteIntake b).setBay b z).flushForeign b h.vehicle =
      (s.noteIntake b).setBay b y) :
      s.qualifiedOn b = (s.noteIntake b).setBay b (y.greeted h) := by
    rw [State.qualifiedOn_qualifying hs hx, hp]
    exact State.greet_alone alone' (hz ▸ flush)
  refine ⟨fun own => greeted (State.flushForeign_own (by rwa [vehicle])), fun held other => ?_⟩
  have flush := State.flushForeign_other (s := (s.noteIntake b).setBay b z) (b := b)
    (by rwa [vehicle]) (by rwa [vehicle])
  rw [State.setBay_bay, State.setBay_setBay] at flush
  rw [greeted flush, Bay.flushed_greeted, passDown]

end Intake

end Sys2Proof.Machine

namespace Sys2Proof.Machine

/-! SUPPORT and PROOF. The return to SERVING and the end of HOLDING (03 R54, R70, 07 R136), and the
claim on the frame that qualifies. -/

/-! ## What a return to SERVING keeps of its bay -/

/-- No job of the bay is deferred. -/
def Bay.undeferred (x : Bay) : Prop := ∀ p j, x.jobs.get p = some j → j.deferred = false

/-- A bay in which jobs have been made and given channels, and its controller has looked: its
controller, its counters and its port but for the frames that wait are as they were, and no job has
become deferred. -/
structure Bay.staffed (x y : Bay) : Prop where
  ctl : y.ctl = x.ctl
  port : y.port = { x.port with control := y.port.control }
  counters : y.counters = x.counters
  undeferred : x.undeferred → y.undeferred

theorem Bay.staffed.refl (x : Bay) : x.staffed x := ⟨rfl, rfl, rfl, id⟩

theorem Bay.staffed.trans {x y z : Bay} (h : x.staffed y) (g : y.staffed z) : x.staffed z where
  ctl := g.ctl.trans h.ctl
  port := by
    have e := g.port
    rw [h.port] at e
    exact e
  counters := g.counters.trans h.counters
  undeferred := g.undeferred ∘ h.undeferred

/-- A bay whose jobs have changed in one place alone. -/
theorem Bay.undeferred_set {x : Bay} {t : Table 8 (Option Job)} {p : Place} (h : x.undeferred)
    (others : ∀ q, q ≠ p → t.get q = x.jobs.get q)
    (here : ∀ j, t.get p = some j → j.deferred = false) :
    ({ x with jobs := t } : Bay).undeferred := by
  intro q j hj
  by_cases e : q = p
  · exact here j (e ▸ hj)
  · exact h q j ((others q e) ▸ hj)

theorem Bay.created_staffed (x : Bay) (p : Place) (u : UnitAddr) {j : Job}
    (h : j.deferred = false) : x.staffed (x.created p u j) := by
  refine ⟨rfl, rfl, rfl, fun hx => ?_⟩
  refine Bay.undeferred_set hx (fun q hq => Table.get_set_ne _ _ (Ne.symm hq)) fun k hk => ?_
  cases (Table.get_set_self ..).symm.trans hk
  exact h

theorem Bay.joined_staffed (x : Bay) (p : Place) (m : Member) : x.staffed (x.joined p m) := by
  refine ⟨rfl, rfl, rfl, fun hx => ?_⟩
  refine Bay.undeferred_set hx (fun q hq => Table.get_modify_ne _ _ (Ne.symm hq)) fun k hk => ?_
  obtain ⟨j, hj, rfl⟩ := Option.map_eq_some_iff.mp ((Table.get_modify_self ..).symm.trans hk)
  exact hx p j hj

/-- A new job is not deferred. -/
theorem newJob_deferred (st : StreamId) (ident : Identity) (staged : Bool) (m : Member)
    (r : Option ResumeRecord) : (newJob st ident staged m r).deferred = false := by
  unfold newJob
  split
  · rfl
  · split <;> rfl

theorem State.create_eq (s : State) (b : BayId) (p : Place) (u : UnitAddr) (j : Job) :
    (s.modBay b fun x => { x with
      jobs := x.jobs.set p (some j), endOrder := x.endOrder.filter (· ≠ p) }).modUnit b u
        (fun r => { r with job := some p }) = s.setBay b ((s.bay b).created p u j) := by
  simp [Bay.created, referTo]

theorem State.createJob_staffed (s : State) (b : BayId) (u : UnitAddr) (i : EntryId)
    (staged : Bool) : (s.bay b).staffed ((s.createJob b u i staged).bay b) := by
  unfold State.createJob
  split
  · exact .refl _
  · have same (v : Option Word) (k : Identity) : (s.takeResume v k).2.bay b = s.bay b := by
      rw [State.bay, State.takeResume_bays, State.bay]
    dsimp only
    rw [State.create_eq, State.setBay_bay, same]
    exact Bay.created_staffed _ _ _ (newJob_deferred ..)

theorem State.enterOpening_staffed (s : State) (b : BayId) (c : ChannelId) (p : Place) (j : Job) :
    (s.bay b).staffed ((s.enterOpening b c p j).bay b) := by
  simp only [State.enterOpening, State.placeControl, State.modPort_eq, State.modJob_eq,
    State.modChannel_eq, State.modBay_eq, State.setBay_bay, State.setBay_setBay]
  refine ⟨rfl, rfl, rfl, fun hx => ?_⟩
  refine Bay.undeferred_set hx (fun q hq => Table.get_modify_ne _ _ (Ne.symm hq)) fun k hk => ?_
  rw [Table.get_modify_self] at hk
  obtain ⟨j', hj', rfl⟩ := Option.map_eq_some_iff.mp hk
  exact hx p j' hj'

theorem State.assign_staffed (s : State) (b : BayId) : (s.bay b).staffed ((s.assign b).bay b) :=
  State.assign_inv (fun t => (s.bay b).staffed (t.bay b)) (.refl _) fun t c p j h _ _ _ =>
    h.trans (t.enterOpening_staffed b c p j)

theorem State.look_staffed (s : State) (b : BayId) : (s.bay b).staffed ((s.look b).bay b) := by
  rcases s.look_cases b with e | ⟨a, f, e⟩ <;> rw [e]
  · exact .refl _
  · rw [State.placeControl, State.modPort_eq, State.modBay_eq, State.setBay_bay,
      State.setActivation_eq, State.modBay_eq, State.setBay_bay]
    exact ⟨rfl, rfl, rfl, id⟩

theorem State.placeUnit_staffed (s : State) (b : BayId) (r : UnitRecord) (staged : Bool) :
    (s.bay b).staffed ((s.placeUnit b r staged).bay b) := by
  rcases s.placeUnit_cases b r staged with e | ⟨i, -, e | ⟨p, st, e⟩⟩ <;> rw [e]
  · exact .refl _
  · exact s.createJob_staffed ..
  · rw [State.addMember_eq, State.setBay_bay]
    exact Bay.joined_staffed ..

theorem State.passes_staffed (s : State) (b : BayId) : (s.bay b).staffed ((s.passes b).bay b) := by
  have place (d : Disposition) (staged : Bool) (t : State) :
      (t.bay b).staffed ((t.placeAll b d staged).bay b) :=
    foldl_inv (fun u => (t.bay b).staffed (u.bay b)) _
      (fun u r h => h.trans (u.placeUnit_staffed b r staged)) _ t (.refl _)
  have disposed : (s.bay b).staffed ((s.disposeAll b).bay b) := by
    rw [State.disposeAll, State.modInventory_eq, State.modBay_eq, State.setBay_bay]
    exact ⟨rfl, rfl, rfl, id⟩
  exact disposed.trans ((place ..).trans (place ..))

theorem State.build_staffed (s : State) (b : BayId) : (s.bay b).staffed ((s.build b).bay b) := by
  unfold State.build
  split
  · exact (s.passes_staffed b).trans ((State.assign_staffed ..).trans (State.look_staffed ..))
  · exact .refl _

/-! ## Channels assigned until none is free or no job waits (03 R54) -/

/-- A channel of the bay is free. -/
def Bay.freeAt (x : Bay) (c : ChannelId) : Bool :=
  match x.channels[c.val]? with
  | none => false
  | some ch => ch.job.isNone

theorem Bay.freeChannel?_eq (x : Bay) : x.freeChannel? = allChannels.find? x.freeAt := rfl

/-- The free channels of a bay. -/
def Bay.freeChannels (x : Bay) : Finset ChannelId := Finset.univ.filter fun c => x.freeAt c = true

/-- A job's entering OPENING takes one channel, and frees none. -/
theorem State.enterOpening_freeChannels (s : State) (b : BayId) (c : ChannelId) (p : Place)
    (j : Job) : ((s.enterOpening b c p j).bay b).freeChannels =
      (s.bay b).freeChannels.erase c := by
  ext d
  have taken : ((s.enterOpening b c p j).bay b).freeAt d = (decide (d ≠ c) && (s.bay b).freeAt d) := by
    simp only [Bay.freeAt, State.enterOpening, State.placeControl, State.modPort_eq, State.modJob_eq,
      State.modChannel_eq, State.modBay_eq, State.setBay_bay, List.getElem?_modify]
    by_cases e : d = c
    · subst e
      cases (s.bay b).channels[d.val]? <;> simp
    · have ne : c.val ≠ d.val := fun h => e (Fin.ext h.symm)
      cases (s.bay b).channels[d.val]? <;> simp [e, ne]
  simp [Bay.freeChannels, taken]

theorem Bay.freeChannel?_none {x : Bay} : x.freeChannel? = none ↔ x.freeChannels = ∅ := by
  simp [Bay.freeChannel?_eq, Bay.freeChannels, Finset.filter_eq_empty_iff, allChannels]

/-- Where no job is next, none can be given a channel. -/
theorem Bay.nextJob_none {x : Bay} (h : x.nextJob = none) {p : Place} {j : Job}
    (hj : x.jobs.get p = some j) : j.assignable = false := by
  unfold Bay.nextJob at h
  have nobody : (x.jobList.filter fun pj => pj.2.assignable) = [] := by
    rcases List.eq_nil_or_concat (x.jobList.filter fun pj => pj.2.assignable) with e | ⟨l, a, e⟩
    · exact e
    · rw [e, List.concat_eq_append, List.foldl_append, List.foldl_cons, List.foldl_nil] at h
      split at h
      · cases h
      · split at h <;> cases h
  have waits := List.filter_eq_nil_iff.mp nobody (p, j) (Bay.mem_jobList.mpr hj)
  simpa using waits

/-- With an assignment for each free channel, one runs out: the channels or the jobs. -/
theorem State.assigns_exhausts (b : BayId) (n : Nat) (s : State)
    (hs : (s.bay b).ctl.state = .serving) (hn : (s.bay b).freeChannels.card ≤ n) :
    ((State.assigns n b s).bay b).freeChannel? = none ∨
      ((State.assigns n b s).bay b).nextJob = none := by
  induction n generalizing s with
  | zero => exact .inl (Bay.freeChannel?_none.mpr (Finset.card_eq_zero.mp (Nat.le_zero.mp hn)))
  | succ n ih =>
    unfold State.assigns
    rw [if_pos hs]
    split
    · next c p j free _ =>
      have here : c ∈ (s.bay b).freeChannels := by
        simpa [Bay.freeChannels] using List.find?_some (Bay.freeChannel?_eq _ ▸ free)
      refine ih _ ?_ ?_
      · rw [(s.enterOpening_staffed b c p j).ctl]
        exact hs
      · rw [State.enterOpening_freeChannels, Finset.card_erase_of_mem here]
        omega
    · next none =>
      cases free : (s.bay b).freeChannel? with
      | none => exact .inl rfl
      | some c =>
        cases next : (s.bay b).nextJob with
        | none => exact .inr rfl
        | some pj => exact (none c pj.1 pj.2 free next).elim

theorem State.assign_exhausts {s : State} {b : BayId} (hs : (s.bay b).ctl.state = .serving) :
    ((s.assign b).bay b).freeChannel? = none ∨ ((s.assign b).bay b).nextJob = none :=
  State.assigns_exhausts b 4 s hs (Finset.card_le_univ _)

/-- In a bay without deferred jobs, no QUEUED job waits beside a free channel. -/
theorem Bay.exhausted_serves {x : Bay} (hd : x.undeferred)
    (h : x.freeChannel? = none ∨ x.nextJob = none) :
    (∀ (c : ChannelId) ch, x.channels[c.val]? = some ch → ch.job ≠ none) ∨
      ∀ p j, x.jobs.get p = some j → j.state ≠ .queued := by
  refine h.imp (fun none c ch hc hj => ?_) fun none p j hj queued => ?_
  · have busy := List.find?_eq_none.mp (Bay.freeChannel?_eq x ▸ none) c (List.mem_finRange c)
    simp [Bay.freeAt, hc, hj] at busy
  · have waits := Bay.nextJob_none none hj
    simp [Job.assignable, queued, hd p j hj] at waits

/-! ## The return to SERVING (03 R70) -/

/-- What a bay does once it has come back to SERVING: its streams are judged, its deferred flags
cleared, its free channels assigned, and its builder runs. -/
def State.restaff (s : State) (b : BayId) : State :=
  (((s.judgeAll (s.bay b).receivingStreams).clearDeferred b).assign b).build b

theorem State.resumeServing_eq (s : State) (b : BayId) (cause : BayCause) :
    s.resumeServing b cause = (s.enter b .serving cause).restaff b := rfl

/-- A bay whose deferred flags have been cleared (03 R57). -/
def Bay.relieved (x : Bay) : Bay :=
  { x with jobs := x.jobs.map (Option.map Job.undeferred) }

theorem State.clearDeferred_eq (s : State) (b : BayId) :
    s.clearDeferred b = s.setBay b (s.bay b).relieved := rfl

theorem Bay.relieved_get {x : Bay} {p : Place} :
    x.relieved.jobs.get p = (x.jobs.get p).map Job.undeferred :=
  Table.get_map ..

theorem Bay.relieved_undeferred (x : Bay) : x.relieved.undeferred := by
  intro p j hj
  obtain ⟨k, -, rfl⟩ := Option.map_eq_some_iff.mp (Bay.relieved_get.symm.trans hj)
  rfl

theorem Bay.relieved_staffed (x : Bay) : x.staffed x.relieved :=
  ⟨rfl, rfl, rfl, fun _ => x.relieved_undeferred⟩

/-- The state in which the builder runs: the streams judged, the flags cleared, the channels
assigned. -/
def State.reassigned (s : State) (b : BayId) : State :=
  ((s.judgeAll (s.bay b).receivingStreams).clearDeferred b).assign b

theorem State.relieved_bay (s : State) (b : BayId) :
    ((s.judgeAll (s.bay b).receivingStreams).clearDeferred b).bay b = (s.bay b).relieved := by
  rw [State.clearDeferred_eq, State.setBay_bay, State.judgeAll_bay]

theorem State.reassigned_staffed (s : State) (b : BayId) :
    (s.bay b).staffed ((s.reassigned b).bay b) ∧ ((s.reassigned b).bay b).undeferred := by
  have work := ((s.judgeAll (s.bay b).receivingStreams).clearDeferred b).assign_staffed b
  rw [State.relieved_bay] at work
  exact ⟨(s.bay b).relieved_staffed.trans work, work.undeferred (s.bay b).relieved_undeferred⟩

theorem State.restaff_staffed (s : State) (b : BayId) :
    (s.bay b).staffed ((s.restaff b).bay b) ∧ ((s.restaff b).bay b).undeferred := by
  obtain ⟨staffed, undeferred⟩ := s.reassigned_staffed b
  have built := (s.reassigned b).build_staffed b
  exact ⟨staffed.trans built, built.undeferred undeferred⟩

theorem State.assign_bay_ne (s : State) {a b : BayId} (h : a ≠ b) :
    (s.assign b).bay a = s.bay a := by
  rw [(s.assign_worksIn b).only]
  exact s.setBay_bay_ne _ (Ne.symm h)

theorem State.look_bay_ne (s : State) {a b : BayId} (h : a ≠ b) : (s.look b).bay a = s.bay a := by
  rw [(s.look_worksIn b).only]
  exact s.setBay_bay_ne _ (Ne.symm h)

theorem State.restaff_bay_ne (s : State) {a b : BayId} (h : a ≠ b) :
    (s.restaff b).bay a = s.bay a := by
  have built (t : State) : (t.build b).bay a = t.bay a := by
    unfold State.build
    split
    · rw [State.look_bay_ne _ h, State.assign_bay_ne _ h, State.passes_bay_ne _ (Ne.symm h)]
    · rfl
  rw [State.restaff, built, State.assign_bay_ne _ h, State.clearDeferred, State.modBay_eq,
    State.setBay_bay_ne _ _ (Ne.symm h), State.judgeAll_bay]

/-- Past the judgement of its streams, the work is that of its jobs. -/
theorem State.restaff_builderFrame (s : State) (b : BayId) :
    (s.restaff b).builderFrame = (s.judgeAll (s.bay b).receivingStreams).builderFrame := by
  rw [State.restaff, State.build_builderFrame, State.assign_builderFrame, State.clearDeferred,
    State.modBay_eq, State.setBay_builderFrame]

theorem State.jobFrame_of_blockFrame {s t : State} (h : t.blockFrame = s.blockFrame) :
    t.jobFrame = s.jobFrame := by
  have keep {α : Type} (g : State → α) : g t.blockFrame = g s.blockFrame := congrArg g h
  exact keep State.jobFrame

theorem State.sameLoads_of_jobFrame {s t : State} (h : t.jobFrame = s.jobFrame) :
    s.sameLoads t := by
  have keep {α : Type} (g : State → α) : g t.jobFrame = g s.jobFrame := congrArg g h
  exact ⟨keep State.config, keep State.manifest, keep State.departures, keep State.straps,
    keep State.strapReads, keep State.resetCause, keep State.resetHeld⟩

theorem State.restaff_jobFrame (s : State) (b : BayId) : (s.restaff b).jobFrame = s.jobFrame :=
  (State.jobFrame_of_builderFrame (s.restaff_builderFrame b)).trans
    (State.jobFrame_of_blockFrame (State.judgeAll_blockFrame ..))

/-- Where every unit has a job the passes find nothing to do (01 R18). -/
theorem State.passes_nothing {s : State} {b : BayId} (h : ∀ r ∈ (s.bay b).inventory, r.job ≠ none) :
    s.passes b = s := by
  have taken (r : UnitRecord) (hr : r ∈ (s.bay b).inventory) : r.job.isNone = false := by
    simpa [Option.ne_none_iff_isSome] using h r hr
  have placed (d : Disposition) (staged : Bool) : s.placeAll b d staged = s := by
    have nobody : ((s.bay b).inventory.filter fun r => r.job.isNone && r.disposition = d) = [] :=
      List.filter_eq_nil_iff.mpr fun r hr => by simp [taken r hr]
    rw [State.placeAll, nobody, List.foldl_nil]
  have disposed : s.disposeAll b = s := by
    have same : ((s.bay b).inventory.map fun r =>
        if r.job.isNone then { r with disposition := s.dispose r } else r) = (s.bay b).inventory :=
      (List.map_congr_left fun r hr => by simp [taken r hr]).trans (List.map_id _)
    rw [State.disposeAll, State.modInventory_eq, State.modBay_eq, same]
    exact s.setBay_self b
  rw [State.passes, disposed, placed, placed]

theorem State.look_channels (s : State) (b : BayId) :
    ((s.look b).bay b).channels = (s.bay b).channels := by
  rcases s.look_cases b with e | ⟨a, f, e⟩ <;> rw [e]
  rw [State.placeControl, State.modPort_eq, State.modBay_eq, State.setBay_bay,
    State.setActivation_eq, State.modBay_eq, State.setBay_bay]

/-- A job that no channel may be given to stays as the channels are assigned. -/
theorem State.assign_keeps {s : State} {b : BayId} {p : Place} {j : Job} (hj : s.job b p = some j)
    (h : j.assignable = false) : (s.assign b).job b p = some j := by
  rcases State.assign_job hj with kept | ⟨ok, -⟩
  · exact kept
  · rw [h] at ok
    cases ok

/-- The builder runs in a bay that has come back: its passes, the channels, and the look. -/
theorem State.restaff_eq {s : State} {b : BayId} (hs : (s.bay b).ctl.state = .serving) :
    s.restaff b = (((s.reassigned b).passes b).assign b).look b := by
  have serving : ((s.reassigned b).bay b).ctl.state = .serving := by
    rw [(s.reassigned_staffed b).1.ctl, hs]
  exact if_pos serving

/-- With every unit in a job, the inventory stays, and every job that is not QUEUED. -/
theorem State.restaff_keeps {s : State} {b : BayId} (hs : (s.bay b).ctl.state = .serving)
    (h : ∀ r ∈ (s.bay b).inventory, r.job ≠ none) :
    ((s.restaff b).bay b).inventory = (s.bay b).inventory ∧
      ∀ p j, s.job b p = some j → j.state ≠ .queued →
        (s.restaff b).job b p = some { j with deferred := false } := by
  have inventory : ((s.reassigned b).bay b).inventory = (s.bay b).inventory := by
    rw [State.reassigned, (State.assign_worksIn _ b).bay.inventory, State.relieved_bay]
    rfl
  have e : s.restaff b = ((s.reassigned b).assign b).look b := by
    rw [State.restaff_eq hs, State.passes_nothing (by rwa [inventory])]
  obtain ⟨jobs, records⟩ := ((s.reassigned b).assign b).look_keeps b b
  rw [e]
  refine ⟨by rw [records, (State.assign_worksIn _ b).bay.inventory, inventory],
    fun p j hj hq => ?_⟩
  have waits : j.undeferred.assignable = false := by
    simp [Job.assignable, Job.undeferred, hq]
  have relieved : ((s.judgeAll (s.bay b).receivingStreams).clearDeferred b).job b p =
      some j.undeferred := by
    rw [State.job, State.relieved_bay, Bay.relieved_get]
    exact congrArg _ hj
  rw [State.job, jobs]
  exact State.assign_keeps (State.assign_keeps relieved waits) waits

theorem State.due_of_builderFrame {s t : State} (h : t.builderFrame = s.builderFrame) :
    t.due = s.due := by
  have keep {α : Type} (g : State → α) : g t.builderFrame = g s.builderFrame := congrArg g h
  exact keep State.due

/-- The streams as the judgement left them. -/
theorem State.restaff_blocks (s : State) (b : BayId) :
    (s.restaff b).streams = (s.judgeAll (s.bay b).receivingStreams).streams ∧
      (s.restaff b).due = (s.judgeAll (s.bay b).receivingStreams).due ∧
      (s.restaff b).pool = s.pool := by
  have frame := s.restaff_builderFrame b
  obtain ⟨streams, pool⟩ := State.blocks_of_builderFrame frame
  exact ⟨streams, State.due_of_builderFrame frame, pool.trans (State.judgeAll_pool ..)⟩

/-- A stream that a RECEIVING job of the bay wants is not satisfied any more (02 R43). -/
theorem State.restaff_wanted {s : State} {b : BayId} {p : Place} {j : Job}
    (hs : (s.bay b).ctl.state = .serving) (hj : s.job b p = some j) (hr : j.state = .receiving)
    (ho : (s.stream j.stream).isOpen = true)
    (wants : j.cursor < j.identity.length ∨ j.gaps ≠ []) :
    ((s.restaff b).stream j.stream).satisfied = false ∧
      ((s.stream j.stream).satisfied = true →
        ((s.restaff b).stream j.stream).age = 0 ∧ j.stream ∈ (s.restaff b).due) := by
  obtain ⟨streams, due, -⟩ := s.restaff_blocks b
  have wanted : s.wantingJobs j.stream ≠ [] := List.ne_nil_of_mem
    (State.mem_wantingJobs.mpr ⟨b, p, hj, rfl, by simpa [Bay.jobWants, hs, hr] using wants⟩)
  rw [State.stream, streams, due]
  exact State.judgeAll_wanted (Bay.receivingStreams_nodup _) (Bay.mem_receivingStreams hj hr) ho
    wanted

/-- No QUEUED job waits beside a free channel (03 R54). -/
theorem State.restaff_exhausts {s : State} {b : BayId} (hs : (s.bay b).ctl.state = .serving) :
    (∀ c ch, (s.restaff b).channel b c = some ch → ch.job ≠ none) ∨
      ∀ p j, (s.restaff b).job b p = some j → j.state ≠ .queued := by
  obtain ⟨staffed, undeferred⟩ := s.reassigned_staffed b
  have passed := (s.reassigned b).passes_staffed b
  have serving : (((s.reassigned b).passes b).bay b).ctl.state = .serving := by
    rw [passed.ctl, staffed.ctl, hs]
  have after := ((s.reassigned b).passes b).assign_staffed b
  have served := Bay.exhausted_serves (after.undeferred (passed.undeferred undeferred))
    (State.assign_exhausts serving)
  rw [State.restaff_eq hs]
  simp only [State.channel, State.job, State.look_channels, (State.look_keeps _ b b).1]
  exact served

/-- What a bay shows when it has returned to SERVING. -/
theorem State.restaff_returned {s : State} {b : BayId} (hs : (s.bay b).ctl.state = .serving) :
    s.returned (s.restaff b) b :=
  ⟨(s.restaff_staffed b).2, fun _ _ hj hr ho wants => State.restaff_wanted hs hj hr ho wants,
    State.restaff_exhausts hs, State.restaff_keeps hs, (s.restaff_blocks b).2.2⟩

/-! ## HOLDING left by the qualification (07 R136) -/

/-- A bay that has gained its qualification and left HOLDING. -/
def Bay.leftHolding (x : Bay) (threshold : Nat) (st : BayState) : Bay :=
  { x.gained threshold with ctl := { x.ctl with state := st, holdingTimer := none } }

/-- The state with that bay, and the notice of its passage (07 R139). -/
def State.leftHolding (s : State) (b : BayId) (st : BayState) : State :=
  (s.post (.bayState b .holding st .qualified (s.bay b).ctl.vehicle 0 0 false)).setBay b
    ((s.bay b).leftHolding s.config.threshold st)

theorem State.enter_leftHolding {s : State} {b : BayId} (hs : (s.bay b).ctl.state = .holding)
    (st : BayState) : ((s.setBay b ((s.bay b).gained s.config.threshold)).modCtl b fun c =>
      { c with holdingTimer := none }).enter b st .qualified = s.leftHolding b st := by
  obtain ⟨g, hg⟩ : ∃ g, g = (s.bay b).gained s.config.threshold := ⟨_, rfl⟩
  have ctl : g.ctl = (s.bay b).ctl := by rw [hg]; rfl
  simp only [State.enter, State.leftHolding, Bay.leftHolding, State.modCtl_eq, State.modBay_eq,
    State.setBay_bay, State.setBay_setBay, State.post_setBay, ← hg, ctl, hs]

theorem State.qualifiedOn_holding {s : State} {b : BayId} (hs : (s.bay b).ctl.state = .holding) :
    ((s.bay b).ctl.vehicleState = some .departing → s.qualifiedOn b =
      ((s.leftHolding b .departing).bump b .departuresAnnounced).withhold b .holding) ∧
    ((s.bay b).ctl.vehicleState ≠ some .departing →
      s.qualifiedOn b = (s.leftHolding b .serving).restaff b) := by
  have entered := State.enter_leftHolding hs
  unfold State.qualifiedOn
  obtain ⟨g, hg⟩ : ∃ g, g = (s.bay b).gained s.config.threshold := ⟨_, rfl⟩
  have ctl : ((s.setBay b g).bay b).ctl = (s.bay b).ctl := by rw [State.setBay_bay, hg]; rfl
  have holding : (((s.setBay b g).modCtl b fun c => { c with holdingTimer := none }).bay b).ctl.state
      = .holding := by
    rw [State.modCtl_eq, State.modBay_eq, State.setBay_bay]
    exact (congrArg Controller.state ctl).trans hs
  rw [← hg] at entered ⊢
  unfold State.takeQualified State.leaveHolding
  rw [ctl, hs]
  refine ⟨fun h => ?_, fun h => ?_⟩
  · refine (if_pos h).trans ?_
    rw [State.enterDeparting, entered, holding]
  · refine (if_neg h).trans ?_
    rw [State.resumeServing_eq, entered]

/-- What the qualification leaves of a bay that it takes out of HOLDING. -/
structure State.requalified (s u : State) (b : BayId) (st : BayState) : Prop where
  port : (u.bay b).port = { ((s.bay b).gained s.config.threshold).port with
    control := (u.bay b).port.control }
  ctl : (u.bay b).ctl = { (s.bay b).ctl with state := st, holdingTimer := none }
  gained : u.bayCounter b .qualificationsGained = satInc (s.bayCounter b .qualificationsGained)
  others : s.sameOtherBays u b
  frame : u.jobFrame = s.jobFrame

theorem State.leftHolding_bay (s : State) (b : BayId) (st : BayState) :
    (s.leftHolding b st).bay b = (s.bay b).leftHolding s.config.threshold st := State.setBay_bay ..

theorem State.leftHolding_bay_ne (s : State) {a b : BayId} (st : BayState) (h : a ≠ b) :
    (s.leftHolding b st).bay a = s.bay a := by
  rw [State.leftHolding, State.setBay_bay_ne _ _ (Ne.symm h), State.post_bay]

theorem State.leftHolding_jobFrame (s : State) (b : BayId) (st : BayState) :
    (s.leftHolding b st).jobFrame = s.jobFrame :=
  State.jobFrame_of_blockFrame ((State.setBay_blockFrame ..).trans (State.post_blockFrame ..))

theorem Bay.leftHolding_gained (x : Bay) (threshold : Nat) (st : BayState) :
    (x.leftHolding threshold st).counters.get BayCounter.qualificationsGained.index =
      satInc (x.counters.get BayCounter.qualificationsGained.index) := Table.get_modify_self ..

/-- DEPARTING entered: the blocks withheld, and a departure counted (03 R69). -/
theorem State.leftHolding_departs (s : State) (b : BayId) :
    let u := ((s.leftHolding b .departing).bump b .departuresAnnounced).withhold b .holding
    s.requalified u b .departing ∧ (u.bay b).txQueue = [] ∧
      (u.bay b).channels = (s.bay b).channels ∧
      u.bayCounter b .departuresAnnounced = satInc (s.bayCounter b .departuresAnnounced) := by
  obtain ⟨q, hq⟩ : ∃ q, q = (s.leftHolding b .departing).bump b .departuresAnnounced := ⟨_, rfl⟩
  have bay : q.bay b =
      ((s.bay b).leftHolding s.config.threshold .departing).counted .departuresAnnounced := by
    rw [hq, State.bump_eq, State.modBay_eq, State.setBay_bay, State.leftHolding_bay]
    rfl
  have others (a : BayId) (ha : a ≠ b) : q.bay a = s.bay a := by
    rw [hq, State.bump_eq, State.modBay_eq, State.setBay_bay_ne _ _ (Ne.symm ha),
      State.leftHolding_bay_ne _ _ ha]
  have frame : q.jobFrame = s.jobFrame := by
    rw [hq]
    exact s.leftHolding_jobFrame b .departing
  rw [← hq]
  dsimp only
  obtain ⟨shed, queue, others', frame'⟩ := q.withhold_spec b .holding
  obtain ⟨port, ctl, -, -, -, channels⟩ := shed.fields
  rw [bay] at port ctl channels
  refine ⟨⟨?_, ctl, ?_, fun a ha => (others' a ha).trans (others a ha),
    (State.jobFrame_of_blockFrame frame').trans frame⟩, queue, channels, ?_⟩
  · rw [port]
    rfl
  · refine (shed.counts .qualificationsGained (by decide)).trans ?_
    rw [bay]
    exact (counters_modify_ne (by decide)).trans (Bay.leftHolding_gained ..)
  · refine (shed.counts .departuresAnnounced (by decide)).trans ?_
    rw [bay]
    refine (Table.get_modify_self ..).trans (congrArg satInc ?_)
    exact counters_modify_ne (by decide)

/-- What a bay shows on its return is read off its jobs, its inventory, the streams and the pool. -/
theorem State.returned_of_same {s q t : State} {b : BayId} (jobs : (q.bay b).jobs = (s.bay b).jobs)
    (inventory : (q.bay b).inventory = (s.bay b).inventory) (streams : q.streams = s.streams)
    (pool : q.pool = s.pool) (h : q.returned t b) : s.returned t b := by
  unfold State.returned at h
  simp only [State.job, State.stream, jobs, inventory, streams, pool] at h
  exact h

/-- SERVING entered again (03 R70). -/
theorem State.leftHolding_serves (s : State) (b : BayId) :
    s.requalified ((s.leftHolding b .serving).restaff b) b .serving ∧
      s.returned ((s.leftHolding b .serving).restaff b) b := by
  obtain ⟨q, hq⟩ : ∃ q, q = s.leftHolding b .serving := ⟨_, rfl⟩
  have bay : q.bay b = (s.bay b).leftHolding s.config.threshold .serving := by
    rw [hq, State.leftHolding_bay]
  have others (a : BayId) (ha : a ≠ b) : q.bay a = s.bay a := by
    rw [hq, State.leftHolding_bay_ne _ _ ha]
  have frame : q.jobFrame = s.jobFrame := hq ▸ s.leftHolding_jobFrame b .serving
  have streams : q.streams = s.streams := by rw [hq]; exact State.post_streams ..
  have pool : q.pool = s.pool := by rw [hq]; exact State.post_pool ..
  rw [← hq]
  obtain ⟨staffed, -⟩ := q.restaff_staffed b
  rw [bay] at staffed
  refine ⟨⟨staffed.port, staffed.ctl, ?_, fun a ha => ?_, ?_⟩, ?_⟩
  · rw [State.bayCounter, staffed.counters]
    exact Bay.leftHolding_gained ..
  · rw [State.restaff_bay_ne _ ha, others a ha]
  · exact (State.restaff_jobFrame ..).trans frame
  · exact State.returned_of_same (by rw [bay]; rfl) (by rw [bay]; rfl) streams pool
      (State.restaff_returned (by rw [bay]; rfl))

/-! ## The claim -/

theorem Bay.gained_settled {x : Bay} (threshold : Nat) (h : x.port.phase = .trained) :
    (x.gained threshold).port.settled threshold := ⟨h, rfl, rfl, le_max_left _ _⟩

theorem State.requalified.settled {s u : State} {b : BayId} {st : BayState}
    (h : s.requalified u b st) (hp : (s.bay b).port.phase = .trained) :
    (u.bay b).port.settled u.config.threshold := by
  obtain ⟨-, config, -⟩ := State.fields_of_jobFrame h.frame
  rw [h.port, config]
  exact ⟨hp, rfl, rfl, le_max_left _ _⟩

/-- The last part of the claim, of either way out of HOLDING. -/
theorem State.requalified_claim {s : State} {b : BayId} {st : BayState} (h : s.qualifiesNext b)
    (left : s.requalified (s.qualifiedOn b) b st) :
    let u := s.qualifiedOn b
    (∀ i, validFrameOn b i → exec i s = exec i u) ∧ u.hears b ∧
      (∀ code, exec (.agentCaps b code) s = .next (u.setBay b
        (((u.bay b).heard s.config.threshold).counted .capsOutsideTraining))) ∧
      (u.bay b).port.qualified = true ∧ (u.bay b).port.phase = .trained ∧
      (u.bay b).port.qualCount = max s.config.threshold (s.bay b).port.qualCount ∧
      (u.bay b).port.watchdog = 0 ∧
      u.bayCounter b .qualificationsGained = satInc (s.bayCounter b .qualificationsGained) ∧
      s.sameOtherBays u b ∧ s.sameLoads u ∧ u.uplink = s.uplink ∧ u.mgmt = s.mgmt := by
  have settled := left.settled h.1
  obtain ⟨-, config, -, mgmt, uplink, -⟩ := State.fields_of_jobFrame left.frame
  have caps := exec_agentCaps_qualifies h settled
  rw [config] at caps
  exact ⟨fun i => exec_qualifies h settled, State.hears_settled settled, caps, settled.qualified,
    settled.phase, by rw [left.port]; rfl, settled.watchdog, left.gained, left.others,
    State.sameLoads_of_jobFrame left.frame, uplink, mgmt⟩

/-- The claim's two ways out of HOLDING (07 R136). -/
theorem State.qualified_leavesHolding {s : State} {b : BayId}
    (hs : (s.bay b).ctl.state = .holding) :
    ∃ st, s.requalified (s.qualifiedOn b) b st ∧
      ((s.bay b).ctl.vehicleState = some .departing →
        ((s.qualifiedOn b).bay b).ctl =
          { (s.bay b).ctl with state := .departing, holdingTimer := none } ∧
        ((s.qualifiedOn b).bay b).txQueue = [] ∧
        ((s.qualifiedOn b).bay b).channels = (s.bay b).channels ∧
        (s.qualifiedOn b).bayCounter b .departuresAnnounced =
          satInc (s.bayCounter b .departuresAnnounced)) ∧
      ((s.bay b).ctl.vehicleState ≠ some .departing →
        ((s.qualifiedOn b).bay b).ctl =
          { (s.bay b).ctl with state := .serving, holdingTimer := none } ∧
        s.returned (s.qualifiedOn b) b) := by
  obtain ⟨departs, serves⟩ := State.qualifiedOn_holding hs
  by_cases hd : (s.bay b).ctl.vehicleState = some .departing
  · rw [departs hd]
    obtain ⟨left, rest⟩ := s.leftHolding_departs b
    exact ⟨.departing, left, fun _ => ⟨left.ctl, rest⟩, fun other => absurd hd other⟩
  · rw [serves hd]
    obtain ⟨left, returned⟩ := s.leftHolding_serves b
    exact ⟨.serving, left, fun e => absurd e hd, fun _ => ⟨left.ctl, returned⟩⟩

/-- Settles O39: the qualification is gained first, and the frame taken in the state so reached. -/
theorem qualificationGained : Obligations.QualificationGained := by
  unfold Obligations.QualificationGained
  refine fun s b h => ⟨fun hs x y c w u hc hx hw hy hu => ?intake, fun hs => ?holding⟩
  case intake =>
    subst hc
    have asked : asking x.port.control = w := by rw [hx]; exact asking_eq hw
    have settled : x.port.settled s.config.threshold := hx ▸ Bay.gained_settled _ h.1
    have reached : s.qualifiedOn b = u ∧ y.port.settled s.config.threshold := by
      obtain ⟨phase, qualified, watchdog, count⟩ := settled
      rw [hu, State.post_setBay]
      rcases hy with ⟨hp, hv, rfl⟩ | ⟨hp, hv, rfl⟩ | ⟨f, v, z, hp, hv, alone, rfl, hy⟩
      · exact ⟨State.qualifiedOn_nobody hs hx hp hv, phase, qualified, watchdog, count⟩
      · rw [← asked]
        exact ⟨State.qualifiedOn_held hs hx hp hv, phase, qualified, watchdog, count⟩
      · obtain ⟨own, other⟩ := State.qualifiedOn_greeted hs hx hp alone rfl
        rw [Bay.greeted_eq _ hv] at own other
        subst hx asked
        rcases hy with ⟨e, rfl⟩ | ⟨e, e', rfl⟩
        · exact ⟨own e, phase, qualified, watchdog, count⟩
        · exact ⟨other e e', phase, qualified, watchdog, count⟩
    obtain ⟨rfl, settled⟩ := reached
    have bay : (s.qualifiedOn b).bay b = y := by rw [hu, State.post_bay, State.setBay_bay]
    have config : (s.qualifiedOn b).config = s.config := by
      rw [hu, State.post_config, State.setBay_config]
    rw [← bay, ← config] at settled ⊢
    exact ⟨fun i => exec_qualifies h settled, State.hears_settled settled,
      exec_agentCaps_qualifies h settled, exec_heartbeat_qualifies h settled⟩
  case holding =>
    obtain ⟨st, left, departs, serves⟩ := State.qualified_leavesHolding hs
    obtain ⟨frames, hears, caps, qualified, phase, count, watchdog, gained, others⟩ :=
      State.requalified_claim h left
    exact ⟨_, frames, hears, caps, qualified, phase, count, watchdog, gained, departs, serves,
      others⟩

end Sys2Proof.Machine

namespace Sys2Proof.Machine

/-! SUPPORT and PROOFS. A vehicle state reported by HEARTBEAT or by a repeated HELLO, and the HELLOs
discarded, kept or processed (05 R90 to R92, 07 R131, R132, R135). -/

/-! ## A vehicle state reported (07 R135) -/

/-- A bay whose vehicle shows a state. -/
def Bay.shows (x : Bay) (v : VehicleState) : Bay :=
  { x with ctl := { x.ctl with vehicleState := some v } }

section Reported
variable {s : State} {b : BayId} {x : Bay} {v : VehicleState}

theorem State.modCtl_shows (s : State) (b : BayId) (x : Bay) (v : VehicleState) :
    (s.setBay b x).modCtl b (fun c => { c with vehicleState := some v }) =
      s.setBay b (x.shows v) := by
  simp only [State.modCtl_eq, State.modBay_eq, State.setBay_bay, State.setBay_setBay]
  rfl

/-- A report that neither moves the bay nor makes the activation controller look. -/
theorem State.reportVehicle_stores
    (h : x.ctl.state = .intake ∨ x.ctl.state = .qualifying ∨ x.ctl.state = .holding ∨
      (x.ctl.state = .departing ∧ v = .departing) ∨ (x.ctl.state = .serving ∧ v = .service)) :
    (s.setBay b x).reportVehicle b v = s.setBay b (x.shows v) := by
  have away (h : x.ctl.state ≠ .serving) :
      (if v = .parked then (s.setBay b (x.shows v)).look b else s.setBay b (x.shows v)) =
        s.setBay b (x.shows v) := by
    rw [State.look_away _ _ (by rw [State.setBay_bay]; exact h), ite_self]
  unfold State.reportVehicle
  dsimp only
  rw [State.modCtl_shows, State.setBay_bay]
  rcases h with h | h | h | ⟨h, rfl⟩ | ⟨h, rfl⟩
  · rw [h] at away ⊢
    exact away (by decide)
  · rw [h] at away ⊢
    exact away (by decide)
  · rw [h] at away ⊢
    exact away (by decide)
  · rw [h]
    exact if_neg (by decide)
  · rw [h]
    exact if_neg (by decide)

theorem State.reportVehicle_parked (h : x.ctl.state = .serving) :
    (s.setBay b x).reportVehicle b .parked = (s.setBay b (x.shows .parked)).look b := by
  unfold State.reportVehicle
  dsimp only
  rw [State.modCtl_shows, State.setBay_bay, h]
  exact if_pos rfl

theorem State.reportVehicle_departs (h : x.ctl.state = .serving) :
    (s.setBay b x).reportVehicle b .departing =
      (s.setBay b (x.shows .departing)).enterDeparting b (.vehicleReported .departing) := by
  unfold State.reportVehicle
  dsimp only
  rw [State.modCtl_shows, State.setBay_bay, h]
  exact if_neg (by decide)

theorem State.reportVehicle_returns (h : x.ctl.state = .departing) (hv : v ≠ .departing) :
    (s.setBay b x).reportVehicle b v =
      if v = .parked then
        ((s.setBay b (x.shows v)).resumeServing b (.vehicleReported v)).look b
      else (s.setBay b (x.shows v)).resumeServing b (.vehicleReported v) := by
  unfold State.reportVehicle
  dsimp only
  rw [State.modCtl_shows, State.setBay_bay, h]
  dsimp only
  rw [if_neg hv]

end Reported

/-! ## HEARTBEAT and HELLO handed over (07 R131, R132, R135) -/

/-- A bay whose vehicle has repeated its HELLO. -/
def Bay.greetedAgain (x : Bay) (h : HelloFrame) : Bay :=
  Bay.counted { x with ctl := x.ctl.identify h } .hellosRepeated

section Taken
variable {s : State} {b : BayId} {x : Bay} {h : HelloFrame} {v : VehicleState}

theorem State.takeHeartbeat_discarded {code : Byte}
    (hd : readVehicleState code = none ∨ (s.bay b).ctl.vehicle = none ∨
      (s.bay b).ctl.state = .vacant ∨ (s.bay b).ctl.state = .training) :
    s.takeHeartbeat b code = s.bump b .heartbeatsDiscarded := by
  unfold State.takeHeartbeat
  dsimp only
  split
  · rfl
  · next v e =>
    refine if_neg ?_
    rcases hd with h | h | h | h
    · rw [e] at h
      cases h
    all_goals simp [h, BayState.takesHeartbeats]

theorem State.takeHeartbeat_reports {code : Byte} (hv : readVehicleState code = some v)
    (held : (s.bay b).ctl.vehicle ≠ none) (hs : (s.bay b).ctl.state.takesHeartbeats = true) :
    s.takeHeartbeat b code = s.reportVehicle b v := by
  unfold State.takeHeartbeat
  rw [hv]
  exact if_pos (by rw [Option.isSome_iff_ne_none.mpr held, hs]; rfl)

theorem State.takeHello_discarded
    (hd : h.vehicle = 0 ∨ readVehicleState h.vehicleState = none ∨
      (((s.bay b).ctl.state = .serving ∨ (s.bay b).ctl.state = .holding ∨
        (s.bay b).ctl.state = .departing) ∧ (s.bay b).ctl.vehicle ≠ some h.vehicle)) :
    s.takeHello b h = s.bump b .hellosDiscarded := by
  unfold State.takeHello
  dsimp only
  cases hv : readVehicleState h.vehicleState with
  | none => rfl
  | some v =>
    by_cases h0 : h.vehicle = 0
    · exact if_pos h0
    · rw [hv] at hd
      obtain ⟨hs, other⟩ := (hd.resolve_left h0).resolve_left (by nofun)
      refine (if_neg h0).trans ?_
      rcases hs with hs | hs | hs <;> rw [hs] <;> exact if_neg other

theorem State.takeHello_pending (h0 : h.vehicle ≠ 0) (hv : readVehicleState h.vehicleState ≠ none)
    (hs : (s.bay b).ctl.state = .qualifying) :
    s.takeHello b h = s.modCtl b fun c => { c with pendingHello := some h } := by
  obtain ⟨v, hv⟩ := Option.ne_none_iff_exists'.mp hv
  unfold State.takeHello
  dsimp only
  rw [hv, hs]
  exact if_neg h0

theorem State.takeHello_intake (h0 : h.vehicle ≠ 0) (hv : readVehicleState h.vehicleState ≠ none)
    (hs : (s.bay b).ctl.state = .intake) : s.takeHello b h = s.processHello b h := by
  obtain ⟨v, hv⟩ := Option.ne_none_iff_exists'.mp hv
  unfold State.takeHello
  dsimp only
  rw [hv, hs]
  exact if_neg h0

theorem State.takeHello_repeated (h0 : h.vehicle ≠ 0)
    (hv : readVehicleState h.vehicleState = some v)
    (hs : x.ctl.state = .serving ∨ x.ctl.state = .holding ∨ x.ctl.state = .departing)
    (own : x.ctl.vehicle = some h.vehicle) :
    (s.setBay b x).takeHello b h = (s.setBay b (x.greetedAgain h)).reportVehicle b v := by
  have repeats : (s.setBay b x).repeatHello b h v =
      (s.setBay b (x.greetedAgain h)).reportVehicle b v := by
    simp only [State.repeatHello, State.modCtl_eq, State.bump_eq, State.modBay_eq,
      State.setBay_bay, State.setBay_setBay]
    rfl
  rw [← repeats]
  unfold State.takeHello
  dsimp only
  rw [hv, State.setBay_bay]
  refine (if_neg h0).trans ?_
  rcases hs with hs | hs | hs <;> rw [hs] <;> exact if_pos own

/-- A repeated HELLO in the words of the claims; its vehicle state is stored with it. -/
theorem Bay.greetedAgain_eq (hv : readVehicleState h.vehicleState = some v)
    (own : x.ctl.vehicle = some h.vehicle) :
    x.greetedAgain h = Bay.counted { x with ctl := { x.ctl with
      announced := some h.period, period := max 100 (min 2000 h.period.toNat),
      vehicleState := some v } } .hellosRepeated := by
  simp only [Bay.greetedAgain, Controller.identify, hv, clampTo_eq 100 2000 _ (by decide), ← own]

theorem Bay.greetedAgain_shows (x : Bay) (hv : readVehicleState h.vehicleState = some v) :
    (x.greetedAgain h).shows v = x.greetedAgain h := by
  simp only [Bay.greetedAgain, Bay.shows, Bay.counted, Controller.identify, hv]

end Taken

/-- Settles O40, by the three ways in which a HELLO is handed over. -/
theorem helloKeptOrRepeated : Obligations.HelloKeptOrRepeated := by
  unfold Obligations.HelloKeptOrRepeated
  refine ⟨fun s b h hb => ⟨fun hd => ?discarded, fun h0 hv hs => ?kept⟩,
    fun s b h v t hb h0 hv own ht => ?repeated⟩
  case discarded =>
    refine congrArg _ (State.receive_counted s b _ _ hb ?_)
    rintro t rfl
    exact State.takeHello_discarded (by rwa [State.setBay_bay])
  case kept =>
    refine congrArg _ ((State.receive_hears s b _ hb).trans ?_)
    rw [State.takeHello_pending h0 hv (by rwa [State.setBay_bay]), State.modCtl_eq,
      State.modBay_eq, State.setBay_bay, State.setBay_setBay]
    rfl
  case repeated =>
    obtain ⟨x, hx⟩ : ∃ x, x = (s.bay b).heard s.config.threshold := ⟨_, rfl⟩
    have ctl : x.ctl = (s.bay b).ctl := by rw [hx]; rfl
    have again := Bay.greetedAgain_eq hv (ctl ▸ own)
    have shows := x.greetedAgain_shows hv
    have taken (hs : x.ctl.state = .serving ∨ x.ctl.state = .holding ∨ x.ctl.state = .departing) :
        exec (.hello b h) s =
          .next ((s.setBay b (x.greetedAgain h)).reportVehicle b v) := by
      rw [← State.takeHello_repeated h0 hv hs (ctl ▸ own), hx]
      exact congrArg _ (State.receive_hears s b _ hb)
    rw [← hx, ← ctl, ← again] at ht
    rw [ht, ← ctl]
    refine ⟨fun hs => ?_, fun hs e => ?_⟩
    · rw [taken (by rcases hs with hs | ⟨hs, -⟩ | ⟨hs, -⟩ <;> simp [hs]),
        State.reportVehicle_stores (x := x.greetedAgain h) (.inr (.inr hs)), shows]
    · subst e
      rw [taken (.inl hs), State.reportVehicle_parked (x := x.greetedAgain h) hs, shows]

/-- Settles O41: with no other bay to tear down, the HELLO writes its own bay alone. -/
theorem helloProcessed : Obligations.HelloProcessed := by
  unfold Obligations.HelloProcessed
  intro s b h v hb h0 hv hs alone nobody quiet
  refine congrArg _ ((State.receive_hears s b _ hb).trans ?_)
  rw [State.takeHello_intake h0 (by rw [hv]; nofun) (by rwa [State.setBay_bay]),
    State.processHello_alone alone (State.flushForeign_own (.inl (by rwa [State.setBay_bay]))),
    Bay.greeted_eq _ hv]
  have asked : asking ((s.bay b).heard s.config.threshold).port.control =
      [.inventoryRequest false] := by
    rw [Bay.heard_control, quiet]
    rfl
  rw [asked]
  rfl

/-! ## The look of a controller whose vehicle shows PARKED (05 R90 to R92) -/

section Look
variable {s : State} {b : BayId} {y : Bay}

/-- In SERVING, with the vehicle PARKED, the eligible members are those of the claims. -/
theorem State.mem_eligibles_setBay (jobs : y.jobs = (s.bay b).jobs)
    (inventory : y.inventory = (s.bay b).inventory) (serving : y.ctl.state = .serving)
    (parked : y.ctl.vehicleState = some .parked) {p : Place} {j : Job} {m : Member} :
    (p, j, m) ∈ (s.setBay b y).eligibles b ↔
      s.job b p = some j ∧ m ∈ j.members ∧ s.mayActivate b j m := by
  have may : (s.setBay b y).mayActivate b j m ↔ s.mayActivate b j m :=
    State.mayActivate_congr rfl rfl rfl
      (by rw [State.setBay_bay, Bay.unit?, inventory, Bay.unit?]) rfl rfl
  rw [State.mem_eligibles, State.eligible_iff, State.job, State.setBay_bay, jobs, may]
  simp only [serving, parked, and_true, State.job]

theorem State.look_nobody (jobs : y.jobs = (s.bay b).jobs)
    (inventory : y.inventory = (s.bay b).inventory) (serving : y.ctl.state = .serving)
    (parked : y.ctl.vehicleState = some .parked)
    (h : y.activation ≠ .idle ∨
      ∀ p j m, s.job b p = some j → m ∈ j.members → ¬ s.mayActivate b j m) :
    (s.setBay b y).look b = s.setBay b y := by
  by_cases idle : y.activation = .idle
  · rcases State.look_idle (s := s.setBay b y) (by rwa [State.setBay_bay]) with
      ⟨-, look⟩ | ⟨p, j, m, mem, -⟩
    · exact look
    · obtain ⟨hj, hm, may⟩ := (State.mem_eligibles_setBay jobs inventory serving parked).mp mem
      exact absurd may (h.resolve_left (absurd idle) p j m hj hm)
  · unfold State.look
    rw [State.setBay_bay]
    cases e : y.activation with
    | idle => exact absurd e idle
    | selected | activating | reverting => rfl

theorem State.look_choice (jobs : y.jobs = (s.bay b).jobs)
    (inventory : y.inventory = (s.bay b).inventory) (serving : y.ctl.state = .serving)
    (parked : y.ctl.vehicleState = some .parked) (idle : y.activation = .idle) {p : Place} {j : Job}
    {m : Member} (h : s.choice b p j m) :
    (s.setBay b y).look b = s.setBay b { y with
      activation := .selected ⟨m.unit, p, j.identity.target⟩ false,
      port := { y.port with
        control := y.port.control ++ [.activate m.unit j.identity.target] } } := by
  obtain ⟨hj, hm, may, lowest⟩ := h
  have offered {q : Place} {k : Job} {n : Member} :=
    State.mem_eligibles_setBay jobs inventory serving parked (p := q) (j := k) (m := n)
  have mem := offered.mpr ⟨hj, hm, may⟩
  rcases State.look_idle (s := s.setBay b y) (by rwa [State.setBay_bay]) with
    ⟨none, -⟩ | ⟨q, k, n, memn, least, look⟩
  · rw [none] at mem
    cases mem
  · obtain ⟨hk, hn, mayn⟩ := offered.mp memn
    rcases lowest q k n hk hn mayn with lt | ⟨rfl, rfl⟩
    · exact absurd (least _ mem) (not_le.mpr lt)
    · cases hj.symm.trans hk
      rw [look, State.setBay_bay, State.setBay_setBay]

end Look

/-- Settles O43, by what the report of each vehicle state does in each bay state. -/
theorem heartbeatStored : Obligations.HeartbeatStored := by
  unfold Obligations.HeartbeatStored
  intro s b code hb
  obtain ⟨x, hx⟩ : ∃ x, x = (s.bay b).heard s.config.threshold := ⟨_, rfl⟩
  have ctl : x.ctl = (s.bay b).ctl := by rw [hx]; rfl
  have taken {v : VehicleState} (hv : readVehicleState code = some v)
      (held : (s.bay b).ctl.vehicle ≠ none) (hs : x.ctl.state.takesHeartbeats = true) :
      exec (.heartbeat b code) s = .next ((s.setBay b x).reportVehicle b v) := by
    rw [← State.takeHeartbeat_reports hv (by rwa [State.setBay_bay, ctl])
      (by rwa [State.setBay_bay]), hx]
    exact congrArg _ (State.receive_hears s b _ hb)
  rw [← hx, ← ctl]
  refine ⟨fun hd => ?discarded, fun v hv held hs => ?stored, fun p j m hv held hs idle h => ?chosen⟩
  case discarded =>
    rw [hx]
    refine congrArg _ (State.receive_counted s b _ _ hb ?_)
    rintro t rfl
    exact State.takeHeartbeat_discarded (by rwa [State.setBay_bay, ← hx])
  case stored =>
    have takes : x.ctl.state.takesHeartbeats = true := by
      rcases hs with hs | hs | hs | ⟨hs, -⟩ | ⟨hs, -⟩ | ⟨hs, -⟩ <;> rw [hs] <;> rfl
    rw [taken hv (ctl ▸ held) takes]
    refine congrArg _ ?_
    rcases hs with hs | hs | hs | hs | hs | ⟨hs, rfl, h⟩
    · exact State.reportVehicle_stores (.inl hs)
    · exact State.reportVehicle_stores (.inr (.inl hs))
    · exact State.reportVehicle_stores (.inr (.inr (.inl hs)))
    · exact State.reportVehicle_stores (.inr (.inr (.inr (.inl hs))))
    · exact State.reportVehicle_stores (.inr (.inr (.inr (.inr hs))))
    · rw [State.reportVehicle_parked hs]
      exact State.look_nobody (by rw [hx]; rfl) (by rw [hx]; rfl) hs rfl (by rw [hx]; exact h)
  case chosen =>
    rw [taken hv (ctl ▸ held) (by rw [hs]; rfl), State.reportVehicle_parked hs,
      State.look_choice (y := x.shows .parked) (by rw [hx]; rfl) (by rw [hx]; rfl) hs rfl
        (by rw [hx]; exact idle) h, hx]
    rfl

end Sys2Proof.Machine

namespace Sys2Proof.Machine

/-! SUPPORT and PROOF. DEPARTING announced, and the return to SERVING by a vehicle state (02 R41 to
R43, 03 R69, R70, 07 R132, R135). -/

/-! ## DEPARTING entered (03 R69) -/

/-- A bay that has entered DEPARTING, before it gives up its queue. -/
def Bay.departs (x : Bay) : Bay :=
  Bay.counted { x with ctl := { x.ctl with state := .departing } } .departuresAnnounced

theorem State.enterDeparting_eq (s : State) (b : BayId) (x : Bay) (cause : BayCause) :
    (s.setBay b x).enterDeparting b cause = ((s.setBay b x.departs).post
      (.bayState b x.ctl.state .departing cause x.ctl.vehicle 0 0 false)).withhold b
        x.ctl.state := by
  simp only [State.enterDeparting, State.enter, State.modCtl_eq, State.bump_eq, State.modBay_eq,
    State.post_setBay, State.setBay_bay, State.setBay_setBay]
  rfl

/-- What a report of its vehicle leaves of a bay, its controller, its port and the other counts
aside. -/
structure Bay.told (x y : Bay) : Prop where
  inventory : y.inventory = x.inventory
  jobs : y.jobs = x.jobs
  channels : y.channels = x.channels
  activation : y.activation = x.activation
  departures : y.counters.get BayCounter.departuresAnnounced.index =
    x.counters.get BayCounter.departuresAnnounced.index

section Passages
variable {s : State} {b : BayId} {x : Bay} {cause : BayCause}

/-- A SERVING bay that enters DEPARTING withholds its blocks and keeps its jobs. -/
theorem State.enterDeparting_withholds (told : (s.bay b).told x) (hs : x.ctl.state = .serving) :
    let t := (s.setBay b x).enterDeparting b cause
    (t.bay b).ctl = { x.ctl with state := .departing } ∧
      (t.bay b).txQueue = [] ∧ (t.bay b).channels = (s.bay b).channels ∧
      (∀ p, ((t.bay b).jobs.get p).map Job.ungapped = ((s.bay b).jobs.get p).map Job.ungapped) ∧
      (t.bay b).inventory = (s.bay b).inventory ∧ (t.bay b).activation = (s.bay b).activation ∧
      t.bayCounter b .departuresAnnounced = satInc (s.bayCounter b .departuresAnnounced) ∧
      s.withheld t b ∧
      s.sameOtherBays t b ∧ s.sameLoads t ∧ t.uplink = s.uplink ∧ t.mgmt = s.mgmt := by
  rw [State.enterDeparting_eq, hs]
  generalize Notice.bayState .. = n
  obtain ⟨mask, length⟩ := (s.setBay b x.departs).post_notices n
  have withheld := State.withhold_withheld (s := s) (v := (s.setBay b x.departs).post n) (b := b)
    (State.post_streams ..) (by rw [State.post_bay, State.setBay_bay]; exact told.jobs)
    (by rw [State.post_bay, State.setBay_bay]; nofun)
    (fun a ha => by rw [State.post_bay, State.setBay_bay_ne _ _ (Ne.symm ha)])
    (State.post_clock ..) mask length
  obtain ⟨shed, queue, others, frame⟩ :=
    ((s.setBay b x.departs).post n).withhold_spec b .serving
  rw [State.post_blockFrame, State.setBay_blockFrame] at frame
  obtain ⟨loads, uplink, mgmt, -⟩ := State.fields_of_blockFrame frame
  rw [State.post_bay, State.setBay_bay] at shed
  obtain ⟨-, ctl, -, activation, inventory, channels⟩ := shed.fields
  refine ⟨ctl, queue, channels.trans told.channels, fun p => (shed.jobs p).trans ?_,
    inventory.trans told.inventory, activation.trans told.activation, ?_, withheld,
    fun a ha => (others a ha).trans ?_, loads, uplink, mgmt⟩
  · change Option.map _ (x.jobs.get p) = _
    rw [told.jobs]
  · refine (shed.counts _ (by decide)).trans ((Table.get_modify_self ..).trans ?_)
    exact congrArg satInc told.departures
  · rw [State.post_bay, State.setBay_bay_ne _ _ (Ne.symm ha)]

/-! ## SERVING entered again (03 R70) -/

/-- A look of the activation controller leaves what a bay shows when it has returned. -/
theorem State.returned.look {t : State} (h : s.returned t b) : s.returned (t.look b) b := by
  obtain ⟨a, l, e, -⟩ := t.look_writes b
  rw [e]
  simpa only [State.returned, State.job, State.channel, State.stream, State.setBay_bay,
    State.setBay_streams, State.setBay_due, State.setBay_pool] using h

/-- A bay that resumes SERVING shows what the claims say, however the controller then looks. -/
theorem State.resumeServing_returns (told : (s.bay b).told x) {t : State}
    (ht : t = (s.setBay b x).resumeServing b cause ∨
      t = ((s.setBay b x).resumeServing b cause).look b) :
    (t.bay b).ctl = { x.ctl with state := .serving } ∧ s.returned t b ∧
      s.sameOtherBays t b ∧ s.sameLoads t ∧ t.uplink = s.uplink ∧ t.mgmt = s.mgmt := by
  obtain ⟨q, hq⟩ : ∃ q, q = (s.setBay b x).enter b .serving cause := ⟨_, rfl⟩
  have e : q = (s.setBay b { x with ctl := { x.ctl with state := .serving } }).post
      (.bayState b x.ctl.state .serving cause x.ctl.vehicle 0 0 false) := by
    simp only [hq, State.enter, State.modCtl_eq, State.modBay_eq, State.setBay_bay,
      State.setBay_setBay]
  have bay : q.bay b = { x with ctl := { x.ctl with state := .serving } } := by
    rw [e, State.post_bay, State.setBay_bay]
  have others : s.sameOtherBays (q.restaff b) b := fun a ha => by
    rw [State.restaff_bay_ne _ ha, e, State.post_bay, State.setBay_bay_ne _ _ (Ne.symm ha)]
  have frame : (q.restaff b).jobFrame = s.jobFrame := by
    refine (State.restaff_jobFrame ..).trans (State.jobFrame_of_blockFrame ?_)
    rw [e, State.post_blockFrame, State.setBay_blockFrame]
  have returned : s.returned (q.restaff b) b :=
    State.returned_of_same (q := q) (by rw [bay]; exact told.jobs)
      (by rw [bay]; exact told.inventory) (by rw [e]; exact State.post_streams ..)
      (by rw [e]; exact State.post_pool ..) (State.restaff_returned (by rw [bay]))
  have ctl : ((q.restaff b).bay b).ctl = { x.ctl with state := .serving } := by
    rw [(q.restaff_staffed b).1.ctl, bay]
  rw [State.resumeServing_eq, ← hq] at ht
  generalize q.restaff b = u at ht returned others frame ctl
  have looked : t.jobFrame = s.jobFrame ∧ (t.bay b).ctl = (u.bay b).ctl ∧ s.returned t b ∧
      s.sameOtherBays t b := by
    rcases ht with ht | ht <;> rw [ht]
    · exact ⟨frame, rfl, returned, others⟩
    · exact ⟨(State.jobFrame_of_builderFrame (u.look_builderFrame b)).trans frame,
        (u.look_staffed b).ctl, returned.look,
        fun a ha => (State.look_bay_ne _ ha).trans (others a ha)⟩
  obtain ⟨frame, same, returned, others⟩ := looked
  obtain ⟨-, -, -, mgmt, uplink, -⟩ := State.fields_of_jobFrame frame
  exact ⟨same.trans ctl, returned, others, State.sameLoads_of_jobFrame frame, uplink, mgmt⟩

end Passages

/-! ## The reports of a bay in service (07 R132, R135) -/

theorem Bay.told_heard (x : Bay) (n : Nat) (v : VehicleState) : x.told ((x.heard n).shows v) :=
  ⟨rfl, rfl, rfl, rfl, counters_modify_ne (by decide)⟩

theorem Bay.told_greetedAgain (x : Bay) (n : Nat) (h : HelloFrame) :
    x.told ((x.heard n).greetedAgain h) :=
  ⟨rfl, rfl, rfl, rfl, (counters_modify_ne (by decide)).trans (counters_modify_ne (by decide))⟩

/-- A HEARTBEAT and a repeated HELLO in SERVING or DEPARTING are reports of the vehicle's state. -/
theorem exec_reports {s : State} {b : BayId} {i : Instr} {c : Controller} {v : VehicleState}
    (hb : s.hears b)
    (hi : (∃ code, i = .heartbeat b code ∧ readVehicleState code = some v ∧
        (s.bay b).ctl.vehicle ≠ none ∧
        c = { (s.bay b).ctl with vehicleState := some v }) ∨
      (∃ h, i = .hello b h ∧ h.vehicle ≠ 0 ∧ readVehicleState h.vehicleState = some v ∧
        (s.bay b).ctl.vehicle = some h.vehicle ∧
        c = { (s.bay b).ctl with
          announced := some h.period, period := max 100 (min 2000 h.period.toNat),
          vehicleState := some v }))
    (hs : (s.bay b).ctl.state = .serving ∨ (s.bay b).ctl.state = .departing) :
    ∃ x : Bay, (s.bay b).told (x.shows v) ∧ (x.shows v).ctl = c ∧
      x.ctl.state = (s.bay b).ctl.state ∧
      exec i s = .next ((s.setBay b x).reportVehicle b v) := by
  obtain ⟨x, hx⟩ : ∃ x, x = (s.bay b).heard s.config.threshold := ⟨_, rfl⟩
  have ctl : x.ctl = (s.bay b).ctl := by rw [hx]; rfl
  have received (take : State → State) : s.receive b take = take (s.setBay b x) := by
    rw [hx]
    exact State.receive_hears s b take hb
  rcases hi with ⟨code, rfl, hv, held, rfl⟩ | ⟨h, rfl, h0, hv, own, rfl⟩
  · refine ⟨x, hx ▸ Bay.told_heard .., by rw [← ctl]; rfl, by rw [ctl], ?_⟩
    refine congrArg Host.Outcome.next ((received _).trans ?_)
    refine State.takeHeartbeat_reports hv (by rwa [State.setBay_bay, ctl]) ?_
    rw [State.setBay_bay, ctl]
    rcases hs with hs | hs <;> rw [hs] <;> rfl
  · have state : (x.greetedAgain h).ctl.state = (s.bay b).ctl.state := by rw [← ctl]; rfl
    refine ⟨x.greetedAgain h, ?_, ?_, state, congrArg Host.Outcome.next ((received _).trans ?_)⟩
    · rw [Bay.greetedAgain_shows _ hv, hx]
      exact Bay.told_greetedAgain ..
    · rw [Bay.greetedAgain_shows _ hv, Bay.greetedAgain_eq hv (ctl ▸ own), ← ctl]
      rfl
    · exact State.takeHello_repeated h0 hv (by rw [ctl]; exact hs.imp_right .inr) (ctl ▸ own)

/-- Settles O44: the report moves the bay between SERVING and DEPARTING. -/
theorem departureAnnounced : Obligations.DepartureAnnounced := by
  unfold Obligations.DepartureAnnounced
  refine fun s b i c v hb hi => ⟨fun hs hv => ?_, fun hs hv => ?_⟩
  · obtain ⟨x, told, rfl, state, e⟩ := exec_reports hb hi (.inl hs)
    subst hv
    rw [State.reportVehicle_departs (state.trans hs)] at e
    exact ⟨_, e, State.enterDeparting_withholds told (state.trans hs)⟩
  · obtain ⟨x, told, rfl, state, e⟩ := exec_reports hb hi (.inr hs)
    rw [State.reportVehicle_returns (state.trans hs) hv] at e
    refine ⟨_, e, State.resumeServing_returns (cause := .vehicleReported v) told ?_⟩
    split
    · exact .inr rfl
    · exact .inl rfl

end Sys2Proof.Machine

namespace Sys2Proof.Machine

/-! SUPPORT and PROOFS. RESET BAY, and a vehicle announced on another bay than the one that held it
(06 R122, 07 R130, R131, R133, R137, R138). -/

/-! ## What a drop keeps of its bay (06 R122, 07 R137) -/

/-- The counters that the teardown of a bay and the flush of its PASS-DOWN frames can raise. -/
def teardownCounters : List BayCounter :=
  [.gapJoins, .activationsAbandoned, .resumeRecordsWritten, .teardowns, .passDownFlushed]

theorem State.surrendered_maxRate (s : State) (b : BayId) :
    ((s.surrendered b).bay b).maxRate = (s.bay b).maxRate := by
  obtain ⟨v, hv⟩ : ∃ v, v = (s.setBay b (s.bay b).vacated).judgeLeft (s.bay b).ctl.state
    (s.bay b).receivingStreams := ⟨_, rfl⟩
  have bay : v.bay b = (s.bay b).vacated := by
    rw [hv, State.bay, (State.judgeLeft_frame ..).1]
    exact s.setBay_bay b _
  obtain ⟨shed, -⟩ := v.giveUpBlocks_spec b
  have given : ((v.giveUpBlocks b).bay b).maxRate = (s.bay b).maxRate := by
    rw [shed.only, bay]
    rfl
  have written := (v.giveUpBlocks b).writeResumes_bay b
  obtain ⟨q, a, n, abandoned, -⟩ := ((v.giveUpBlocks b).writeResumes b true).abandonActivation_writes b
  have e : s.surrendered b = (((v.giveUpBlocks b).writeResumes b true).abandonActivation
    b).setActivation b .idle := by rw [hv]; rfl
  rw [e, abandoned, State.setActivation_eq, State.modBay_eq, State.setBay_bay, State.setBay_bay,
    written]
  exact given

/-- A teardown keeps the bay's maximum rate and every counter that is none of its own. -/
theorem State.teardown_keeps {s : State} {b : BayId} (cause : DropCause)
    (hc : (s.bay b).port.control = []) :
    ((s.teardown b cause).bay b).maxRate = (s.bay b).maxRate ∧
      ∀ k ∉ teardownCounters, (s.teardown b cause).bayCounter b k = s.bayCounter b k := by
  have given := State.surrendered_surrenders hc
  have rate := s.surrendered_maxRate b
  obtain ⟨n, e⟩ := s.teardown_eq b cause
  rw [e]
  generalize s.surrendered b = u at given rate
  have vacant : ((u.modBay b Bay.jobless).bay b).ctl.state ≠ .serving := by
    rw [State.modBay_eq, State.setBay_bay, Bay.jobless, given.ctl]
    nofun
  have replaced : (u.modBay b Bay.jobless).applyReplacements.bay b = (u.bay b).jobless :=
    (State.applyReplacements_away vacant).trans (State.setBay_bay ..)
  generalize (u.modBay b Bay.jobless).applyReplacements = v at *
  rw [State.bump_eq, State.modBay_eq, State.setBay_bay, State.post_bay, State.modBay_eq,
    State.setBay_bay, State.judgeAll_bay, replaced]
  refine ⟨rate, fun k hk => ?_⟩
  rw [State.bayCounter, State.setBay_bay]
  simp only [teardownCounters, List.mem_cons, List.not_mem_nil, or_false, not_or] at hk
  obtain ⟨joins, abandoned, written, teardowns, -⟩ := hk
  exact (counters_modify_ne teardowns).trans (given.counts k joins abandoned written)

/-- A drop of a link on a bay that is not VACANT keeps the bay's maximum rate, and counts its cause
beside the teardown. -/
theorem State.dropLink_keeps {s : State} {b : BayId} (cause : DropCause)
    (hp : (s.bay b).port.phase = .probing ∨ (s.bay b).port.phase = .switching ∨
      (s.bay b).port.phase = .trained) (hs : (s.bay b).ctl.state ≠ .vacant) :
    ((s.dropLink b cause).bay b).maxRate = (s.bay b).maxRate ∧
      ∀ k ∉ teardownCounters, (s.dropLink b cause).bayCounter b k =
        if k = cause.counter then satInc (s.bayCounter b k) else s.bayCounter b k := by
  rw [State.dropLink_eq cause hp hs]
  obtain ⟨x, hx⟩ : ∃ x, x = (s.bay b).linkLost cause.phase (s.dropTimer cause) := ⟨_, rfl⟩
  rw [← hx]
  obtain ⟨rate, counts⟩ := (s.setBay b x).teardown_keeps (b := b) cause
    (by rw [State.setBay_bay, hx]; rfl)
  rw [State.setBay_bay] at rate
  rw [State.bump_eq, State.modBay_eq, State.setBay_bay]
  refine ⟨rate.trans (by rw [hx]; rfl), fun k hk => ?_⟩
  have before : ((s.setBay b x).teardown b cause).bayCounter b k = s.bayCounter b k := by
    have flushed : k ≠ .passDownFlushed := by rintro rfl; exact hk (by decide)
    rw [counts k hk, State.bayCounter, State.setBay_bay, hx]
    exact Table.get_modify_ne _ _ (BayCounter.index_ne flushed.symm)
  rw [State.bayCounter, State.setBay_bay]
  split
  · next e =>
    subst e
    exact (Table.get_modify_self ..).trans (congrArg satInc before)
  · next other => exact (counters_modify_ne other).trans before

/-! ## RESET BAY (07 R138) -/

section Served
variable {s : State} {q : QueuedRequest} {rest : List QueuedRequest} {x : Byte} {b : BayId}

/-- RESET BAY answers with the state before the drop. -/
theorem exec_resetBay (h : s.serves q rest) (hq : q.request = .resetBay x) (hx : x.toNat = b.val)
    (uplink : ((s.taken rest).dropLink b .resetBay).uplink = s.uplink) :
    exec .resetBay s = .next (((s.taken rest).dropLink b .resetBay).replied q .done
      (u8 (s.bay b).ctl.state.code)) := by
  refine congrArg _ (State.execute_done h ?_ uplink)
  simp only [hq, handleResetBay, State.resetBay, idx_eq_some hx]
  rfl

end Served

/-- Settles O22: the request is a forced drop of the bay's link. -/
theorem bayReset : Obligations.BayReset := by
  unfold Obligations.BayReset
  refine ⟨fun s q rest x b h hq hx => ⟨fun hp hs => ?dropped, fun hp => ?down, fun hp => ?forced⟩,
    fun s q rest x h hq hx => ?noSuch⟩
  case dropped =>
    have drop := State.dropLink_linkDropped (s := s.taken rest) (b := b) .resetBay
      (s.bay b).port.signal (n := (s.bay b).counters) (fun _ _ => rfl) hp hs
    have same : (s.taken rest).setBay b (((s.taken rest).bay b).signalled (s.bay b).port.signal
        (s.bay b).counters) = s.taken rest := (s.taken rest).setBay_self b
    rw [same] at drop
    obtain ⟨rate, counts⟩ := State.dropLink_keeps (s := s.taken rest) (b := b) .resetBay hp hs
    obtain ⟨config, departures, uplink, mgmt, clock⟩ := State.fields_of_teardownFrame drop.frame
    exact ⟨_, exec_resetBay h hq hx uplink, drop.port, drop.ctl, drop.jobs, drop.inventory,
      drop.channels, drop.queue, drop.activation, counts .dropsForced (by decide), drop.teardowns,
      drop.written, drop.resume, rate, config, departures, mgmt, uplink, clock⟩
  case down =>
    have stays : (s.taken rest).dropLink b .resetBay = s.taken rest := by
      have hp' : ((s.taken rest).bay b).port.phase = .down := hp
      unfold State.dropLink
      dsimp only
      rw [hp']
    have e := exec_resetBay h hq hx (by rw [stays]; rfl)
    rwa [stays] at e
  case forced =>
    have restarts : (s.taken rest).dropLink b .resetBay = (s.taken rest).setBay b { s.bay b with
        port := { (s.bay b).port with forcedTimer := some ⟨s.clock.ticks, 100⟩ } } := by
      have hp' : ((s.taken rest).bay b).port.phase = .forced := hp
      unfold State.dropLink
      dsimp only
      rw [hp']
      rfl
    have e := exec_resetBay h hq hx (by rw [restarts]; rfl)
    rwa [restarts] at e
  case noSuch =>
    refine congrArg _ (State.execute_refused h ?_ (by decide))
    simp only [hq, handleResetBay, State.resetBay, idx_eq_none hx]

/-! ## What a drop leaves of another bay -/

/-- A bay that another one's work has spared: nothing of it has changed but what its own builder run
may, and without SERVING nothing at all. -/
structure State.spares (s t : State) (a : BayId) : Prop where
  staffed : (s.bay a).staffed (t.bay a)
  away : (s.bay a).ctl.state ≠ .serving → t.bay a = s.bay a

theorem State.spares.of_same {s t : State} {a : BayId} (h : t.bay a = s.bay a) : s.spares t a :=
  ⟨h ▸ .refl _, fun _ => h⟩

theorem State.spares.trans {s t u : State} {a : BayId} (h : s.spares t a) (g : t.spares u a) :
    s.spares u a :=
  ⟨h.staffed.trans g.staffed, fun away => (g.away (h.away away ▸ away)).trans (h.away away)⟩

theorem State.spares.foldl {α : Type} {f : State → α → State} {a : BayId} (l : List α)
    (h : ∀ t : State, ∀ c ∈ l, t.spares (f t c) a) (s : State) : s.spares (l.foldl f s) a := by
  induction l generalizing s with
  | nil => exact .of_same rfl
  | cons c l ih =>
    exact (h s c (List.mem_cons_self ..)).trans
      (ih (fun t d hd => h t d (List.mem_cons_of_mem _ hd)) _)

theorem State.build_bay_ne (s : State) {a c : BayId} (h : a ≠ c) :
    (s.build c).bay a = s.bay a := by
  unfold State.build
  split
  · rw [State.look_bay_ne _ h, State.assign_bay_ne _ h, State.passes_bay_ne _ (Ne.symm h)]
  · rfl

theorem State.build_spares (s : State) (a c : BayId) : s.spares (s.build c) a := by
  by_cases h : a = c
  · subst h
    exact ⟨s.build_staffed a, fun away => by rw [State.build, if_neg away]⟩
  · exact .of_same (s.build_bay_ne h)

theorem State.applyReplacements_spares (s : State) (a : BayId) :
    s.spares s.applyReplacements a := by
  obtain ⟨m, -, e | e⟩ := s.applyReplacements_cases <;> rw [e]
  · exact .of_same rfl
  · refine State.spares.trans (t := { s with manifest := m }) (.of_same rfl) ?_
    exact State.spares.foldl _ (fun t c _ => t.build_spares a c) _

section Spared
variable (s : State) {a c : BayId}

theorem State.makeNeeded_bay_ne (p : Place) (d : Nat) (h : a ≠ c) :
    (s.makeNeeded c p d).bay a = s.bay a := by
  obtain ⟨jobs, n, e, -⟩ := s.makeNeeded_eq c p d
  rw [e, State.setBay_bay_ne _ _ (Ne.symm h)]

theorem State.giveUpBlocks_bay_ne (h : a ≠ c) : (s.giveUpBlocks c).bay a = s.bay a := by
  have channel (t : State) (ch : Channel) : (t.giveUpChannel c ch).bay a = t.bay a := by
    unfold State.giveUpChannel
    split
    · rfl
    · split
      · rfl
      · exact foldl_keeps (fun u : State => u.bay a) _
          (fun u f => u.makeNeeded_bay_ne _ _ h) _ t
  rw [State.giveUpBlocks_eq, State.modBay_eq, State.setBay_bay_ne _ _ (Ne.symm h)]
  exact (foldl_keeps (fun u : State => u.bay a) _ channel _ _).trans
    (s.dropEntries_bay_ne _ (Ne.symm h))

theorem State.writeResumes_bay_ne (h : a ≠ c) : (s.writeResumes c true).bay a = s.bay a := by
  unfold State.writeResumes
  split
  · rfl
  · refine foldl_keeps (fun u : State => u.bay a) _ (fun u pj => ?_) _ s
    rw [State.bumpIf, if_pos rfl, State.bump_eq, State.modBay_eq,
      State.setBay_bay_ne _ _ (Ne.symm h), State.bay, State.writeResume_bays, State.bay]

theorem State.surrendered_bay_ne (h : a ≠ c) : (s.surrendered c).bay a = s.bay a := by
  obtain ⟨v, hv⟩ : ∃ v, v = (s.setBay c (s.bay c).vacated).judgeLeft (s.bay c).ctl.state
    (s.bay c).receivingStreams := ⟨_, rfl⟩
  have bay : v.bay a = s.bay a := by
    rw [hv, State.bay, (State.judgeLeft_frame ..).1]
    exact s.setBay_bay_ne _ (Ne.symm h)
  obtain ⟨q, y, n, abandoned, -⟩ :=
    ((v.giveUpBlocks c).writeResumes c true).abandonActivation_writes c
  have e : s.surrendered c = (((v.giveUpBlocks c).writeResumes c true).abandonActivation
    c).setActivation c .idle := by rw [hv]; rfl
  rw [e, abandoned, State.setActivation_eq, State.modBay_eq, State.setBay_setBay,
    State.setBay_bay_ne _ _ (Ne.symm h), State.writeResumes_bay_ne _ h,
    State.giveUpBlocks_bay_ne _ h, bay]

/-- The teardown of another bay spares a bay: at most its builder runs, for a replacement applied. -/
theorem State.teardown_spares (cause : DropCause) (h : a ≠ c) :
    s.spares (s.teardown c cause) a := by
  obtain ⟨n, e⟩ := s.teardown_eq c cause
  have jobless : s.spares ((s.surrendered c).modBay c Bay.jobless) a := .of_same <| by
    rw [State.modBay_eq, State.setBay_bay_ne _ _ (Ne.symm h), s.surrendered_bay_ne h]
  rw [e]
  refine (jobless.trans (State.applyReplacements_spares ..)).trans (.of_same ?_)
  rw [State.bump_eq, State.modBay_eq, State.setBay_bay_ne _ _ (Ne.symm h), State.post_bay,
    State.modBay_eq, State.setBay_bay_ne _ _ (Ne.symm h), State.judgeAll_bay]

theorem State.dropLink_spares (cause : DropCause) (h : a ≠ c) :
    s.spares (s.dropLink c cause) a := by
  have other (t : State) (x : Bay) : t.spares (t.setBay c x) a :=
    .of_same (t.setBay_bay_ne x (Ne.symm h))
  have dropped (phase : LinkPhase) (timer : Option Timer) :
      s.spares ((if (s.bay c).ctl.state = .vacant then
          (s.modPort c fun y => y.dropped phase timer).bumpBy c .passDownFlushed
            (s.bay c).port.passDown.length
        else ((s.modPort c fun y => y.dropped phase timer).bumpBy c .passDownFlushed
          (s.bay c).port.passDown.length).teardown c cause).bump c cause.counter) a := by
    rw [State.linkLost_eq]
    split
    · exact (other ..).trans (other ..)
    · exact (other ..).trans ((State.teardown_spares _ cause h).trans (other ..))
  unfold State.dropLink
  dsimp only
  split
  · exact .of_same rfl
  · split
    · exact other ..
    · exact .of_same rfl
  all_goals exact dropped _ _

end Spared

/-! ## Another bay that holds the vehicle (07 R133) -/

/-- The bay that held the vehicle is torn down by a forced drop, its port having been TRAINED, and
the bay of the HELLO is left. -/
theorem State.dropDuplicates_moves {s : State} {a b : BayId} {v : Word} (ab : a ≠ b)
    (held : (s.bay a).ctl.vehicle = some v) (hs : (s.bay a).ctl.state ≠ .vacant)
    (hp : (s.bay a).port.phase = .trained) (hb : (s.bay b).ctl.state ≠ .serving) :
    let t := s.dropDuplicates b v
    (t.bay a).ctl = Controller.initial ∧ (t.bay a).port.phase = .forced ∧
      (t.bay a).jobs = Table.fill 8 none ∧
      t.bayCounter a .duplicateTeardowns = satInc (s.bayCounter a .duplicateTeardowns) ∧
      t.bay b = s.bay b := by
  obtain ⟨f, hf⟩ : ∃ f : State → BayId → State,
    f = fun t c => (t.bump c .duplicateTeardowns).dropLink c .duplicate := ⟨_, rfl⟩
  obtain ⟨l, hl⟩ : ∃ l, l = allBays.filter fun c => c ≠ b && (s.bay c).ctl.vehicle = some v :=
    ⟨_, rfl⟩
  have e : s.dropDuplicates b v = l.foldl f s := by rw [hl, hf]; rfl
  have nodup : l.Nodup := by rw [hl]; exact (List.nodup_finRange 16).filter _
  have listed : a ∈ l := by
    rw [hl]
    exact List.mem_filter.mpr ⟨List.mem_finRange a, by simp [ab, held]⟩
  have unlisted : b ∉ l := by simp [hl]
  have step (t : State) {c d : BayId} (h : c ≠ d) : t.spares (f t d) c := by
    rw [hf]
    refine State.spares.trans (.of_same ?_) (State.dropLink_spares _ .duplicate h)
    rw [State.bump_eq, State.modBay_eq, State.setBay_bay_ne _ _ (Ne.symm h)]
  have steps (m : List BayId) (t : State) {c : BayId} (h : c ∉ m) : t.spares (m.foldl f t) c :=
    State.spares.foldl m (fun u d hd => step u fun same : c = d => h (same ▸ hd)) t
  have kept : (s.dropDuplicates b v).bay b = s.bay b := by
    rw [e]
    exact (steps l s unlisted).away hb
  -- the drop of the bay itself, among the drops of others
  obtain ⟨before, after, split⟩ := List.append_of_mem listed
  rw [split] at nodup
  obtain ⟨-, nodup', apart⟩ := List.nodup_append.mp nodup
  have notBefore : a ∉ before := fun h => apart a h a (List.mem_cons_self ..) rfl
  have notAfter : a ∉ after := (List.nodup_cons.mp nodup').1
  have first := (steps before s notBefore).staffed
  obtain ⟨u, hu⟩ : ∃ u, u = before.foldl f s := ⟨_, rfl⟩
  rw [← hu] at first
  have hp' : (u.bay a).port.phase = .trained := by rw [first.port]; exact hp
  have hs' : (u.bay a).ctl.state ≠ .vacant := by rw [first.ctl]; exact hs
  obtain ⟨w, hw⟩ : ∃ w, w = u.bump a .duplicateTeardowns := ⟨_, rfl⟩
  have bay : w.bay a = (u.bay a).counted .duplicateTeardowns := by
    rw [hw, State.bump_eq, State.modBay_eq, State.setBay_bay]
    rfl
  have up : (w.bay a).port.phase = .probing ∨ (w.bay a).port.phase = .switching ∨
      (w.bay a).port.phase = .trained := .inr (.inr (by rw [bay]; exact hp'))
  have occupied : (w.bay a).ctl.state ≠ .vacant := by rw [bay]; exact hs'
  have drop := State.dropLink_linkDropped (s := w) (b := a) .duplicate (w.bay a).port.signal
    (n := (w.bay a).counters) (fun _ _ => rfl) up occupied
  have same : w.setBay a ((w.bay a).signalled (w.bay a).port.signal (w.bay a).counters) = w :=
    w.setBay_self a
  rw [same] at drop
  have count := (State.dropLink_keeps .duplicate up occupied).2 .duplicateTeardowns (by decide)
  have last : (s.dropDuplicates b v).bay a = (w.dropLink a .duplicate).bay a := by
    have one : f u a = w.dropLink a .duplicate := by rw [hf, hw]
    rw [e, split, List.foldl_append, List.foldl_cons, ← hu, one]
    exact (steps after _ notAfter).away (by rw [drop.ctl]; nofun)
  dsimp only
  rw [State.bayCounter, last]
  refine ⟨drop.ctl, by rw [drop.port]; rfl, drop.jobs, count.trans ?_, kept⟩
  rw [if_neg (by decide), State.bayCounter, bay, State.bayCounter, ← first.counters]
  exact Table.get_modify_self ..

/-! ## A HELLO processed, beside the bays that held its vehicle (07 R130, R131) -/

theorem State.flushForeign_writes (s : State) (b : BayId) (v : Word) :
    ∃ y, s.flushForeign b v = s.setBay b y := by
  by_cases own : (s.bay b).ctl.vehicle = none ∨ (s.bay b).ctl.vehicle = some v
  · exact ⟨_, (State.flushForeign_own own).trans (s.setBay_self b).symm⟩
  · obtain ⟨held, other⟩ := not_or.mp own
    exact ⟨_, State.flushForeign_other held other⟩

/-- Past the teardowns a HELLO writes its own bay, which then holds the vehicle. -/
theorem State.processHello_writes (s : State) (b : BayId) (h : HelloFrame) :
    ∃ y, s.processHello b h = (s.dropDuplicates b h.vehicle).setBay b y ∧
      y.ctl.vehicle = some h.vehicle := by
  obtain ⟨y, flushed⟩ := (s.dropDuplicates b h.vehicle).flushForeign_writes b h.vehicle
  refine ⟨y.greeted h, ?_, rfl⟩
  unfold State.processHello
  dsimp only
  rw [flushed, State.modBay_eq, State.setBay_bay, State.setBay_setBay,
    State.requestInventory_eq, State.bump_eq, State.modBay_eq, State.setBay_bay,
    State.setBay_setBay]
  rfl

theorem State.askHeld_writes (s : State) (b : BayId) (x : Bay) :
    ∃ y, (s.setBay b x).askHeld b = s.setBay b y ∧ y.ctl = x.ctl := by
  by_cases h : x.ctl.vehicle = none
  · exact ⟨_, State.askHeld_nobody h, rfl⟩
  · exact ⟨_, State.askHeld_held h, rfl⟩

/-- A HELLO in INTAKE, and a pending one at the entry into INTAKE, are processed alike. -/
theorem exec_announces {s : State} {b : BayId} {h : HelloFrame} {i : Instr}
    (hi : (i = .hello b h ∧ s.hears b ∧ (s.bay b).ctl.state = .intake) ∨
      (∃ code, i = .agentCaps b code ∧ s.qualifiesNext b ∧ (s.bay b).ctl.state = .qualifying ∧
        (s.bay b).ctl.pendingHello = some h))
    (h0 : h.vehicle ≠ 0) (hv : readVehicleState h.vehicleState ≠ none) :
    ∃ q y, exec i s = .next ((q.dropDuplicates b h.vehicle).setBay b y) ∧
      y.ctl.vehicle = some h.vehicle ∧ s.sameOtherBays q b ∧ (q.bay b).ctl.state = .intake := by
  rcases hi with ⟨rfl, hb, hs⟩ | ⟨code, rfl, hb, hs, hp⟩
  · obtain ⟨y, processed, vehicle⟩ :=
      (s.setBay b ((s.bay b).heard s.config.threshold)).processHello_writes b h
    refine ⟨_, y, congrArg Host.Outcome.next (Eq.trans ?_ processed), vehicle,
      fun a ha => s.setBay_bay_ne _ (Ne.symm ha), by rw [State.setBay_bay]; exact hs⟩
    rw [State.receive_hears _ _ _ hb, State.takeHello_intake h0 hv (by rwa [State.setBay_bay])]
  · obtain ⟨x, hx⟩ : ∃ x : Bay, x = { (s.bay b).gained s.config.threshold with
      ctl := (s.bay b).ctl.takenIn s.clock.ticks } := ⟨_, rfl⟩
    obtain ⟨q, hq⟩ : ∃ q, q = (s.noteIntake b).setBay b
      { x with ctl := { x.ctl with pendingHello := none } } := ⟨_, rfl⟩
    obtain ⟨y, processed, vehicle⟩ := q.processHello_writes b h
    obtain ⟨z, asked, ctl⟩ := (q.dropDuplicates b h.vehicle).askHeld_writes b y
    have qualified : s.qualifiedOn b = (q.dropDuplicates b h.vehicle).setBay b z := by
      rw [State.qualifiedOn_qualifying hs hx, hp, State.greet, State.modCtl_eq, State.modBay_eq,
        State.setBay_bay, State.setBay_setBay, ← hq, processed, asked]
    refine ⟨q, (z.counted .validFrames).counted .capsOutsideTraining,
      congrArg Host.Outcome.next ((State.takeCaps_service code hb.1).trans ?_), (congrArg Controller.vehicle ctl).trans vehicle, fun a ha => ?_, ?_⟩
    · rw [State.receive_gains hb, qualified]
      simp only [State.bump_eq, State.modBay_eq, State.setBay_bay, State.setBay_setBay]
      rfl
    · rw [hq, State.setBay_bay_ne _ _ (Ne.symm ha), State.noteIntake_bay]
    · rw [hq, State.setBay_bay, hx]
      rfl

/-- Settles O42: the bays that held the vehicle are torn down before the HELLO writes its own. -/
theorem duplicateVehicleMoves : Obligations.DuplicateVehicleMoves := by
  unfold Obligations.DuplicateVehicleMoves
  intro s a b h i ab hi h0 hv held hs hp
  obtain ⟨q, y, e, vehicle, others, intake⟩ := exec_announces hi h0 hv
  rw [← others a ab] at held hs hp
  obtain ⟨ctl, phase, jobs, count, -⟩ :=
    State.dropDuplicates_moves ab held hs hp (by rw [intake]; nofun)
  refine ⟨_, e, ?_⟩
  rw [State.bayCounter, State.setBay_bay_ne _ _ (Ne.symm ab), State.setBay_bay]
  refine ⟨ctl, phase, jobs, vehicle, count.trans ?_⟩
  rw [State.bayCounter, others a ab, State.bayCounter]

end Sys2Proof.Machine

namespace Sys2Proof.Machine

/-! SUPPORT. What the ends of jobs, the assignment of channels and builder runs leave of a bay's
records (01 R18 to R21, 03 R51 to R58). -/

/-! ## The ledger of a bay -/

/-- What of a unit's record neither the builder nor the end of a job changes. -/
def UnitRecord.face (r : UnitRecord) : UnitAddr × Half × Byte × Version × Option Version × Bool :=
  (r.unit, r.cls, r.revision, r.running, r.standby, r.blocked)

/-- What of a bay the work on its jobs keeps: its controller, what its INVENTORY frame showed, the
service time, and three of its counts. -/
structure Ledger where
  ctl : Controller
  truncated : Bool
  faces : List (UnitAddr × Half × Byte × Version × Option Version × Bool)
  serviceTime : Nat
  ignored : Word
  abandoned : Word
  intakes : Word

def Bay.ledger (x : Bay) : Ledger where
  ctl := x.ctl
  truncated := x.truncated
  faces := x.inventory.map UnitRecord.face
  serviceTime := x.deadline.serviceTime
  ignored := x.counters.get BayCounter.inventoryEntriesDiscarded.index
  abandoned := x.counters.get BayCounter.activationsAbandoned.index
  intakes := x.counters.get BayCounter.intakesCompleted.index

/-- A count of another kind, and a change of the records' dispositions and job references, leave the
ledger. -/
theorem Bay.ledger_congr {x y : Bay} (ctl : y.ctl = x.ctl) (truncated : y.truncated = x.truncated)
    (faces : y.inventory.map UnitRecord.face = x.inventory.map UnitRecord.face)
    (service : y.deadline.serviceTime = x.deadline.serviceTime)
    (counts : ∀ k : BayCounter, k ≠ .gapJoins → k ≠ .probesAbandoned →
      y.counters.get k.index = x.counters.get k.index) : y.ledger = x.ledger := by
  simp only [Bay.ledger, ctl, truncated, faces, service,
    counts .inventoryEntriesDiscarded (by decide) (by decide),
    counts .activationsAbandoned (by decide) (by decide),
    counts .intakesCompleted (by decide) (by decide)]

theorem Bay.regapped.ledger {x y : Bay} (h : x.regapped y) : y.ledger = x.ledger := by
  obtain ⟨-, ctl, deadline, -, inventory, -⟩ := h.fields
  exact Bay.ledger_congr ctl (by rw [h.only]) (by rw [inventory]) (by rw [deadline])
    fun k hk _ => h.counts k hk

theorem map_face {f : UnitRecord → UnitRecord} (h : ∀ r, (f r).face = r.face)
    (l : List UnitRecord) : (l.map f).map UnitRecord.face = l.map UnitRecord.face := by
  rw [List.map_map]
  exact List.map_congr_left fun r _ => h r

/-! ## Channels freed and jobs ended (03 R51, R53, R58) -/

section Ledgers
variable (s : State) (b : BayId)

theorem State.dropEntries_ledger (q : TxEntry → Bool) :
    ((s.dropEntries b q).bay b).ledger = (s.bay b).ledger := (s.dropEntries_regapped b q).ledger

theorem State.abandonProbe_ledger (c : ChannelId) :
    ((s.abandonProbe b c).bay b).ledger = (s.bay b).ledger := by
  unfold State.abandonProbe
  split
  · rfl
  · split
    · rw [State.modDeadline_eq, State.modBay_eq, State.bump_eq, State.modBay_eq, State.setBay_bay,
        State.setBay_bay]
      exact Bay.ledger_congr rfl rfl rfl rfl fun k _ hk => counters_modify_ne hk
    · rfl

theorem State.clearDeferred_ledger : ((s.clearDeferred b).bay b).ledger = (s.bay b).ledger := by
  rw [State.clearDeferred_eq, State.setBay_bay]
  rfl

theorem State.freeChannel_ledger (c : ChannelId) (p : Place) :
    ((s.freeChannel b c p).bay b).ledger = (s.bay b).ledger := by
  unfold State.freeChannel
  split
  · next ch j _ _ =>
    have freed (t : State) (f : Channel → Channel) (g : Job → Job) (h : ControlFrame → Bool) :
        (((((t.modChannel b c f).modJob b p g).removeControl b h).clearDeferred b).bay b).ledger =
          (t.bay b).ledger := by
      rw [State.clearDeferred_ledger, State.removeControl, State.modPort_eq, State.modBay_eq,
        State.setBay_bay, State.modJob_eq, State.modBay_eq, State.setBay_bay, State.modChannel_eq,
        State.modBay_eq, State.setBay_bay]
      rfl
    dsimp only
    rw [freed, foldl_keeps (fun t : State => (t.bay b).ledger), State.abandonProbe_ledger,
      State.modChannel_eq, State.modBay_eq, State.setBay_bay]
    · rfl
    · exact fun t f => (t.makeNeeded_regapped b p _).ledger
  · rfl

theorem State.freeJobChannel_ledger (p : Place) :
    ((s.freeJobChannel b p).bay b).ledger = (s.bay b).ledger := by
  unfold State.freeJobChannel
  split
  · rfl
  · split
    · rfl
    · exact s.freeChannel_ledger b _ p

theorem State.endJob_ledger (p : Place) : ((s.endJob b p).bay b).ledger = (s.bay b).ledger := by
  unfold State.endJob
  split
  · rfl
  · have ended (t : State) (f : Job → Job) : ((((t.modJob b p f).dropReferences b p).modBay b fun x =>
        { x with endOrder := x.endOrder ++ [p] }).bay b).ledger = (t.bay b).ledger := by
      rw [State.modJob_eq, State.modBay_eq, State.dropReferences, State.modInventory_eq,
        State.modBay_eq, State.modBay_eq, State.setBay_bay, State.setBay_bay, State.setBay_bay]
      exact Bay.ledger_congr rfl rfl (map_face (fun r => by split <;> rfl) _) rfl fun _ _ _ => rfl
    dsimp only
    rw [State.post_bay, State.judgeMoved_bay, ended, State.freeJobChannel_ledger,
      State.dropEntries_ledger]

theorem State.leaveTransfer_ledger (p : Place) (j : Job) :
    ((s.leaveTransfer b p j).bay b).ledger = (s.bay b).ledger := by
  rw [State.leaveTransfer, State.judgeMoved_bay, State.modJob_eq, State.modBay_eq,
    State.setBay_bay]
  exact (State.freeJobChannel_ledger ..).trans (s.dropEntries_ledger b _)

theorem State.closeOutAll_ledger : ((s.closeOutAll b).bay b).ledger = (s.bay b).ledger := by
  refine foldl_keeps (fun t : State => (t.bay b).ledger) _ (fun t p => ?_) _ s
  unfold State.closeOut
  split
  · rfl
  · split
    · split
      · exact t.endJob_ledger b p
      · split
        · exact t.leaveTransfer_ledger b p _
        · rfl
    · rfl

/-! ## Channels assigned, and builder runs (01 R18 to R21, 03 R54) -/

theorem State.assign_ledger : ((s.assign b).bay b).ledger = (s.bay b).ledger := by
  refine State.assign_inv (fun t => (t.bay b).ledger = (s.bay b).ledger) rfl
    fun t c p j h _ _ _ => Eq.trans ?_ h
  simp only [State.enterOpening, State.placeControl, State.modPort_eq, State.modJob_eq,
    State.modChannel_eq, State.modBay_eq, State.setBay_bay, State.setBay_setBay]
  rfl

theorem State.look_ledger : ((s.look b).bay b).ledger = (s.bay b).ledger := by
  obtain ⟨a, l, e, -⟩ := s.look_writes b
  rw [e, State.setBay_bay]
  rfl

theorem referTo_face (u : UnitAddr) (p : Place) (l : List UnitRecord) :
    (referTo u p l).map UnitRecord.face = l.map UnitRecord.face :=
  map_face (fun r => by split <;> rfl) l

/-- The job that is created for a unit, where a place is left (01 R20, R21). -/
theorem State.createJob_placed {p : Place} (h : (s.bay b).newPlace = some p) (u : UnitAddr)
    (i : EntryId) (staged : Bool) :
    let ident := s.identityOf (s.entry i).fields
    let taken := s.takeResume (s.bay b).ctl.vehicle ident
    s.createJob b u i staged = taken.2.setBay b ((s.bay b).created p u
      (newJob (s.entry i).fields.stream ident staged
        ⟨u, if staged then .staged else .pending, some i⟩ taken.1)) := by
  have same (v : Option Word) (k : Identity) : (s.takeResume v k).2.bay b = s.bay b := by
    rw [State.bay, State.takeResume_bays, State.bay]
  unfold State.createJob
  rw [h]
  dsimp only
  rw [State.create_eq, same]

/-- The bay in which a job has been created for a unit, where a place was left. -/
theorem State.createJob_bay (u : UnitAddr) (i : EntryId) (staged : Bool) :
    (s.createJob b u i staged).bay b = s.bay b ∨
      ∃ p j m, j.members = [m] ∧ m.unit = u ∧
        (s.createJob b u i staged).bay b = (s.bay b).created p u j := by
  cases h : (s.bay b).newPlace with
  | none => exact .inl (by rw [State.createJob, h])
  | some p =>
    have e := s.createJob_placed b h u i staged
    exact .inr ⟨p, _, _, newJob_members .., rfl, by rw [e, State.setBay_bay]⟩

/-- What placing a unit can make of its bay: nothing, a job with a member of that unit, or that
member in a job it has. -/
theorem State.placeUnit_bay (r : UnitRecord) (staged : Bool) :
    (s.placeUnit b r staged).bay b = s.bay b ∨
      (∃ p j m, j.members = [m] ∧ m.unit = r.unit ∧
        (s.placeUnit b r staged).bay b = (s.bay b).created p r.unit j) ∨
      ∃ p m, m.unit = r.unit ∧ (s.placeUnit b r staged).bay b = (s.bay b).joined p m := by
  rcases s.placeUnit_cases b r staged with e | ⟨i, -, e | ⟨p, st, e⟩⟩ <;> rw [e]
  · exact .inl rfl
  · exact (s.createJob_bay b r.unit i staged).imp_right .inl
  · exact .inr (.inr ⟨p, ⟨r.unit, st, some i⟩, rfl, by rw [State.addMember_eq, State.setBay_bay]⟩)

theorem State.placeUnit_ledger (r : UnitRecord) (staged : Bool) :
    ((s.placeUnit b r staged).bay b).ledger = (s.bay b).ledger := by
  rcases s.placeUnit_bay b r staged with e | ⟨p, j, m, -, -, e⟩ | ⟨p, m, -, e⟩ <;> rw [e]
  · exact Bay.ledger_congr rfl rfl (referTo_face ..) rfl fun _ _ _ => rfl
  · exact Bay.ledger_congr rfl rfl (referTo_face ..) rfl fun _ _ _ => rfl

theorem State.placeAll_ledger (d : Disposition) (staged : Bool) :
    ((s.placeAll b d staged).bay b).ledger = (s.bay b).ledger :=
  foldl_keeps (fun t : State => (t.bay b).ledger) _ (fun t r => t.placeUnit_ledger b r staged) _ s

theorem State.disposeAll_ledger : ((s.disposeAll b).bay b).ledger = (s.bay b).ledger := by
  rw [State.disposeAll, State.modInventory_eq, State.modBay_eq, State.setBay_bay]
  exact Bay.ledger_congr rfl rfl (map_face (fun r => by split <;> rfl) _) rfl fun _ _ _ => rfl

theorem State.passes_ledger : ((s.passes b).bay b).ledger = (s.bay b).ledger := by
  rw [State.passes, State.placeAll_ledger, State.placeAll_ledger, State.disposeAll_ledger]

/-- A builder run for any bay keeps the ledger of each. -/
theorem State.build_ledger (c : BayId) : ((s.build c).bay b).ledger = (s.bay b).ledger := by
  by_cases h : b = c
  · subst h
    unfold State.build
    split
    · rw [State.look_ledger, State.assign_ledger, State.passes_ledger]
    · rfl
  · rw [s.build_bay_ne h]

theorem State.applyReplacements_ledger : (s.applyReplacements.bay b).ledger = (s.bay b).ledger := by
  obtain ⟨m, -, e | e⟩ := s.applyReplacements_cases <;> rw [e]
  · rfl
  · exact State.forBays_keeps (fun t => (t.bay b).ledger) _ _ fun c t => t.build_ledger b c

theorem State.afterEnd_ledger : ((s.afterEnd b).bay b).ledger = (s.bay b).ledger := by
  rw [State.afterEnd, State.build_ledger, State.applyReplacements_ledger, State.assign_ledger]

end Ledgers

end Sys2Proof.Machine

namespace Sys2Proof.Machine

/-! SUPPORT. The INVENTORY that completes intake (01 R12, R13, R17, 04 R80, 07 R134). -/

/-! ## Intake completed, up to the builder run -/

/-- A bay that has taken the frame of its vehicle's units and entered SERVING. -/
def Bay.takenStock (x : Bay) (a : Admission) : Bay :=
  { x with
    ctl := { x.ctl with state := .serving, intakeTimer := none },
    inventory := a.unitList.map newRecord, truncated := a.truncated,
    deadline := match x.port.trainedRate with
      | none => x.deadline
      | some r => { x.deadline with serviceTime := rateServiceTime r },
    jobs := x.relieved.jobs,
    counters := (x.counters.modify BayCounter.inventoryEntriesDiscarded.index
      (Nat.repeat satInc a.ignored)).modify BayCounter.intakesCompleted.index satInc }

/-- The state in which the builder first runs for a vehicle: its bay in SERVING, with the notice of
that. -/
def State.stockTaken (s : State) (b : BayId) (x : Bay) (items : List InventoryItem) : State :=
  (s.post (.bayState b x.ctl.state .serving .intakeComplete x.ctl.vehicle 0 0 false)).setBay b
    (x.takenStock (admitItems items))

theorem State.setServiceTime_eq (s : State) (b : BayId) (x : Bay) :
    (s.setBay b x).setServiceTime b = s.setBay b { x with
      deadline := match x.port.trainedRate with
        | none => x.deadline
        | some r => { x.deadline with serviceTime := rateServiceTime r } } := by
  unfold State.setServiceTime
  rw [State.setBay_bay]
  cases e : x.port.trainedRate with
  | none => rfl
  | some r =>
    dsimp only
    rw [State.modDeadline_eq, State.modBay_eq, State.setBay_bay, State.setBay_setBay]

/-- The state that intake leaves, before the vehicle's departure is looked at. -/
def State.stockListed (s : State) (b : BayId) (x : Bay) (items : List InventoryItem) : State :=
  ((s.stockTaken b x items).build b).postInventoryTaken b false

theorem State.completeIntake_eq (s : State) (b : BayId) (x : Bay) (items : List InventoryItem) :
    (s.setBay b x).completeIntake b items =
      if x.ctl.vehicleState = some .departing then
        (s.stockListed b x items).enterDeparting b (.vehicleReported .departing)
      else s.stockListed b x items := by
  have taken : ((((((s.setBay b x).modBay b fun x => { x with
      inventory := (admitItems items).unitList.map newRecord,
      truncated := (admitItems items).truncated,
      ctl := { x.ctl with intakeTimer := none } }).bumpBy b .inventoryEntriesDiscarded
        (admitItems items).ignored).enter b .serving .intakeComplete).setServiceTime
          b).clearDeferred b).bump b .intakesCompleted = s.stockTaken b x items := by
    rw [State.modBay_eq, State.setBay_bay, State.setBay_setBay, State.bumpBy_eq, State.setBay_bay,
      State.setBay_setBay, State.enter, State.modCtl_eq, State.modBay_eq, State.setBay_bay,
      State.setBay_setBay, State.post_setBay, State.setServiceTime_eq, State.clearDeferred_eq,
      State.setBay_bay, State.setBay_setBay, State.bump_eq, State.modBay_eq, State.setBay_bay,
      State.setBay_setBay]
    rfl
  unfold State.completeIntake
  dsimp only
  rw [taken, State.setBay_bay]
  rfl

/-! ## The dispositions of the units (01 R17, R18) -/

/-- Every unit of a bay has the disposition of the claims. -/
def State.disposed (s : State) (x : Bay) : Prop :=
  ∀ r ∈ x.inventory, r.disposition = s.dispositionOf r

theorem State.dispose_unblocked {s t : State} {r : UnitRecord} (h : r.blocked = false)
    (manifest : t.manifest = s.manifest) : t.dispose r = s.dispositionOf r := by
  have governing : t.governing r.key = s.governing r.key := by
    rw [State.governing, manifest, State.governing]
  unfold State.dispose State.dispositionOf disposeAgainst
  rw [h, governing]
  cases s.governing r.key with
  | none => rfl
  | some i => simp only [State.entry, manifest, Option.map_some]; rfl

theorem State.disposed_referTo {s : State} {x y : Bay} {u : UnitAddr} {p : Place}
    (h : s.disposed x) (inventory : y.inventory = referTo u p x.inventory) : s.disposed y := by
  intro r hr
  rw [inventory] at hr
  obtain ⟨n, hn, rfl⟩ := List.mem_map.mp hr
  have same := h n hn
  split <;> exact same

/-- The first builder run gives every unit its disposition, none being blocked or in a job. -/
theorem State.build_disposed {s t : State} {b : BayId} (manifest : t.manifest = s.manifest)
    (serving : (t.bay b).ctl.state = .serving)
    (fresh : ∀ r ∈ (t.bay b).inventory, r.job = none ∧ r.blocked = false) :
    s.disposed ((t.build b).bay b) := by
  have first : s.disposed ((t.disposeAll b).bay b) := by
    rw [State.disposeAll, State.modInventory_eq, State.modBay_eq, State.setBay_bay]
    intro r hr
    obtain ⟨n, hn, rfl⟩ := List.mem_map.mp hr
    obtain ⟨job, unblocked⟩ := fresh n hn
    rw [job]
    exact State.dispose_unblocked unblocked manifest
  have place (u : State) (d : Disposition) (staged : Bool) (h : s.disposed (u.bay b)) :
      s.disposed ((u.placeAll b d staged).bay b) := by
    refine foldl_inv (fun v : State => s.disposed (v.bay b)) _ (fun v r h => ?_) _ u h
    rcases v.placeUnit_bay b r staged with e | ⟨p, j, m, -, -, e⟩ | ⟨p, m, -, e⟩ <;> rw [e]
    · exact h
    · exact State.disposed_referTo h rfl
    · exact State.disposed_referTo h rfl
  have passed := place _ .stageReady true (place _ .needsImage false first)
  rw [State.build, if_pos serving]
  unfold State.disposed
  rw [(State.look_keeps ..).2, (State.assign_worksIn _ b).bay.inventory]
  exact passed

/-! ## What intake leaves (07 R134) -/

section Intake
variable {s : State} {b : BayId} {x : Bay} {items : List InventoryItem}

theorem State.stockTaken_bay : (s.stockTaken b x items).bay b = x.takenStock (admitItems items) :=
  State.setBay_bay ..

theorem State.stockListed_bay (a : BayId) :
    (s.stockListed b x items).bay a = ((s.stockTaken b x items).build b).bay a := State.post_bay ..

theorem State.stockListed_other {a : BayId} (h : a ≠ b) :
    (s.stockListed b x items).bay a = s.bay a := by
  rw [State.stockListed_bay, State.build_bay_ne _ h, State.stockTaken,
    State.setBay_bay_ne _ _ (Ne.symm h), State.post_bay]

theorem State.stockListed_frame : (s.stockListed b x items).jobFrame = s.jobFrame ∧
    (s.stockListed b x items).streams = s.streams ∧ (s.stockListed b x items).pool = s.pool := by
  have built := (s.stockTaken b x items).build_builderFrame b
  obtain ⟨streams, pool⟩ := State.blocks_of_builderFrame built
  refine ⟨?_, ?_, ?_⟩
  · refine (State.jobFrame_of_blockFrame (State.post_blockFrame ..)).trans
      ((State.jobFrame_of_builderFrame built).trans (State.jobFrame_of_blockFrame ?_))
    rw [State.stockTaken, State.setBay_blockFrame, State.post_blockFrame]
  · refine (State.post_streams ..).trans (streams.trans ?_)
    rw [State.stockTaken, State.setBay_streams, State.post_streams]
  · refine (State.post_pool ..).trans (pool.trans ?_)
    rw [State.stockTaken, State.setBay_pool, State.post_pool]

theorem State.stockListed_ledger : ((s.stockListed b x items).bay b).ledger =
    (x.takenStock (admitItems items)).ledger := by
  rw [State.stockListed_bay, State.build_ledger, State.stockTaken_bay]

theorem State.stockListed_counters : ((s.stockListed b x items).bay b).counters =
    (x.takenStock (admitItems items)).counters := by
  rw [State.stockListed_bay, (State.build_staffed ..).counters, State.stockTaken_bay]

theorem State.stockListed_disposed : s.disposed ((s.stockListed b x items).bay b) := by
  rw [State.stockListed_bay]
  refine State.build_disposed ?_ (by rw [State.stockTaken_bay]; rfl) fun r hr => ?_
  · rw [State.stockTaken, State.setBay_manifest, State.post_manifest]
  · rw [State.stockTaken_bay] at hr
    obtain ⟨ux, -, rfl⟩ := List.mem_map.mp hr
    exact ⟨rfl, rfl⟩

end Intake

/-- An INVENTORY in INTAKE with a vehicle held completes intake (07 R134). -/
theorem exec_completesIntake {s : State} {b : BayId} {items : List InventoryItem} (hb : s.hears b)
    (hi : items.length ≤ 64) (hs : (s.bay b).ctl.state = .intake)
    (held : (s.bay b).ctl.vehicle ≠ none) :
    exec (.inventory b items) s = .next ((s.setBay b
      ((s.bay b).heard s.config.threshold)).completeIntake b items) := by
  refine congrArg _ ((State.receiveIf_hears _ (by simpa [inventoryFits] using hi) hb).trans ?_)
  unfold State.takeInventory
  dsimp only
  rw [State.setBay_bay, Bay.heard_ctl, hs]
  exact if_pos (Option.isSome_iff_ne_none.mpr held)

/-- The parts of the claim that hold of intake in either state it leads to. -/
theorem State.stockListed_intakes (s : State) (b : BayId) (n : Nat) (items : List InventoryItem) :
    (s.stockListed b ((s.bay b).heard n) items).bayCounter b .intakesCompleted =
      satInc (s.bayCounter b .intakesCompleted) := by
  rw [State.bayCounter, State.stockListed_counters]
  refine (Table.get_modify_self ..).trans (congrArg satInc ?_)
  exact (Table.get_modify_ne _ _ (BayCounter.index_ne (by decide))).trans
    (counters_modify_ne (by decide))

/-- Intake that leads to SERVING (07 R134, 01 R13, R17, 04 R80). -/
theorem exec_intakeServes {s : State} {b : BayId} {items : List InventoryItem} {r : RateCode}
    (hb : s.hears b) (hi : items.length ≤ 64) (hs : (s.bay b).ctl.state = .intake)
    (held : (s.bay b).ctl.vehicle ≠ none) (stays : (s.bay b).ctl.vehicleState ≠ some .departing)
    (hr : (s.bay b).port.trainedRate = some r) :
    ∃ t, exec (.inventory b items) s = .next t ∧
      (t.bay b).ctl = { (s.bay b).ctl with state := .serving, intakeTimer := none } ∧
      (t.bay b).truncated = (admitItems items).truncated ∧
      (t.bay b).inventory.map UnitRecord.face =
        (admitItems items).unitList.map (fun ux => (ux.1, ux.2.cls, ux.2.revision,
          ux.2.running, itemStandby ux.2, false)) ∧
      (∀ u ∈ (t.bay b).inventory, u.disposition = s.dispositionOf u) ∧
      (t.bay b).deadline.serviceTime = rateServiceTime r ∧
      t.bayCounter b .intakesCompleted = satInc (s.bayCounter b .intakesCompleted) ∧
      s.sameOtherBays t b ∧ s.sameLoads t ∧ t.streams = s.streams ∧ t.pool = s.pool ∧
      t.uplink = s.uplink := by
  obtain ⟨x, hx⟩ : ∃ x, x = (s.bay b).heard s.config.threshold := ⟨_, rfl⟩
  have ctl : x.ctl = (s.bay b).ctl := by rw [hx]; rfl
  have e : exec (.inventory b items) s = .next (s.stockListed b x items) := by
    rw [exec_completesIntake hb hi hs held, ← hx, State.completeIntake_eq,
      if_neg (by rw [ctl]; exact stays)]
  have ledger := State.stockListed_ledger (s := s) (b := b) (x := x) (items := items)
  have service : (x.takenStock (admitItems items)).deadline.serviceTime = rateServiceTime r := by
    have rate : x.port.trainedRate = some r := by rw [hx]; exact hr
    rw [Bay.takenStock]
    dsimp only
    rw [rate]
  obtain ⟨frame, streams, pool⟩ := State.stockListed_frame (s := s) (b := b) (x := x)
    (items := items)
  obtain ⟨-, -, -, -, uplink, -⟩ := State.fields_of_jobFrame frame
  refine ⟨_, e, ?_, congrArg Ledger.truncated ledger, (congrArg Ledger.faces ledger).trans ?_,
    State.stockListed_disposed, (congrArg Ledger.serviceTime ledger).trans service,
    hx ▸ s.stockListed_intakes .., fun a ha => State.stockListed_other ha,
    State.sameLoads_of_jobFrame frame, streams, pool, uplink⟩
  · rw [← ctl]
    exact congrArg Ledger.ctl ledger
  · exact List.map_map

/-- Intake of a vehicle that has announced its departure (07 R134, log 8). -/
theorem exec_intakeDeparts {s : State} {b : BayId} {items : List InventoryItem}
    (hb : s.hears b) (hi : items.length ≤ 64) (hs : (s.bay b).ctl.state = .intake)
    (held : (s.bay b).ctl.vehicle ≠ none) (departs : (s.bay b).ctl.vehicleState = some .departing) :
    ∃ t, exec (.inventory b items) s = .next t ∧
      (t.bay b).ctl = { (s.bay b).ctl with state := .departing, intakeTimer := none } ∧
      t.bayCounter b .intakesCompleted = satInc (s.bayCounter b .intakesCompleted) ∧
      t.bayCounter b .departuresAnnounced = satInc (s.bayCounter b .departuresAnnounced) ∧
      s.sameOtherBays t b ∧ s.sameLoads t ∧ t.uplink = s.uplink := by
  obtain ⟨x, hx⟩ : ∃ x, x = (s.bay b).heard s.config.threshold := ⟨_, rfl⟩
  have ctl : x.ctl = (s.bay b).ctl := by rw [hx]; rfl
  obtain ⟨q, hq⟩ : ∃ q, q = s.stockListed b x items := ⟨_, rfl⟩
  have e : exec (.inventory b items) s =
      .next (q.enterDeparting b (.vehicleReported .departing)) := by
    rw [exec_completesIntake hb hi hs held, ← hx, State.completeIntake_eq,
      if_pos (by rw [ctl]; exact departs), hq]
  -- the bay and the frame before DEPARTING is entered
  have left : (q.bay b).ctl = { (s.bay b).ctl with state := .serving, intakeTimer := none } := by
    rw [← ctl, hq]
    exact congrArg Ledger.ctl State.stockListed_ledger
  have intakes : q.bayCounter b .intakesCompleted = satInc (s.bayCounter b .intakesCompleted) := by
    rw [hq, hx]
    exact s.stockListed_intakes ..
  have departures : q.bayCounter b .departuresAnnounced = s.bayCounter b .departuresAnnounced := by
    rw [hq, State.bayCounter, State.stockListed_counters, hx]
    exact ((counters_modify_ne (by decide)).trans
      (Table.get_modify_ne _ _ (BayCounter.index_ne (by decide)))).trans
      (counters_modify_ne (by decide))
  have others (a : BayId) (ha : a ≠ b) : q.bay a = s.bay a := by
    rw [hq, State.stockListed_other ha]
  have frame : q.jobFrame = s.jobFrame := by rw [hq]; exact State.stockListed_frame.1
  rw [← q.setBay_self b, State.enterDeparting_eq] at e
  generalize Notice.bayState .. = n at e
  obtain ⟨shed, -, others', frame'⟩ :=
    ((q.setBay b (q.bay b).departs).post n).withhold_spec b (q.bay b).ctl.state
  rw [State.post_blockFrame, State.setBay_blockFrame] at frame'
  rw [State.post_bay, State.setBay_bay] at shed
  have frame := (State.jobFrame_of_blockFrame frame').trans frame
  obtain ⟨-, -, -, -, uplink, -⟩ := State.fields_of_jobFrame frame
  obtain ⟨-, after, -⟩ := shed.fields
  refine ⟨_, e, ?_, ?_, ?_, fun a ha => ?_, State.sameLoads_of_jobFrame frame, uplink⟩
  · rw [after]
    change { (q.bay b).ctl with state := .departing } = _
    rw [left]
  · rw [← intakes]
    exact (shed.counts _ (by decide)).trans (counters_modify_ne (by decide))
  · rw [← departures]
    exact (shed.counts _ (by decide)).trans (Table.get_modify_self ..)
  · rw [others' a ha, State.post_bay, State.setBay_bay_ne _ _ (Ne.symm ha), others a ha]

end Sys2Proof.Machine

namespace Sys2Proof.Machine

/-! SUPPORT. The builder run for a bay without jobs whose inventory is a single unit (01 R17 to R21,
03 R52, R54, R55). -/

/-! ## A job's entering OPENING, exactly (03 R55) -/

/-- A bay whose job in a place has entered OPENING on a channel. -/
def Bay.opening (x : Bay) (c : ChannelId) (p : Place) (j : Job) (st : Stream) : Bay :=
  { x with
    openCounter := x.openCounter + 1,
    jobs := x.jobs.modify p (Option.map fun k =>
      { k with state := .opening, channel := some c, tag := x.openCounter + 1,
               start := if j.cursor = 0 ∧ j.gaps = [] then st.position else j.start }),
    channels := x.channels.modify c.val fun ch =>
      { ch with job := some p, tag := x.openCounter + 1, credit := x.creditsPer, inFlight := [],
                openTimer := none, openExpired := false, closeTimer := none },
    port := { x.port with control := x.port.control ++
      [.channelOpen c (x.openCounter + 1) j.identity st.lastLength
        (if j.cursor = 0 ∧ j.gaps = [] then st.position else j.start)] } }

theorem State.enterOpening_eq (s : State) (b : BayId) (c : ChannelId) (p : Place) (j : Job) :
    s.enterOpening b c p j = s.setBay b ((s.bay b).opening c p j (s.stream j.stream)) := by
  simp only [State.enterOpening, State.placeControl, State.modPort_eq, State.modJob_eq,
    State.modChannel_eq, State.modBay_eq, State.setBay_bay, State.setBay_setBay]
  rfl

/-! ## A bay's only job -/

/-- A bay's only job is the one in a place. -/
def Bay.soleJob (x : Bay) (p : Place) (j : Job) : Prop :=
  x.jobs.get p = some j ∧ ∀ q, q ≠ p → x.jobs.get q = none

theorem Bay.soleJob.only {x : Bay} {p q : Place} {j k : Job} (h : x.soleJob p j)
    (hk : x.jobs.get q = some k) : q = p ∧ k = j := by
  obtain ⟨here, others⟩ := h
  have e : q = p := by
    by_contra ne
    rw [others q ne] at hk
    cases hk
  subst e
  exact ⟨rfl, Option.some.inj (hk.symm.trans here)⟩

/-- A bay's only job is next when a channel may be given to it. -/
theorem Bay.soleJob.next {x : Bay} {p : Place} {j : Job} (h : x.soleJob p j)
    (ok : j.assignable = true) : x.nextJob = some (p, j) := by
  cases e : x.nextJob with
  | none =>
    rw [Bay.nextJob_none e h.1] at ok
    cases ok
  | some a =>
    obtain ⟨q, k⟩ := a
    obtain ⟨rfl, rfl⟩ := h.only (Bay.nextJob_assignable e).1
    rfl

theorem Bay.soleJob.noNext {x : Bay} {p : Place} {j : Job} (h : x.soleJob p j)
    (waits : j.assignable = false) : x.nextJob = none := by
  by_contra ne
  obtain ⟨⟨q, k⟩, e⟩ := Option.ne_none_iff_exists'.mp ne
  obtain ⟨hk, ok⟩ := Bay.nextJob_assignable e
  rw [(h.only hk).2, waits] at ok
  cases ok

theorem State.assigns_noNext {s : State} {b : BayId} (n : Nat) (h : (s.bay b).nextJob = none) :
    State.assigns n b s = s := by
  cases n with
  | zero => rfl
  | succ n =>
    unfold State.assigns
    rw [h]
    split
    · split
      · next h => cases h
      · rfl
    · rfl

/-- Beside a free channel, the only job of a bay in SERVING gets it. -/
theorem State.assign_sole {s : State} {b : BayId} {c : ChannelId} {p : Place} {j : Job}
    (serving : (s.bay b).ctl.state = .serving) (free : (s.bay b).freeChannel? = some c)
    (sole : (s.bay b).soleJob p j) (ok : j.assignable = true) :
    s.assign b = s.enterOpening b c p j := by
  obtain ⟨work, ⟨tag, entered⟩, others⟩ := State.enterOpening_writes c sole.1
  have after : ((s.enterOpening b c p j).bay b).soleJob p
      (j.opened c tag (s.stream j.stream).position) :=
    ⟨entered, fun q hq => (others q hq).trans (sole.2 q hq)⟩
  rw [State.assign, State.assigns, if_pos serving, free, sole.next ok]
  exact State.assigns_noNext 3 (after.noNext rfl)

/-- Where no member is STAGED, a look finds nothing. -/
theorem State.look_unstaged {s : State} {b : BayId}
    (h : ∀ p j, s.job b p = some j → ∀ m ∈ j.members, m.state ≠ .staged) : s.look b = s := by
  by_cases idle : (s.bay b).activation = .idle
  · rcases State.look_idle idle with ⟨-, e⟩ | ⟨p, j, m, mem, -⟩
    · exact e
    · obtain ⟨hj, hm, ok⟩ := State.mem_eligibles.mp mem
      obtain ⟨⟨staged, -⟩, -⟩ := (s.eligible_iff b j m).mp ok
      exact absurd staged (h p j hj m hm)
  · unfold State.look
    split
    · next e => exact absurd e idle
    all_goals rfl

/-! ## The passes over a single unit (01 R18) -/

/-- A bay without jobs. -/
def Bay.vacant (x : Bay) : Prop := ∀ p, x.jobs.get p = none

theorem Bay.vacant.liveJobFor {x : Bay} (h : x.vacant) (st : StreamId) :
    x.liveJobFor st = none := by
  by_contra ne
  obtain ⟨⟨p, j⟩, e⟩ := Option.ne_none_iff_exists'.mp ne
  cases (h p).symm.trans (Bay.find_job_iff.mp e).1

theorem Bay.vacant.newPlace {x : Bay} (h : x.vacant) : x.newPlace = some 0 := by
  have e : x.jobs.find Option.isNone = some 0 :=
    Table.find_eq_some_iff.mpr ⟨by rw [h 0]; rfl, fun i hi => absurd hi (Fin.not_lt_zero i)⟩
  rw [Bay.newPlace, e]

section Single
variable {s : State} {b : BayId} {n r : UnitRecord}

theorem State.disposeAll_single (h : (s.bay b).inventory = [n]) (free : n.job = none) :
    s.disposeAll b =
      s.setBay b { s.bay b with inventory := [{ n with disposition := s.dispose n }] } := by
  rw [State.disposeAll, State.modInventory_eq, State.modBay_eq, h, List.map_singleton, free]
  rfl

theorem State.placeAll_single (h : (s.bay b).inventory = [r]) (d : Disposition) (staged : Bool) :
    s.placeAll b d staged =
      if r.job = none ∧ r.disposition = d then s.placeUnit b r staged else s := by
  rw [State.placeAll, h]
  by_cases e : r.job = none ∧ r.disposition = d
  · rw [if_pos e, List.filter_cons_of_pos (by simp [e])]
    rfl
  · rw [if_neg e, List.filter_cons_of_neg (by simpa using e)]
    rfl

/-- In a bay without jobs a unit that an entry governs gets a job of its own (01 R19, R20). -/
theorem State.placeUnit_vacant {i : EntryId} (h : (s.bay b).vacant)
    (governs : s.governing r.key = some i) (staged : Bool) :
    s.placeUnit b r staged = s.createJob b r.unit i staged := by
  unfold State.placeUnit
  rw [governs]
  dsimp only
  rw [h.liveJobFor]

end Single

/-! ## The resume record of a transfer, restored (03 R52, 07 R143) -/

/-- A job for an image is QUEUED with the progress that a resume record held, or with none. -/
def queuedJob (st : StreamId) (ident : Identity) (m : Member) (start cursor : Nat)
    (gaps : List Gap) : Job :=
  { stream := st, identity := ident, members := [m], state := .queued, channel := none, tag := 0,
    start := start, cursor := cursor, gaps := gaps, attempts := 1, deferred := false,
    checkFailed := false, endTime := none }

/-- A job for an image starts as such a job, whatever the resume table holds for it. -/
theorem newJob_queued (st : StreamId) (ident : Identity) (m : Member) (k : Option ResumeRecord) :
    ∃ start cursor gaps, newJob st ident false m k = queuedJob st ident m start cursor gaps := by
  cases k with
  | none => exact ⟨0, 0, [], rfl⟩
  | some k => exact ⟨k.start, k.cursor, k.gaps, rfl⟩

/-- A new job has the progress of its vehicle's resume record, which leaves the table; without a
record it has none (03 R52, 07 R143). -/
theorem State.takeResume_restores {s : State} {v : Word} {ident : Identity}
    {position start cursor : Nat} {gaps : List Gap} {table : ResumeTable} (st : StreamId)
    (m : Member)
    (h : (s.resume.lookup v ident = none ∧ start = position ∧ cursor = 0 ∧ gaps = [] ∧
        table = s.resume) ∨
      (∃ q k, s.resume.lookup v ident = some q ∧ s.resume.places.get q = some k ∧
        start = (if k.cursor = 0 ∧ k.gaps = [] then position else k.start) ∧
        cursor = k.cursor ∧ gaps = k.gaps ∧
        table = { places := s.resume.places.set q none,
                  order := s.resume.order.filter (· ≠ q) })) :
    (s.takeResume (some v) ident).2.resume = table ∧
      ∃ held, newJob st ident false m (s.takeResume (some v) ident).1 =
          queuedJob st ident m held cursor gaps ∧
        start = if cursor = 0 ∧ gaps = [] then position else held := by
  unfold State.takeResume
  dsimp only
  rcases h with ⟨lookup, hs, rfl, rfl, rfl⟩ | ⟨q, k, lookup, hk, hs, rfl, rfl, rfl⟩
  · rw [lookup]
    exact ⟨rfl, 0, rfl, by simpa using hs⟩
  · rw [lookup]
    dsimp only
    rw [hk]
    exact ⟨rfl, k.start, rfl, hs⟩

/-! ## The builder run for a single unit -/

section Single
variable {s : State} {b : BayId} {n : UnitRecord} {i : EntryId}

/-- A bay whose single unit has received its disposition. -/
def State.singled (s : State) (b : BayId) (n : UnitRecord) : State :=
  s.setBay b { s.bay b with inventory := [{ n with disposition := s.dispose n }] }

/-- The job that is created for a single unit. -/
def State.firstJob (s : State) (b : BayId) (n : UnitRecord) (i : EntryId) (staged : Bool) : Job :=
  newJob (s.entry i).fields.stream (s.identityOf (s.entry i).fields) staged
    ⟨n.unit, if staged then .staged else .pending, some i⟩
    (s.takeResume (s.bay b).ctl.vehicle (s.identityOf (s.entry i).fields)).1

/-- The bay of a single unit with the job created for it. -/
def State.manned (s : State) (b : BayId) (n : UnitRecord) (j : Job) : Bay :=
  { s.bay b with
    jobs := (s.bay b).jobs.set 0 (some j),
    endOrder := (s.bay b).endOrder.filter (· ≠ 0),
    inventory := [{ n with disposition := s.dispose n, job := some 0 }] }

theorem State.takeResume_setBay (s : State) (b : BayId) (x : Bay) (v : Option Word)
    (k : Identity) : (s.setBay b x).takeResume v k =
      ((s.takeResume v k).1, (s.takeResume v k).2.setBay b x) := by
  unfold State.takeResume
  cases v with
  | none => rfl
  | some v =>
    dsimp only
    rw [State.setBay_resume]
    cases s.resume.lookup v k <;> rfl

theorem State.singled_createJob (h : (s.bay b).vacant) (staged : Bool) :
    (s.singled b n).createJob b n.unit i staged =
      (s.takeResume (s.bay b).ctl.vehicle (s.identityOf (s.entry i).fields)).2.setBay b
        (s.manned b n (s.firstJob b n i staged)) := by
  have place : ((s.singled b n).bay b).newPlace = some 0 := by
    rw [State.singled, State.setBay_bay]
    exact Bay.vacant.newPlace h
  have e := (s.singled b n).createJob_placed b place n.unit i staged
  dsimp only at e
  rw [e, State.singled, State.setBay_bay, State.takeResume_setBay, State.setBay_setBay]
  refine congrArg _ ?_
  rw [State.manned, Bay.created]
  dsimp only [referTo]
  rw [List.map_singleton, if_pos rfl]
  rfl

/-- Placing a single unit leaves its disposition. -/
theorem State.placeUnit_single {r : UnitRecord} (listed : (s.bay b).inventory = [r])
    (staged : Bool) : ∃ r', ((s.placeUnit b r staged).bay b).inventory = [r'] ∧
      r'.disposition = r.disposition := by
  have referred (p : Place) : ∃ r', referTo r.unit p [r] = [r'] ∧ r'.disposition = r.disposition :=
    ⟨{ r with job := some p }, by rw [referTo, List.map_singleton, if_pos rfl], rfl⟩
  rcases s.placeUnit_bay b r staged with e | ⟨p, j, m, -, -, e⟩ | ⟨p, m, same, e⟩ <;> rw [e]
  · exact ⟨r, listed, rfl⟩
  · rw [Bay.created, listed]
    exact referred p
  · rw [Bay.joined, listed, same]
    exact referred p

/-- The passes over a single unit without a job place it when it needs its image or has it on
standby. -/
theorem State.passes_single (listed : (s.bay b).inventory = [n]) (free : n.job = none) :
    s.passes b =
      if s.dispose n = .needsImage then
        (s.singled b n).placeUnit b { n with disposition := s.dispose n } false
      else if s.dispose n = .stageReady then
        (s.singled b n).placeUnit b { n with disposition := s.dispose n } true
      else s.singled b n := by
  obtain ⟨r, hr⟩ : ∃ r, r = { n with disposition := s.dispose n } := ⟨_, rfl⟩
  have disposition : r.disposition = s.dispose n := by rw [hr]
  have free : r.job = none := by rw [hr, free]
  have inventory : ((s.singled b n).bay b).inventory = [r] := by
    rw [State.singled, State.setBay_bay, hr]
  rw [State.passes, State.disposeAll_single listed ‹_›, ← State.singled,
    State.placeAll_single inventory, ← hr, ← disposition]
  by_cases needs : r.disposition = .needsImage
  · rw [if_pos ⟨free, needs⟩, if_pos needs]
    obtain ⟨r', inventory', disposition'⟩ := State.placeUnit_single inventory false
    rw [State.placeAll_single inventory', disposition', needs, if_neg (by simp)]
  · rw [if_neg (fun h => needs h.2), if_neg needs, State.placeAll_single inventory]
    by_cases ready : r.disposition = .stageReady
    · rw [if_pos ⟨free, ready⟩, if_pos ready]
    · rw [if_neg (fun h => ready h.2), if_neg ready]

/-- Only a unit that an entry governs needs its image or has it on standby (01 R17). -/
theorem State.governs_of_disposed {d : Disposition} (h : s.dispose n = d) (blocked : d ≠ .blocked)
    (unmanaged : d ≠ .unmanaged) : ∃ i, s.governing n.key = some i := by
  refine Option.ne_none_iff_exists'.mp fun none => ?_
  unfold State.dispose disposeAgainst at h
  rw [none] at h
  split at h
  · exact blocked h.symm
  · exact unmanaged h.symm

/-- A single unit that needs its image or has it on standby has a job created for it. -/
theorem State.passes_creates (h : (s.bay b).vacant) (listed : (s.bay b).inventory = [n])
    (free : n.job = none) (governs : s.governing n.key = some i) {staged : Bool}
    (placed : s.dispose n = if staged then .stageReady else .needsImage) :
    s.passes b =
      (s.takeResume (s.bay b).ctl.vehicle (s.identityOf (s.entry i).fields)).2.setBay b
        (s.manned b n (s.firstJob b n i staged)) := by
  have vacant : ((s.singled b n).bay b).vacant := by
    rw [State.singled, State.setBay_bay]
    exact h
  have creates := (State.placeUnit_vacant (r := { n with disposition := s.dispose n }) vacant governs
    staged).trans (State.singled_createJob h staged)
  rw [State.passes_single listed free, ← creates]
  cases staged
  · exact if_pos placed
  · exact (if_neg (by rw [placed]; decide)).trans (if_pos placed)

theorem State.manned_sole (h : (s.bay b).vacant) (j : Job) : (s.manned b n j).soleJob 0 j :=
  ⟨Table.get_set_self .., fun q hq => (Table.get_set_ne _ _ (Ne.symm hq)).trans (h q)⟩

/-- A single unit that needs its image gets a job that opens on channel 0 (01 R21, 03 R54). -/
theorem State.build_opens {ch : Channel} {others : List Channel}
    (serving : (s.bay b).ctl.state = .serving) (h : (s.bay b).vacant)
    (listed : (s.bay b).inventory = [n]) (free : n.job = none)
    (channels : (s.bay b).channels = ch :: others) (unused : ch.job = none)
    (governs : s.governing n.key = some i) (needs : s.dispose n = .needsImage)
    {start cursor : Nat} {gaps : List Gap}
    (made : s.firstJob b n i false = queuedJob (s.entry i).fields.stream
      (s.identityOf (s.entry i).fields) ⟨n.unit, .pending, some i⟩ start cursor gaps) :
    s.build b =
      (s.takeResume (s.bay b).ctl.vehicle (s.identityOf (s.entry i).fields)).2.setBay b
        ((s.manned b n (s.firstJob b n i false)).opening 0 0 (s.firstJob b n i false)
          (s.stream (s.entry i).fields.stream)) := by
  obtain ⟨j, hj⟩ : ∃ j, j = s.firstJob b n i false := ⟨_, rfl⟩
  rw [← hj] at made ⊢
  have sole := State.manned_sole (n := n) h j
  have passed := State.passes_creates h listed free governs (staged := false) needs
  rw [← hj] at passed
  obtain ⟨t, ht⟩ : ∃ t, t = (s.takeResume (s.bay b).ctl.vehicle
    (s.identityOf (s.entry i).fields)).2 := ⟨_, rfl⟩
  rw [← ht] at passed ⊢
  have streams : t.streams = s.streams := by
    have frame : t.builderFrame = s.builderFrame := by rw [ht, State.takeResume_builderFrame]
    exact (State.blocks_of_builderFrame frame).1
  have first : (s.manned b n j).freeChannel? = some 0 := by
    have at0 : (s.manned b n j).freeAt 0 = true := by
      rw [Bay.freeAt]
      change (match (s.bay b).channels[0]? with | none => false | some ch => ch.job.isNone) = true
      rw [channels]
      simpa using unused
    rw [Bay.freeChannel?_eq]
    exact List.find?_cons_of_pos at0
  have opened : (t.setBay b (s.manned b n j)).assign b =
      t.setBay b ((s.manned b n j).opening 0 0 j (s.stream (s.entry i).fields.stream)) := by
    rw [State.assign_sole (c := 0) (p := 0) (j := j), State.enterOpening_eq, State.setBay_bay,
      State.setBay_setBay, State.setBay_stream, State.stream, streams, made, State.stream]
    · rfl
    · rw [State.setBay_bay]; exact serving
    · rw [State.setBay_bay]; exact first
    · rw [State.setBay_bay]; exact sole
    · rw [made]; rfl
  rw [State.build, if_pos serving, passed, opened]
  refine State.look_unstaged fun p k hk m hm => ?_
  rw [State.job, State.setBay_bay] at hk
  obtain ⟨k', hk', same⟩ : ∃ k', (s.manned b n j).jobs.get p = some k' ∧ k.members = k'.members := by
    by_cases e : p = 0
    · subst e
      obtain ⟨k', hk', rfl⟩ := Option.map_eq_some_iff.mp ((Table.get_modify_self ..).symm.trans hk)
      exact ⟨k', hk', rfl⟩
    · exact ⟨k, (Table.get_modify_ne _ _ (Ne.symm e)).symm.trans hk, rfl⟩
  rw [same, (sole.only hk').2, made] at hm
  rw [List.mem_singleton.mp hm]
  exact UnitState.noConfusion

/-- A single unit whose image is on standby gets a STAGED job (01 R20, R21). -/
theorem State.build_stages (serving : (s.bay b).ctl.state = .serving) (h : (s.bay b).vacant)
    (listed : (s.bay b).inventory = [n]) (free : n.job = none)
    (governs : s.governing n.key = some i) (ready : s.dispose n = .stageReady) :
    ((s.build b).bay b).jobs = (s.manned b n (s.firstJob b n i true)).jobs ∧
      ((s.build b).bay b).inventory = (s.manned b n (s.firstJob b n i true)).inventory := by
  have sole := State.manned_sole (n := n) h (s.firstJob b n i true)
  rw [State.build, if_pos serving,
    State.passes_creates h listed free governs (staged := true) ready, State.assign,
    State.assigns_noNext 4 (by rw [State.setBay_bay]; exact sole.noNext rfl), (State.look_keeps ..).1,
    (State.look_keeps ..).2, State.setBay_bay]
  exact ⟨rfl, rfl⟩

/-- A single unit of any other disposition gets no job. -/
theorem State.build_nothing (serving : (s.bay b).ctl.state = .serving) (h : (s.bay b).vacant)
    (listed : (s.bay b).inventory = [n]) (free : n.job = none) (current : s.dispose n ≠ .needsImage)
    (unready : s.dispose n ≠ .stageReady) :
    ((s.build b).bay b).jobs = (s.bay b).jobs ∧
      ((s.build b).bay b).inventory = [{ n with disposition := s.dispose n }] := by
  have none : ((s.singled b n).bay b).nextJob = none := by
    by_contra ne
    obtain ⟨⟨p, j⟩, e⟩ := Option.ne_none_iff_exists'.mp ne
    have hj := (Bay.nextJob_assignable e).1
    rw [State.singled, State.setBay_bay] at hj
    cases (h p).symm.trans hj
  rw [State.build, if_pos serving, State.passes_single listed free, if_neg current, if_neg unready,
    State.assign, State.assigns_noNext 4 none, (State.look_keeps ..).1, (State.look_keeps ..).2,
    State.singled, State.setBay_bay]
  exact ⟨rfl, rfl⟩

end Single

/-! ## The claims of a single unit (01 R17, R20, R21, 03 R52, R54, R55, 07 R143) -/

/-- The frame of a single unit is admitted whole (01 R12). -/
theorem admitItems_single {x : InventoryItem} {u : UnitAddr} (h : x.unit.toNat = u.val) :
    (admitItems [x]).unitList = [(u, x)] := by
  have taken : admitItems [x] = ⟨[(u, x)], 0, false⟩ := by
    rw [admitItems, List.foldl_cons, List.foldl_nil, Admission.take, idx_eq_some h]
    rfl
  have picks (w : UnitAddr) : [(u, x)].find? (·.1 = w) =
      if (decide (w = u)) = true then some (u, x) else none := by
    by_cases e : w = u
    · subst e; simp
    · simp [e, Ne.symm e]
  have once : (List.finRange 64).filter (· = u) = [u] := by
    rw [List.filter_eq, List.count_eq_one_of_mem (List.nodup_finRange 64) (List.mem_finRange u)]
    rfl
  rw [taken, Admission.unitList]
  simp only [picks]
  rw [← List.filterMap_filter (f := fun _ => some (u, x)), once]
  rfl

section Single
variable {s : State} {b : BayId} {n : UnitRecord} {i : EntryId} {v : Word} {ch : Channel}
  {others : List Channel}

/-- The transfer that the builder opens for a single unit, with the progress of its resume record. -/
theorem State.build_opensTransfer {start cursor : Nat} {gaps : List Gap} {table : ResumeTable}
    (held : (s.bay b).ctl.vehicle = some v) (serving : (s.bay b).ctl.state = .serving)
    (h : (s.bay b).vacant) (listed : (s.bay b).inventory = [n]) (free : n.job = none)
    (channels : (s.bay b).channels = ch :: others) (unused : ch.job = none)
    (governs : s.governing n.key = some i) (needs : s.dispose n = .needsImage)
    {g : EntryFields} (hg : g = (s.entry i).fields) {ident : Identity}
    (hident : ident = s.identityOf g)
    (progress : (s.resume.lookup v ident = none ∧ start = (s.stream g.stream).position ∧
        cursor = 0 ∧ gaps = [] ∧ table = s.resume) ∨
      (∃ q k, s.resume.lookup v ident = some q ∧ s.resume.places.get q = some k ∧
        start = (if k.cursor = 0 ∧ k.gaps = [] then (s.stream g.stream).position else k.start) ∧
        cursor = k.cursor ∧ gaps = k.gaps ∧
        table = { places := s.resume.places.set q none,
                  order := s.resume.order.filter (· ≠ q) })) :
    (s.build b).job b 0 = some { stream := g.stream, identity := ident,
                                 members := [⟨n.unit, .pending, some i⟩], state := .opening,
                                 channel := some 0, tag := (s.bay b).openCounter + 1,
                                 start := start, cursor := cursor, gaps := gaps, attempts := 1,
                                 deferred := false, checkFailed := false, endTime := none } ∧
      (s.build b).resume = table ∧
      (s.build b).channel b 0 = some { job := some 0, credit := (s.bay b).creditsPer,
                                       inFlight := [], tag := (s.bay b).openCounter + 1,
                                       openTimer := none, openExpired := false,
                                       closeTimer := none } ∧
      ((s.build b).bay b).port.control = (s.bay b).port.control ++
        [.channelOpen 0 ((s.bay b).openCounter + 1) ident (s.stream g.stream).lastLength start] := by
  obtain ⟨hresume, kept, made, hstart⟩ := State.takeResume_restores g.stream
    ⟨n.unit, .pending, some i⟩ progress
  subst hident hg
  rw [← held] at hresume made
  have first : s.firstJob b n i false = _ := made
  obtain ⟨x, hx⟩ : ∃ x, x = s.manned b n (s.firstJob b n i false) := ⟨_, rfl⟩
  have job : x.jobs.get 0 = some (s.firstJob b n i false) := by
    rw [hx]
    exact Table.get_set_self ..
  have same : x.openCounter = (s.bay b).openCounter ∧ x.creditsPer = (s.bay b).creditsPer ∧
      x.channels = (s.bay b).channels ∧ x.port = (s.bay b).port := by
    rw [hx]
    exact ⟨rfl, rfl, rfl, rfl⟩
  obtain ⟨counter, credits, same, port⟩ := same
  rw [State.build_opens serving h listed free channels unused governs needs made, ← hx, State.job,
    State.channel, State.setBay_bay, State.setBay_resume]
  refine ⟨?_, hresume, ?_, ?_⟩
  · refine (Table.get_modify_self ..).trans ?_
    rw [job, first, counter, hstart]
    rfl
  · change (x.channels.modify 0 _)[0]? = _
    rw [same, channels, counter, credits]
    rfl
  · change x.port.control ++ _ = _
    rw [port, counter, first, hstart]
    rfl

end Single

/-- The parts of the claims that the entry governing a single unit decides. -/
def State.singlePlaced (s t : State) (b : BayId) (u : UnitAddr) (v : Word) (r : UnitRecord) : Prop :=
  (∀ (i : EntryId) (g : EntryFields) (ident : Identity), s.governing r.key = some i →
    g = (s.entry i).fields → ident = ⟨(s.stream g.stream).length, g.check, g.target⟩ →
    (r.disposition = .needsImage →
      (∀ (start cursor : Nat) (gaps : List Gap) (table : ResumeTable),
        ((s.resume.lookup v ident = none ∧ start = (s.stream g.stream).position ∧
            cursor = 0 ∧ gaps = [] ∧ table = s.resume) ∨
          (∃ q k, s.resume.lookup v ident = some q ∧ s.resume.places.get q = some k ∧
            start = (if k.cursor = 0 ∧ k.gaps = [] then (s.stream g.stream).position
              else k.start) ∧
            cursor = k.cursor ∧ gaps = k.gaps ∧
            table = { places := s.resume.places.set q none,
                      order := s.resume.order.filter (· ≠ q) })) →
        t.job b 0 = some { stream := g.stream, identity := ident,
                           members := [⟨u, .pending, some i⟩], state := .opening,
                           channel := some 0, tag := (s.bay b).openCounter + 1, start := start,
                           cursor := cursor, gaps := gaps, attempts := 1, deferred := false,
                           checkFailed := false, endTime := none } ∧
          t.resume = table ∧
          t.channel b 0 = some { job := some 0, credit := (s.bay b).creditsPer,
                                 inFlight := [], tag := (s.bay b).openCounter + 1,
                                 openTimer := none, openExpired := false,
                                 closeTimer := none } ∧
          (t.bay b).port.control = (s.bay b).port.control ++
            [.channelOpen 0 ((s.bay b).openCounter + 1) ident (s.stream g.stream).lastLength
              start]) ∧
      (t.bay b).inventory = [{ r with job := some 0 }]) ∧
    (r.disposition = .stageReady →
      t.job b 0 = some { stream := g.stream, identity := ident,
                         members := [⟨u, .staged, some i⟩], state := .staged,
                         channel := none, tag := 0, start := 0, cursor := ident.length,
                         gaps := [], attempts := 1, deferred := false,
                         checkFailed := false, endTime := none } ∧
        (t.bay b).inventory = [{ r with job := some 0 }]))

section Single
variable {s : State} {b : BayId} {n r : UnitRecord} {v : Word} {ch : Channel}
  {others : List Channel}

/-- What the builder makes of the single unit of a bay without jobs, whose channel 0 is free. -/
theorem State.build_single (held : (s.bay b).ctl.vehicle = some v)
    (serving : (s.bay b).ctl.state = .serving) (h : (s.bay b).vacant)
    (listed : (s.bay b).inventory = [n]) (free : n.job = none)
    (channels : (s.bay b).channels = ch :: others) (unused : ch.job = none)
    (hr : r = { n with disposition := s.dispose n }) :
    (∀ p, p ≠ 0 → (s.build b).job b p = none) ∧ s.singlePlaced (s.build b) b n.unit v r ∧
      (r.disposition ≠ .needsImage → r.disposition ≠ .stageReady →
        (s.build b).job b 0 = none ∧ ((s.build b).bay b).inventory = [r]) := by
  have key : r.key = n.key := by rw [hr]; rfl
  have disposition : r.disposition = s.dispose n := by rw [hr]
  unfold State.singlePlaced
  rw [key, disposition]
  by_cases needs : s.dispose n = .needsImage
  · obtain ⟨i, governs⟩ := State.governs_of_disposed needs (by decide) (by decide)
    obtain ⟨start, cursor, gaps, made⟩ := newJob_queued (s.entry i).fields.stream
      (s.identityOf (s.entry i).fields) ⟨n.unit, .pending, some i⟩
      (s.takeResume (s.bay b).ctl.vehicle (s.identityOf (s.entry i).fields)).1
    have opens := State.build_opens serving h listed free channels unused governs needs made
    have sole := State.manned_sole (n := n) h (s.firstJob b n i false)
    refine ⟨fun p hp => ?_, fun i' g ident governs' hg hi => ⟨fun _ => ⟨fun _ _ _ _ progress => ?_, ?_⟩,
      fun e => ?_⟩, fun e => absurd needs e⟩
    · rw [opens, State.job, State.setBay_bay]
      exact (Table.get_modify_ne _ _ (Ne.symm hp)).trans (sole.2 p hp)
    · obtain rfl : i = i' := Option.some.inj (governs.symm.trans governs')
      exact State.build_opensTransfer held serving h listed free channels unused governs needs hg hi
        progress
    · rw [opens, State.setBay_bay, hr]
      rfl
    · cases needs.symm.trans e
  by_cases ready : s.dispose n = .stageReady
  · obtain ⟨i, governs⟩ := State.governs_of_disposed ready (by decide) (by decide)
    obtain ⟨jobs, inventory⟩ := State.build_stages serving h listed free governs ready
    have sole := State.manned_sole (n := n) h (s.firstJob b n i true)
    refine ⟨fun p hp => ?_, fun i' g ident governs' hg hi => ⟨fun e => absurd e needs, fun _ => ?_⟩,
      fun _ e => absurd ready e⟩
    · rw [State.job, jobs]
      exact sole.2 p hp
    · obtain rfl : i = i' := Option.some.inj (governs.symm.trans governs')
      rw [State.job, jobs, inventory, hr, sole.1, hi, hg]
      exact ⟨rfl, rfl⟩
  · obtain ⟨jobs, inventory⟩ := State.build_nothing serving h listed free needs ready
    have none (p : Place) : (s.build b).job b p = none := by
      rw [State.job, jobs]
      exact h p
    exact ⟨fun p _ => none p, fun i g ident _ _ _ => ⟨fun e => absurd e needs,
      fun e => absurd e ready⟩, fun _ _ => ⟨none 0, by rw [inventory, hr]⟩⟩

end Single

/-- The claims of a single unit are about what the two states show. -/
theorem State.singlePlaced_congr {s q t w : State} {b : BayId} {u : UnitAddr} {v : Word}
    {r : UnitRecord} (h : q.singlePlaced w b u v r) (manifest : q.manifest = s.manifest)
    (streams : q.streams = s.streams) (resume : q.resume = s.resume)
    (counter : (q.bay b).openCounter = (s.bay b).openCounter)
    (credits : (q.bay b).creditsPer = (s.bay b).creditsPer)
    (control : (q.bay b).port.control = (s.bay b).port.control)
    (bay : t.bay b = w.bay b) (table : t.resume = w.resume) : s.singlePlaced t b u v r := by
  unfold State.singlePlaced at h ⊢
  simp only [State.governing, State.entry, State.stream, State.job, State.channel, manifest, streams,
    resume, counter, credits, control] at h
  simp only [State.governing, State.entry, State.stream, State.job, State.channel, bay, table]
  exact h

/-- Intake of a single unit, on a bay without jobs whose channel 0 is free (01 R17, R20, R21,
03 R52, R54, R55, 07 R143). -/
theorem exec_intakeSingle {s : State} {b : BayId} {x : InventoryItem} {u : UnitAddr} {v : Word}
    {ch : Channel} {others : List Channel} {r : UnitRecord} (hb : s.hears b)
    (hs : (s.bay b).ctl.state = .intake) (held : (s.bay b).ctl.vehicle = some v)
    (stays : (s.bay b).ctl.vehicleState ≠ some .departing) (h : ∀ p, s.job b p = none)
    (channels : (s.bay b).channels = ch :: others) (unused : ch.job = none)
    (hu : x.unit.toNat = u.val)
    (hr : r = { newRecord (u, x) with disposition := s.dispositionOf (newRecord (u, x)) }) :
    ∃ t, exec (.inventory b [x]) s = .next t ∧ (∀ p, p ≠ 0 → t.job b p = none) ∧
      s.singlePlaced t b u v r ∧
      (r.disposition ≠ .needsImage → r.disposition ≠ .stageReady →
        t.job b 0 = none ∧ (t.bay b).inventory = [r]) := by
  obtain ⟨y, hy⟩ : ∃ y, y = (s.bay b).heard s.config.threshold := ⟨_, rfl⟩
  have ctl : y.ctl = (s.bay b).ctl := by rw [hy]; rfl
  obtain ⟨q, hq⟩ : ∃ q, q = s.stockTaken b y [x] := ⟨_, rfl⟩
  have bay : q.bay b = y.takenStock (admitItems [x]) := by rw [hq, State.stockTaken_bay]
  have manifest : q.manifest = s.manifest := by
    rw [hq, State.stockTaken, State.setBay_manifest, State.post_manifest]
  have streams : q.streams = s.streams := by
    rw [hq, State.stockTaken, State.setBay_streams, State.post_streams]
  have resume : q.resume = s.resume := by
    rw [hq, State.stockTaken, State.setBay_resume, State.post_resume]
  have e : exec (.inventory b [x]) s = .next ((q.build b).postInventoryTaken b false) := by
    rw [exec_completesIntake hb (by simp) hs (by rw [held]; simp), ← hy, State.completeIntake_eq,
      if_neg (by rw [ctl]; exact stays), hq, State.stockListed]
  have vacant : (q.bay b).vacant := by
    intro p
    rw [bay]
    change y.relieved.jobs.get p = none
    rw [Bay.relieved_get, hy]
    exact congrArg _ (h p)
  have listed : (q.bay b).inventory = [newRecord (u, x)] := by
    rw [bay, Bay.takenStock, admitItems_single hu]
    rfl
  have disposed : r = { newRecord (u, x) with disposition := q.dispose (newRecord (u, x)) } := by
    rw [hr, State.dispose_unblocked rfl manifest]
  obtain ⟨empty, placed, other⟩ := State.build_single (by rw [bay]; exact (congrArg Controller.vehicle ctl).trans held)
    (by rw [bay]; rfl) vacant listed rfl (by rw [bay, hy]; exact channels) unused disposed
  have shown : ((q.build b).postInventoryTaken b false).bay b = (q.build b).bay b :=
    State.post_bay ..
  refine ⟨_, e, fun p hp => ?_, State.singlePlaced_congr placed manifest streams resume ?_ ?_ ?_ shown
    (State.post_resume ..), fun c k => ?_⟩
  · rw [State.job, shown]
    exact empty p hp
  · rw [bay, hy]; rfl
  · rw [bay, hy]; rfl
  · rw [bay, hy]; rfl
  · rw [State.job, shown]
    exact other c k

end Sys2Proof.Machine

namespace Sys2Proof.Machine

/-! SUPPORT and PROOFS. The INVENTORY that refreshes a bay's records (01 R14, R15, 05 R104), and the
settlement of the claims about intake. -/

/-! ## The members of vanished records cancelled (01 R14) -/

/-- The place and unit of a record in a job. -/
def UnitRecord.reference (r : UnitRecord) : List (Place × UnitAddr) :=
  match r.job with
  | none => []
  | some p => [(p, r.unit)]

/-- What a bay keeps as members in places are cancelled. -/
structure Bay.struck (l : List (Place × UnitAddr)) (x y : Bay) : Prop where
  ctl : y.ctl = x.ctl
  counts : ∀ k : BayCounter, k ≠ .activationsAbandoned →
    y.counters.get k.index = x.counters.get k.index
  members : ∀ p, (y.jobs.get p).map Job.members =
    ((x.jobs.get p).map Job.members).map (List.map (·.cancelledBy l p))

theorem Bay.struck.nothing (x : Bay) : x.struck [] x :=
  ⟨rfl, fun _ _ => rfl, fun p => by simp [Member.cancelledBy]⟩

theorem Member.cancelledBy_append (l l' : List (Place × UnitAddr)) (p : Place) (m : Member) :
    (m.cancelledBy l p).cancelledBy l' p = m.cancelledBy (l ++ l') p := by
  have hc : UnitState.cancelled.terminal = true := rfl
  unfold Member.cancelledBy
  by_cases ht : m.state.terminal = false
  · by_cases hp : (p, m.unit) ∈ l
    · simp [ht, hp, hc]
    · simp [ht, hp]
  · simp [ht]

theorem Bay.struck.trans {x y z : Bay} {l l' : List (Place × UnitAddr)} (h : x.struck l y)
    (g : y.struck l' z) : x.struck (l ++ l') z := by
  refine ⟨g.ctl.trans h.ctl, fun k hk => (g.counts k hk).trans (h.counts k hk), fun p => ?_⟩
  rw [g.members, h.members, Option.map_map, List.map_comp_map]
  simp only [Function.comp_def, Member.cancelledBy_append]

theorem State.cancelVanished_struck (s : State) (b : BayId) (r : UnitRecord) :
    ∃ y, s.cancelVanished b r = s.setBay b y ∧ (s.bay b).struck r.reference y := by
  unfold State.cancelVanished UnitRecord.reference
  cases r.job with
  | none => exact ⟨_, (s.setBay_self b).symm, .nothing _⟩
  | some p =>
    dsimp only
    split
    · obtain ⟨q, a, n, e, counts⟩ := s.abandonActivation_writes b
      rw [e, State.setMember_cancelled _ b (p, r.unit), State.setBay_bay, State.setBay_setBay]
      exact ⟨_, rfl, rfl, counts, Bay.cancel_members _ (p, r.unit)⟩
    · rw [State.setMember_cancelled _ b (p, r.unit)]
      exact ⟨_, rfl, rfl, fun _ _ => rfl, Bay.cancel_members _ (p, r.unit)⟩

/-- Vanished records leave the work of their bay alone. -/
theorem State.cancelAllVanished_struck (l : List UnitRecord) (s : State) (b : BayId) :
    ∃ y, l.foldl (fun t r => t.cancelVanished b r) s = s.setBay b y ∧
      (s.bay b).struck (l.flatMap UnitRecord.reference) y := by
  induction l generalizing s with
  | nil => exact ⟨_, (s.setBay_self b).symm, .nothing _⟩
  | cons r l ih =>
    obtain ⟨y, e, struck⟩ := s.cancelVanished_struck b r
    obtain ⟨z, e', struck'⟩ := ih (s.setBay b y)
    rw [State.setBay_bay] at struck'
    exact ⟨z, by rw [List.foldl_cons, e, e', State.setBay_setBay],
      List.flatMap_cons ▸ struck.trans struck'⟩

/-! ## The activation of a vanished unit (05 R104) -/

/-- An activation of a unit is under way: its ACTIVATE or its REVERT has been sent. -/
def Activation.sentFor (a : Activation) (t : ActTarget) : Prop :=
  (∃ previous timer, a = .activating t previous timer) ∨
    (∃ previous timer, a = .reverting t previous timer)

theorem Activation.lose_underWay (a : Activation) (p : Place) (u : UnitAddr) :
    (a.lose p u).underWay = a.underWay := by
  cases a <;> rfl

/-- Without an activation under way none concerns a unit. -/
theorem Activation.concerns_away {a : Activation} (h : a.underWay = false) (u : UnitAddr) :
    a.concerns u = false := by
  cases a with
  | idle => rfl
  | selected => rfl
  | activating => cases h
  | reverting => cases h

theorem Activation.sentFor.concerns {a : Activation} {t : ActTarget} (h : a.sentFor t)
    (u : UnitAddr) : a.concerns u = decide (t.unit = u) := by
  rcases h with ⟨_, _, rfl⟩ | ⟨_, _, rfl⟩ <;> rfl

theorem Activation.sentFor.lose {a : Activation} {t : ActTarget} (h : a.sentFor t) (p : Place)
    (u : UnitAddr) : a.lose p u = a := by
  rcases h with ⟨_, _, rfl⟩ | ⟨_, _, rfl⟩ <;> rfl

section Activations
variable {s : State} {b : BayId} {r : UnitRecord} {t : ActTarget}

theorem State.abandonActivation_sentFor (h : (s.bay b).activation.sentFor t) :
    ((s.abandonActivation b).bay b).activation = .idle ∧
      (s.abandonActivation b).bayCounter b .activationsAbandoned =
        satInc (s.bayCounter b .activationsAbandoned) := by
  unfold State.abandonActivation
  rcases h with ⟨_, _, h⟩ | ⟨_, _, h⟩ <;> rw [h] <;> dsimp only
  all_goals
    simp only [State.removeControl, State.modPort_eq, State.setActivation_eq, State.bump_eq,
      State.modBay_eq, State.setBay_bay, State.setBay_setBay, State.bayCounter,
      Table.get_modify_self]
    exact ⟨trivial, trivial⟩

theorem State.cancelVanished_calm (h : (s.bay b).activation.underWay = false) :
    ((s.cancelVanished b r).bay b).activation.underWay = false ∧
      (s.cancelVanished b r).bayCounter b .activationsAbandoned =
        s.bayCounter b .activationsAbandoned := by
  unfold State.cancelVanished
  cases r.job with
  | none => exact ⟨h, rfl⟩
  | some p =>
    dsimp only
    rw [Activation.concerns_away h, if_neg Bool.false_ne_true, State.setMember_cancelled _ b (p, r.unit), State.bayCounter,
      State.setBay_bay]
    exact ⟨(Activation.lose_underWay ..).trans h, rfl⟩

theorem State.cancelVanished_sentFor (h : (s.bay b).activation.sentFor t) :
    (¬ (r.unit = t.unit ∧ r.job ≠ none) →
      ((s.cancelVanished b r).bay b).activation.sentFor t ∧
        (s.cancelVanished b r).bayCounter b .activationsAbandoned =
          s.bayCounter b .activationsAbandoned) ∧
    (r.unit = t.unit → r.job ≠ none →
      ((s.cancelVanished b r).bay b).activation.underWay = false ∧
        (s.cancelVanished b r).bayCounter b .activationsAbandoned =
          satInc (s.bayCounter b .activationsAbandoned)) := by
  unfold State.cancelVanished
  cases r.job with
  | none => exact ⟨fun _ => ⟨h, rfl⟩, fun _ e => absurd rfl e⟩
  | some p =>
    dsimp only
    rw [h.concerns, State.setMember_cancelled _ b (p, r.unit), State.bayCounter, State.setBay_bay]
    refine ⟨fun e => ?_, fun e _ => ?_⟩
    · have other : t.unit ≠ r.unit := fun same => e ⟨same.symm, by simp⟩
      rw [if_neg (by simpa using other)]
      refine ⟨?_, rfl⟩
      change ((s.bay b).activation.lose p r.unit).sentFor t
      rw [h.lose]
      exact h
    · rw [if_pos (by simpa using e.symm)]
      obtain ⟨idle, count⟩ := State.abandonActivation_sentFor h
      exact ⟨(Activation.lose_underWay ..).trans (by rw [idle]; rfl), count⟩

/-- An activation under way is abandoned once when its unit's record is among the vanished ones. -/
theorem State.cancelAllVanished_abandons {l : List UnitRecord} (s : State)
    (h : (s.bay b).activation.sentFor t) (mem : r ∈ l) (unit : r.unit = t.unit)
    (job : r.job ≠ none) :
    (l.foldl (fun u r => u.cancelVanished b r) s).bayCounter b .activationsAbandoned =
      satInc (s.bayCounter b .activationsAbandoned) := by
  induction l generalizing s with
  | nil => cases mem
  | cons n l ih =>
    rw [List.foldl_cons]
    obtain ⟨other, here⟩ := State.cancelVanished_sentFor (r := n) h
    by_cases e : n.unit = t.unit ∧ n.job ≠ none
    · obtain ⟨calm, count⟩ := here e.1 e.2
      have rest := foldl_inv (fun u : State => (u.bay b).activation.underWay = false ∧
          u.bayCounter b .activationsAbandoned =
            satInc (s.bayCounter b .activationsAbandoned)) (fun u r => u.cancelVanished b r)
        (fun u m ⟨calm, count⟩ => by
          obtain ⟨calm', count'⟩ := State.cancelVanished_calm (r := m) calm
          exact ⟨calm', count'.trans count⟩) l _ ⟨calm, count⟩
      exact rest.2
    · obtain ⟨still, count⟩ := other e
      have later : r ∈ l := by
        rcases List.mem_cons.mp mem with rfl | later
        · exact absurd ⟨unit, job⟩ e
        · exact later
      rw [ih _ still later, count]

end Activations

/-! ## A unit out of the work (01 R14) -/

/-- Every member of a unit in a bay's jobs has ended. -/
def Bay.clearOf (x : Bay) (u : UnitAddr) : Prop :=
  ∀ p j, x.jobs.get p = some j → ∀ m ∈ j.members, m.unit = u → m.state.terminal = true

/-- A bay's inventory shows no such unit. -/
def Bay.lacks (x : Bay) (u : UnitAddr) : Prop := ∀ r ∈ x.inventory, r.unit ≠ u

theorem Bay.lacks_of_ledger {x y : Bay} {u : UnitAddr} (h : y.ledger = x.ledger)
    (hx : x.lacks u) : y.lacks u := by
  intro r hr
  have faces : y.inventory.map UnitRecord.face = x.inventory.map UnitRecord.face :=
    congrArg Ledger.faces h
  have mem : r.face ∈ x.inventory.map UnitRecord.face := faces ▸ List.mem_map_of_mem hr
  obtain ⟨n, hn, same⟩ := List.mem_map.mp mem
  have unit : n.unit = r.unit := congrArg Prod.fst same
  exact unit ▸ hx n hn

theorem Bay.clearOf_of_roster {x y : Bay} {u : UnitAddr} (h : y.roster = x.roster)
    (hx : x.clearOf u) : y.clearOf u := by
  intro p j hj m hm unit
  have e : (y.roster.2.2).get p = (x.roster.2.2).get p := by rw [h]
  simp only [Bay.roster, Table.get_map, hj, Option.map_some] at e
  obtain ⟨k, hk, same⟩ := Option.map_eq_some_iff.mp e.symm
  have mem : (m.unit, m.state) ∈ k.members.map fun m => (m.unit, m.state) :=
    same ▸ List.mem_map_of_mem hm
  obtain ⟨n, hn, e⟩ := List.mem_map.mp mem
  obtain ⟨unit', state⟩ := Prod.mk.inj e
  exact state ▸ hx p k hk n hn (unit'.trans unit)

theorem State.clearOf_of_outline {s t : State} {b : BayId} {u : UnitAddr}
    (h : t.outline = s.outline) (hs : (s.bay b).clearOf u) : (t.bay b).clearOf u :=
  Bay.clearOf_of_roster
    (Bay.roster_of_lists (State.lists_eq_iff.mp (State.lists_of_outline h) b)) hs

theorem Bay.created_clearOf {x : Bay} {u v : UnitAddr} {p : Place} {j : Job} {m : Member}
    (h : x.clearOf u) (members : j.members = [m]) (other : m.unit ≠ u) :
    (x.created p v j).clearOf u := by
  intro q k hk n hn unit
  by_cases e : p = q
  · subst e
    obtain rfl : j = k := Option.some.inj ((Table.get_set_self ..).symm.trans hk)
    rw [members] at hn
    rw [List.mem_singleton.mp hn] at unit
    exact absurd unit other
  · exact h q k ((Table.get_set_ne _ _ e).symm.trans hk) n hn unit

theorem Bay.joined_clearOf {x : Bay} {u : UnitAddr} {p : Place} {m : Member} (h : x.clearOf u)
    (other : m.unit ≠ u) : (x.joined p m).clearOf u := by
  intro q k hk n hn unit
  by_cases e : p = q
  · subst e
    obtain ⟨j, hj, rfl⟩ := Option.map_eq_some_iff.mp ((Table.get_modify_self ..).symm.trans hk)
    rcases List.mem_append.mp hn with old | new
    · exact h p j hj n old unit
    · rw [List.mem_singleton.mp new] at unit
      exact absurd unit other
  · exact h q k ((Table.get_modify_ne _ _ e).symm.trans hk) n hn unit

section Clear
variable {s : State} {b : BayId} {u : UnitAddr}

theorem State.placeUnit_clearOf {r : UnitRecord} (staged : Bool) (h : (s.bay b).clearOf u)
    (other : r.unit ≠ u) : ((s.placeUnit b r staged).bay b).clearOf u := by
  rcases s.placeUnit_bay b r staged with e | ⟨p, j, m, members, unit, e⟩ | ⟨p, m, unit, e⟩ <;> rw [e]
  · exact h
  · exact Bay.created_clearOf h members (unit ▸ other)
  · exact Bay.joined_clearOf h (unit ▸ other)

/-- The passes place no unit that the inventory does not show. -/
theorem State.placeAll_clearOf (d : Disposition) (staged : Bool) (h : (s.bay b).clearOf u)
    (lacks : (s.bay b).lacks u) : ((s.placeAll b d staged).bay b).clearOf u :=
  List.foldlRecOn (motive := fun t : State => (t.bay b).clearOf u) _ _ h fun _ ht r hr =>
    State.placeUnit_clearOf staged ht (lacks r (List.mem_filter.mp hr).1)

/-- A builder run gives a unit that a bay does not show no work there. -/
theorem State.build_clearOf (c : BayId) (h : (s.bay b).clearOf u) (lacks : (s.bay b).lacks u) :
    ((s.build c).bay b).clearOf u := by
  by_cases e : b = c
  · subst e
    have disposed : ((s.disposeAll b).bay b).clearOf u := by
      rw [State.disposeAll, State.modInventory_eq, State.modBay_eq, State.setBay_bay]
      exact h
    have lacks' := Bay.lacks_of_ledger (s.disposeAll_ledger b) lacks
    have pass := State.placeAll_clearOf .needsImage false disposed lacks'
    have passes : ((s.passes b).bay b).clearOf u := by
      rw [State.passes]
      exact State.placeAll_clearOf .stageReady true pass
        (Bay.lacks_of_ledger (State.placeAll_ledger ..) lacks')
    have after : (((s.passes b).assign b).look b).outline = (s.passes b).outline := by
      rw [State.look_outline, State.assign_outline]
    unfold State.build
    split
    · exact State.clearOf_of_outline after passes
    · exact h
  · rw [s.build_bay_ne e]
    exact h

theorem State.applyReplacements_clearOf (h : (s.bay b).clearOf u) (lacks : (s.bay b).lacks u) :
    (s.applyReplacements.bay b).clearOf u := by
  obtain ⟨m, -, e | e⟩ := s.applyReplacements_cases <;> rw [e]
  · exact h
  · have all := State.forBays_inv (fun t => (t.bay b).clearOf u ∧ (t.bay b).lacks u)
      (fun c t => t.build c) { s with manifest := m }
      (fun c t ⟨clear, lacks⟩ =>
        ⟨State.build_clearOf c clear lacks, Bay.lacks_of_ledger (t.build_ledger b c) lacks⟩)
      ⟨h, lacks⟩
    rw [State.buildAll]
    exact all.1

theorem State.afterEnd_clearOf (h : (s.bay b).clearOf u) (lacks : (s.bay b).lacks u) :
    ((s.afterEnd b).bay b).clearOf u := by
  have lacks' := Bay.lacks_of_ledger (s.assign_ledger b) lacks
  exact State.build_clearOf b
    (State.applyReplacements_clearOf (State.clearOf_of_outline (s.assign_outline b) h) lacks')
    (Bay.lacks_of_ledger (State.applyReplacements_ledger ..) lacks')

end Clear

/-! ## The refresh (01 R14, R15) -/

/-- A bay whose records have been replaced by those that a frame shows. -/
def Bay.relisted (x : Bay) (a : Admission) (old : List UnitRecord) : Bay :=
  { x with
    inventory := a.unitList.map (refreshed old), truncated := a.truncated,
    counters := x.counters.modify BayCounter.inventoryEntriesDiscarded.index
      (Nat.repeat satInc a.ignored) }

/-- What follows in a refresh once the records have been replaced. -/
def State.resettled (s : State) (b : BayId) : State :=
  (((s.closeOutAll b).clearDeferred b).afterEnd b).postInventoryTaken b true

/-- The records that a refresh strikes off. -/
def vanished (items : List InventoryItem) (old : List UnitRecord) : List UnitRecord :=
  old.filter (vanishes (admitItems items).unitList)

theorem State.refresh_eq (s : State) (b : BayId) (items : List InventoryItem) :
    ∃ y, (s.bay b).struck ((vanished items (s.bay b).inventory).flatMap UnitRecord.reference) y ∧
      (vanished items (s.bay b).inventory).foldl (fun t r => t.cancelVanished b r) s =
        s.setBay b y ∧
      s.refresh b items =
        (s.setBay b (y.relisted (admitItems items) (s.bay b).inventory)).resettled b := by
  obtain ⟨y, e, struck⟩ :=
    s.cancelAllVanished_struck (vanished items (s.bay b).inventory) b
  refine ⟨y, struck, e, ?_⟩
  unfold State.refresh
  dsimp only
  rw [← vanished, e, State.modBay_eq, State.setBay_bay, State.setBay_setBay, State.bumpBy_eq,
    State.setBay_bay, State.setBay_setBay]
  rfl

theorem State.resettled_ledger (s : State) (b : BayId) :
    ((s.resettled b).bay b).ledger = (s.bay b).ledger := by
  rw [State.resettled, State.postInventoryTaken, State.post_bay, State.afterEnd_ledger,
    State.clearDeferred_ledger, State.closeOutAll_ledger]

theorem State.resettled_clearOf {s : State} {b : BayId} {u : UnitAddr} (h : (s.bay b).clearOf u)
    (lacks : (s.bay b).lacks u) : ((s.resettled b).bay b).clearOf u := by
  rw [State.resettled, State.postInventoryTaken, State.post_bay]
  have closed := Bay.clearOf_of_roster ((s.windsDown_closeOutAll b).roster b) h
  refine State.afterEnd_clearOf (State.clearOf_of_outline (State.clearDeferred_outline ..) closed)
    (Bay.lacks_of_ledger ?_ lacks)
  rw [State.clearDeferred_ledger, State.closeOutAll_ledger]

theorem State.teardownFrame_of_jobFrame {s t : State} (h : t.jobFrame = s.jobFrame) :
    t.teardownFrame = s.teardownFrame := by
  have keep {α : Type} (g : State → α) : g t.jobFrame = g s.jobFrame := congrArg g h
  exact keep State.teardownFrame

theorem State.resettled_teardownFrame (s : State) (b : BayId) :
    (s.resettled b).teardownFrame = s.teardownFrame := by
  have ended (t : State) : (t.afterEnd b).teardownFrame = t.teardownFrame := by
    rw [State.afterEnd, State.teardownFrame_of_builderFrame (State.build_builderFrame ..),
      State.applyReplacements_teardownFrame,
      State.teardownFrame_of_jobFrame (State.jobFrame_of_outline (State.assign_outline ..))]
  rw [State.resettled, State.postInventoryTaken,
    State.teardownFrame_of_blockFrame (State.post_blockFrame ..), ended,
    State.teardownFrame_of_jobFrame (State.jobFrame_of_outline (State.clearDeferred_outline ..)),
    State.teardownFrame_of_jobFrame (s.windsDown_closeOutAll b).frame]

/-! ## What a refresh leaves -/

/-- Whether the record of an entry's address is blocked after a refresh (01 R14, R15). -/
def staysBlocked (known : Option UnitRecord) (x : InventoryItem) : Bool :=
  match known with
  | some r => decide (r.cls = x.cls ∧ r.revision = x.revision) && r.blocked
  | none => false

theorem refreshed_face (old : List UnitRecord) (ux : UnitAddr × InventoryItem) :
    (refreshed old ux).face = (ux.1, ux.2.cls, ux.2.revision, ux.2.running, itemStandby ux.2,
      staysBlocked (old.find? (·.unit = ux.1)) ux.2) := by
  unfold refreshed
  cases found : old.find? (·.unit = ux.1) with
  | none => rfl
  | some r =>
    have unit : r.unit = ux.1 := by simpa using List.find?_some found
    dsimp only [staysBlocked]
    by_cases same : r.cls = ux.2.cls ∧ r.revision = ux.2.revision
    · have key : sameKey ux.2 r = true := by simp [sameKey, same]
      rw [if_pos key, UnitRecord.face, decide_eq_true same, Bool.true_and]
      obtain ⟨cls, revision⟩ := same
      change (r.unit, r.cls, r.revision, _, _, r.blocked) = _
      rw [unit, cls, revision]
    · have key : sameKey ux.2 r = false :=
        decide_eq_false fun ⟨cls, revision⟩ => same ⟨cls.symm, revision.symm⟩
      rw [key, decide_eq_false same]
      rfl

/-- A record whose unit the frame does not show with its key is struck off. -/
theorem mem_vanished {items : List InventoryItem} {old : List UnitRecord} {r : UnitRecord}
    (hr : r ∈ old) (h : ∀ ux ∈ (admitItems items).unitList, ux.1 = r.unit →
      ux.2.cls ≠ r.cls ∨ ux.2.revision ≠ r.revision) : r ∈ vanished items old := by
  refine List.mem_filter.mpr ⟨hr, ?_⟩
  unfold vanishes
  split
  · rfl
  · next ux found =>
    have unit : ux.1 = r.unit := by simpa using List.find?_some found
    have other := h ux (List.mem_of_find?_eq_some found) unit
    simp only [sameKey, Bool.not_eq_true', decide_eq_false_iff_not, not_and_or]
    exact other

/-- A unit whose working members the struck records refer to is out of the work. -/
theorem Bay.struck.clearOf {x y : Bay} {l : List (Place × UnitAddr)} {u : UnitAddr}
    (h : x.struck l y) (listed : ∀ p j, x.jobs.get p = some j → ∀ m ∈ j.members, m.unit = u →
      m.state.terminal = false → (p, u) ∈ l) : y.clearOf u := by
  intro p j hj m hm unit
  have e := h.members p
  rw [hj] at e
  obtain ⟨ms, hms, same⟩ := Option.map_eq_some_iff.mp e.symm
  obtain ⟨k, hk, rfl⟩ := Option.map_eq_some_iff.mp hms
  rw [← same] at hm
  obtain ⟨n, hn, rfl⟩ := List.mem_map.mp hm
  unfold Member.cancelledBy at unit ⊢
  split at unit
  · next hit => rw [if_pos hit]; rfl
  · next miss =>
    rw [if_neg miss]
    by_contra working
    have working : n.state.terminal = false := by simpa using working
    exact miss ⟨working, unit ▸ listed p k hk n hn unit working⟩

section Refresh
variable {s : State} {b : BayId} {items : List InventoryItem}

theorem exec_refreshes (hb : s.hears b) (hi : items.length ≤ 64)
    (hs : (s.bay b).ctl.state = .serving) :
    exec (.inventory b items) s = .next ((s.setBay b
      ((s.bay b).heard s.config.threshold)).refresh b items) := by
  refine congrArg _ ((State.receiveIf_hears _ (by simpa [inventoryFits] using hi) hb).trans ?_)
  unfold State.takeInventory
  dsimp only
  rw [State.setBay_bay, Bay.heard_ctl, hs]

/-- The INVENTORY in SERVING (01 R14, R15, 05 R104). -/
theorem exec_inventoryRefreshes (hb : s.hears b) (hi : items.length ≤ 64)
    (hs : (s.bay b).ctl.state = .serving) :
    ∃ t, exec (.inventory b items) s = .next t ∧
      (t.bay b).ctl = (s.bay b).ctl ∧
      (t.bay b).truncated = (admitItems items).truncated ∧
      (t.bay b).inventory.map UnitRecord.face =
        (admitItems items).unitList.map (fun ux => (ux.1, ux.2.cls, ux.2.revision, ux.2.running,
          itemStandby ux.2, staysBlocked ((s.bay b).unit? ux.1) ux.2)) ∧
      t.bayCounter b .inventoryEntriesDiscarded =
        Nat.repeat satInc (admitItems items).ignored (s.bayCounter b .inventoryEntriesDiscarded) ∧
      (∀ u, (∀ ux ∈ (admitItems items).unitList, ux.1 ≠ u) →
        (∀ p j, s.job b p = some j → ∀ m ∈ j.members, m.unit = u → m.state.terminal = false →
          ∃ r ∈ (s.bay b).inventory, r.unit = u ∧ r.job = some p) →
        (t.bay b).clearOf u) ∧
      (∀ (a : ActTarget) (r : UnitRecord), (s.bay b).activation.sentFor a →
        r ∈ (s.bay b).inventory → r.unit = a.unit → r.job ≠ none →
        (∀ ux ∈ (admitItems items).unitList, ux.1 = a.unit →
          ux.2.cls ≠ r.cls ∨ ux.2.revision ≠ r.revision) →
        t.bayCounter b .activationsAbandoned = satInc (s.bayCounter b .activationsAbandoned)) ∧
      t.config = s.config ∧ t.departures = s.departures ∧ t.uplink = s.uplink ∧
      t.mgmt = s.mgmt := by
  obtain ⟨x, hx⟩ : ∃ x, x = (s.bay b).heard s.config.threshold := ⟨_, rfl⟩
  have ctl : x.ctl = (s.bay b).ctl := by rw [hx]; rfl
  have inventory : x.inventory = (s.bay b).inventory := by rw [hx]; rfl
  have counts (k : BayCounter) (hk : k ≠ .validFrames) :
      x.counters.get k.index = s.bayCounter b k := by
    rw [hx]
    exact counters_modify_ne hk
  obtain ⟨y, struck, fold, e⟩ := (s.setBay b x).refresh_eq b items
  rw [State.setBay_bay] at struck fold e
  rw [State.setBay_setBay] at fold e
  rw [inventory] at struck fold e
  obtain ⟨z, hz⟩ : ∃ z, z = y.relisted (admitItems items) (s.bay b).inventory := ⟨_, rfl⟩
  rw [← hz] at e
  have ledger : (((s.setBay b z).resettled b).bay b).ledger = z.ledger := by
    rw [State.resettled_ledger, State.setBay_bay]
  obtain ⟨config, departures, uplink, mgmt, -⟩ := State.fields_of_teardownFrame
    ((s.setBay b z).resettled_teardownFrame b)
  refine ⟨(s.setBay b z).resettled b, ?_, (congrArg Ledger.ctl ledger).trans ?_,
    (congrArg Ledger.truncated ledger).trans ?_, (congrArg Ledger.faces ledger).trans ?_,
    (congrArg Ledger.ignored ledger).trans ?_, fun u absent refer => State.resettled_clearOf ?_ ?_,
    fun a r sent hr unit job differs => (congrArg Ledger.abandoned ledger).trans ?_,
    config, departures, uplink, mgmt⟩
  · rw [exec_refreshes hb hi hs, ← hx, e]
  · rw [hz]
    exact struck.ctl.trans ctl
  · rw [hz]; rfl
  · rw [hz]
    exact List.map_map.trans (List.map_congr_left fun ux _ => refreshed_face _ ux)
  · rw [hz]
    refine (Table.get_modify_self ..).trans (congrArg _ ?_)
    exact (struck.counts _ (by decide)).trans (counts _ (by decide))
  · rw [State.setBay_bay, hz]
    refine struck.clearOf fun p j hj m hm same working => ?_
    rw [hx] at hj
    obtain ⟨r, hr, unit, job⟩ := refer p j hj m hm same working
    refine List.mem_flatMap.mpr ⟨r, mem_vanished hr fun ux hux e => ?_, ?_⟩
    · exact absurd (e.trans unit) (absent ux hux)
    · rw [UnitRecord.reference, job, unit]
      exact List.mem_singleton_self _
  · rw [State.setBay_bay, hz]
    intro r hr unit
    obtain ⟨ux, hux, rfl⟩ := List.mem_map.mp hr
    exact absent ux hux ((congrArg Prod.fst (refreshed_face _ ux)).symm.trans unit)
  · have sent' : ((s.setBay b x).bay b).activation.sentFor a := by
      rw [State.setBay_bay, hx]
      exact sent
    have once := (s.setBay b x).cancelAllVanished_abandons sent'
      (mem_vanished hr (unit ▸ differs)) unit job
    rw [fold, State.bayCounter, State.bayCounter, State.setBay_bay, State.setBay_bay,
      counts _ (by decide)] at once
    rw [hz]
    have apart : BayCounter.inventoryEntriesDiscarded ≠ .activationsAbandoned := by decide
    exact (Table.get_modify_ne _ _ (BayCounter.index_ne apart)).trans once

end Refresh

/-! ## The settlement -/

/-- Settles O45: what the builder and the ends of jobs keep of a bay is its ledger; the job of a
single unit is read off the builder run; and a unit struck off is in no work that a later builder run
could give back, since the inventory no longer shows it. -/
theorem intakeCompletes : Obligations.IntakeCompletes := by
  refine ⟨fun s b items hb hi hs held => ⟨fun stays r hr => exec_intakeServes hb hi hs held stays hr,
    fun departs => exec_intakeDeparts hb hi hs held departs⟩,
    fun s b x u v ch others r hb hs held stays h channels unused hu hr =>
      exec_intakeSingle hb hs held stays h channels unused hu hr,
    fun s b items hb hi hs => exec_inventoryRefreshes hb hi hs⟩

end Sys2Proof.Machine

namespace Sys2Proof.Machine

/-! SUPPORT. WRITE CONFIG's store (08 R151): what a stored value changes, and what the work that it
causes leaves. -/

/-! ## What the work behind a stored value leaves -/

/-- What the work that a changed value causes leaves: all that the work on blocks leaves, and every
bay's maximum rate. -/
def State.fixtures (s : State) : State × (BayId → RateCode) :=
  (s.blockFrame, fun b => (s.bay b).maxRate)

theorem State.fixtures_eq {s t : State} (frame : t.blockFrame = s.blockFrame)
    (rates : ∀ b, (t.bay b).maxRate = (s.bay b).maxRate) : t.fixtures = s.fixtures :=
  Prod.ext frame (funext rates)

/-- Where they stay, every stored value does, and so do the tables that no stored value changes. -/
theorem State.fields_of_fixtures {s t : State} (h : t.fixtures = s.fixtures) :
    t.setting = s.setting ∧ t.config = s.config ∧ t.manifest = s.manifest ∧
      t.departures = s.departures ∧ t.clock = s.clock ∧ t.resume = s.resume ∧ t.mgmt = s.mgmt ∧
      t.uplink = s.uplink := by
  obtain ⟨⟨config, manifest, departures, -⟩, uplink, mgmt, resume, clock⟩ :=
    State.fields_of_blockFrame (congrArg Prod.fst h)
  have rates (b : BayId) : (t.bay b).maxRate = (s.bay b).maxRate :=
    congrFun (congrArg Prod.snd h) b
  refine ⟨funext fun p => ?_, config, manifest, departures, clock, resume, mgmt, uplink⟩
  cases p with
  | maxRate b => exact congrArg Fin.val (rates b)
  | _ => simp only [State.setting, config]

theorem State.setBay_fixtures {s : State} {b : BayId} {x : Bay}
    (h : x.maxRate = (s.bay b).maxRate) : (s.setBay b x).fixtures = s.fixtures := by
  refine State.fixtures_eq rfl fun a => ?_
  by_cases e : b = a
  · subst e; rw [State.setBay_bay, h]
  · rw [State.setBay_bay_ne _ _ e]

theorem State.modBay_fixtures (s : State) (b : BayId) (f : Bay → Bay)
    (h : ∀ x, (f x).maxRate = x.maxRate) : (s.modBay b f).fixtures = s.fixtures :=
  State.setBay_fixtures (h _)

theorem State.makeNeeded_fixtures (s : State) (b : BayId) (p : Place) (d : Nat) :
    (s.makeNeeded b p d).fixtures = s.fixtures := by
  obtain ⟨jobs, n, e, -⟩ := s.makeNeeded_eq b p d
  rw [e]
  exact State.setBay_fixtures rfl

theorem State.judgeMoved_fixtures (s before : State) (l : List BayId) (st : StreamId) :
    (s.judgeMoved before l st).fixtures = s.fixtures :=
  State.fixtures_eq (State.judgeMoved_blockFrame ..) fun b => by rw [State.judgeMoved_bay]

theorem State.arbitrate_fixtures (s : State) : s.arbitrate.fixtures = s.fixtures :=
  State.fixtures_eq s.arbitrate_blockFrame fun b => by rw [State.arbitrate_bay]

theorem State.detachBay_fixtures (s : State) (sl : SlotId) (b : BayId) :
    (s.detachBay sl b).fixtures = s.fixtures :=
  foldl_keeps State.fixtures _
    (fun t _ => (State.makeNeeded_fixtures ..).trans
      (t.modBay_fixtures b _ (by exact fun _ => rfl))) _ s

theorem State.detachSlot_fixtures (s : State) (sl : SlotId) (counted : Bool) :
    (s.detachSlot sl counted).fixtures = s.fixtures := by
  have bumped (t : State) (b : BayId) :
      (t.bumpIf counted b .blocksDetached).fixtures = t.fixtures := by
    cases counted
    · rfl
    · change (t.bump b .blocksDetached).fixtures = t.fixtures
      exact t.modBay_fixtures b _ (by exact fun _ => rfl)
  unfold State.detachSlot
  split
  · rfl
  · refine (State.arbitrate_fixtures _).trans ((State.judgeMoved_fixtures ..).trans ?_)
    exact foldl_keeps State.fixtures _
      (fun t b => (State.detachBay_fixtures ..).trans (bumped t b)) _ s

theorem State.expireSlots_fixtures (s : State) : s.expireSlots.fixtures = s.fixtures := by
  refine foldl_keeps State.fixtures _ (fun t sl => ?_) _ s
  split
  · rfl
  · split
    · exact t.detachSlot_fixtures sl true
    · rfl

theorem State.probeTimedOut_fixtures (s : State) (b : BayId) (c : ChannelId) (n : Nat) :
    (s.probeTimedOut b c n).fixtures = s.fixtures := by
  obtain ⟨d, k, e, -⟩ := s.probeTimedOut_writes b c n
  rw [e]
  exact State.setBay_fixtures rfl

theorem State.flightTimedOut_fixtures (s : State) (b : BayId) (c : ChannelId) :
    (s.flightTimedOut b c).fixtures = s.fixtures := by
  unfold State.flightTimedOut
  split
  · rfl
  · split
    · rfl
    · next rest _ =>
      refine (State.judgeMoved_fixtures ..).trans ?_
      refine (State.modBay_fixtures _ b _ (by exact fun _ => rfl)).trans ?_
      refine (State.makeNeeded_fixtures ..).trans ?_
      refine (State.probeTimedOut_fixtures ..).trans ?_
      exact s.modBay_fixtures b _ (by exact fun _ => rfl)

theorem State.receiptTimeouts_fixtures (s : State) : s.receiptTimeouts.fixtures = s.fixtures := by
  have due : ∀ (n : Nat) (t : State) (b : BayId) (c : ChannelId),
      (State.flightsDue n t b c).fixtures = t.fixtures := by
    intro n
    induction n with
    | zero => exact fun _ _ _ => rfl
    | succ n ih =>
      intro t b c
      unfold State.flightsDue
      split
      · exact (ih ..).trans (t.flightTimedOut_fixtures b c)
      · rfl
  exact State.forBays_keeps State.fixtures _ s fun b t =>
    foldl_keeps State.fixtures _ (fun u c => due 16 u b c) _ t

theorem State.lookAll_fixtures (s : State) : s.lookAll.fixtures = s.fixtures := by
  refine State.forBays_keeps State.fixtures _ s fun b t => ?_
  have rate := congrArg Bay.maxRate (t.look_unlooked b b)
  rw [(t.look_worksIn b).only]
  exact State.setBay_fixtures rate

/-! ## A value put in its place, and a value stored -/

/-- A value in a parameter's place, without the work that its change causes (08 R151). -/
def State.put (s : State) (p : Parameter) (v : Nat) : State :=
  match p with
  | .protocolType => s.modConfig fun c => { c with protocolType := BitVec.ofNat 16 v }
  | .holdLimit => s.modConfig fun c => { c with holdLimit := v }
  | .streamWindow => s.modConfig fun c => { c with streamWindow := v }
  | .openTimeout => s.modConfig fun c => { c with openTimeout := v }
  | .receiptTimeout => s.modConfig fun c => { c with receiptTimeout := v }
  | .closeTimeout => s.modConfig fun c => { c with closeTimeout := v }
  | .guardTime => s.modConfig fun c => { c with guardTime := v }
  | .th1 => s.modConfig fun c => { c with th1 := v, th2 := min c.th2 v }
  | .th2 => s.modConfig fun c => { c with th2 := v }
  | .ageQuantum => s.modConfig fun c => { c with ageQuantum := v }
  | .activationTimeout => s.modConfig fun c => { c with activationTimeout := v }
  | .windowStart => s.modConfig fun c => { c with windowStart := v }
  | .windowEnd => s.modConfig fun c => { c with windowEnd := v }
  | .maxRate b => s.modBay b fun x => { x with maxRate := (idx 4 v).getD 3 }
  | .threshold => s.modConfig fun c => { c with threshold := v }
  | .errorMode => s.modConfig fun c => { c with errorMode := errorModeOf v }
  | .holdingTime => s.modConfig fun c => { c with holdingTime := v }
  | .resumeHold => s.modConfig fun c => { c with resumeHold := v }

/-- A value stored is a value put, but for the slots and flights then due, the grants of a risen
window and the looks of a changed activation window. -/
theorem State.store_fixtures (s : State) (p : Parameter) (v : Nat) :
    (s.store p v).fixtures = (s.put p v).fixtures := by
  cases p
  case holdLimit => exact State.expireSlots_fixtures _
  case streamWindow =>
    change (if _ then (State.zeroAges _).arbitrate else State.zeroAges _ : State).fixtures = _
    split
    · exact State.arbitrate_fixtures _
    · rfl
  case receiptTimeout => exact State.receiptTimeouts_fixtures _
  case windowStart => exact State.lookAll_fixtures _
  case windowEnd => exact State.lookAll_fixtures _
  all_goals rfl

section Settings
variable {s : State} {p r : Parameter} {v : Nat}

/-- The value put is the one read, where it lies in the parameter's range. -/
theorem State.put_setting (h : v ≤ (s.settingRange p).2) : (s.put p v).setting p = v := by
  cases p
  case protocolType => exact BitVec.toNat_ofNat .. |>.trans (Nat.mod_eq_of_lt (Nat.lt_succ_of_le h))
  case maxRate b =>
    have small : v < 4 := Nat.lt_succ_of_le h
    simp [State.put, State.setting, idx, small]
  case errorMode =>
    have flag : v = 0 ∨ v = 1 := Nat.le_one_iff_eq_zero_or_eq_one.mp h
    rcases flag with rfl | rfl <;> rfl
  all_goals rfl

/-- No other value changes, but that a new th1 bounds th2 (04 R85). -/
theorem State.put_setting_ne (h : r ≠ p) (th : p = .th1 → r ≠ .th2) :
    (s.put p v).setting r = s.setting r := by
  cases p
  case maxRate b =>
    cases r
    case maxRate a =>
      have ne : b ≠ a := fun e => h (e ▸ rfl)
      exact congrArg (fun x : Bay => x.maxRate.val) (s.setBay_bay_ne _ ne)
    all_goals rfl
  all_goals cases r <;> simp_all [State.put, State.setting, State.modConfig, State.bay]

theorem State.put_th2 : (s.put .th1 v).setting .th2 = min (s.setting .th2) v := rfl

end Settings

/-- What storing a value leaves besides: the tables, the clock, the resume records, the management
unit and the uplink port. -/
theorem State.store_frame (s : State) (p : Parameter) (v : Nat) :
    (s.store p v).manifest = s.manifest ∧ (s.store p v).departures = s.departures ∧
      (s.store p v).clock = s.clock ∧ (s.store p v).resume = s.resume ∧
      (s.store p v).mgmt = s.mgmt ∧ (s.store p v).uplink = s.uplink := by
  obtain ⟨-, -, manifest, departures, clock, resume, mgmt, uplink⟩ :=
    State.fields_of_fixtures (s.store_fixtures p v)
  rw [manifest, departures, clock, resume, mgmt, uplink]
  cases p <;> exact ⟨rfl, rfl, rfl, rfl, rfl, rfl⟩

/-! ## A value brought into its range and stored (08 R151) -/

section Stored
variable {s : State} {p r : Parameter} {v : Nat}

theorem State.settingRange_le (s : State) (p : Parameter) :
    (s.settingRange p).1 ≤ (s.settingRange p).2 := by
  cases p <;> simp [State.settingRange]

theorem State.clampSetting_eq (s : State) (p : Parameter) (v : Nat) :
    s.clampSetting p v = max (s.settingRange p).1 (min (s.settingRange p).2 v) :=
  clampTo_eq _ _ _ (s.settingRange_le p)

theorem State.clampSetting_mem (s : State) (p : Parameter) (v : Nat) :
    (s.settingRange p).1 ≤ s.clampSetting p v ∧ s.clampSetting p v ≤ (s.settingRange p).2 := by
  have range := s.settingRange_le p
  rw [State.clampSetting_eq]
  omega

theorem State.store_setting_eq : (s.store p v).setting = (s.put p v).setting :=
  (State.fields_of_fixtures (s.store_fixtures p v)).1

theorem State.store_setting (h : v ≤ (s.settingRange p).2) : (s.store p v).setting p = v :=
  (congrFun State.store_setting_eq p).trans (State.put_setting h)

theorem State.store_setting_ne (h : r ≠ p) (th : p = .th1 → r ≠ .th2) :
    (s.store p v).setting r = s.setting r :=
  (congrFun State.store_setting_eq r).trans (State.put_setting_ne h th)

theorem State.store_th2 : (s.store .th1 v).setting .th2 = min (s.setting .th2) v :=
  congrFun State.store_setting_eq .th2

/-- The range of a value stands but for that of th2, which ends at th1. -/
theorem State.settingRange_congr {t : State} (h : p = .th2 → t.setting .th1 = s.setting .th1) :
    t.settingRange p = s.settingRange p := by
  cases p
  case th2 => exact congrArg (Prod.mk 0) (h rfl)
  all_goals rfl

/-- Storing a value in its range keeps every value in its range: a new th1 brings th2 along. -/
theorem State.store_configInRange (h : s.configInRange) (low : (s.settingRange p).1 ≤ v)
    (high : v ≤ (s.settingRange p).2) : (s.store p v).configInRange := by
  intro r
  have value := State.store_setting high
  by_cases e : r = p
  · subst e
    rw [value, State.settingRange_congr fun e => by
      subst e; exact State.store_setting_ne (by decide) (by decide)]
    exact ⟨low, high⟩
  by_cases bound : p = .th1 ∧ r = .th2
  · obtain ⟨rfl, rfl⟩ := bound
    rw [State.store_th2]
    exact ⟨Nat.zero_le _, (Nat.min_le_right ..).trans value.ge⟩
  · have th (e : p = .th1) : r ≠ .th2 := fun g => bound ⟨e, g⟩
    rw [State.store_setting_ne e th, State.settingRange_congr fun e => State.store_setting_ne
      (fun g => th g.symm e) fun _ => by decide]
    exact h r

end Stored

end Sys2Proof.Machine

namespace Sys2Proof.Machine

/-! SUPPORT. The bounds of the queues and the ranges of the configuration values (08 R145, R148,
R151, R156), and what streams and slots do to them.

Four fields count: the configuration, the uplink port, the management unit and the notice queue. The
work on bays and blocks touches the last one alone, and only by posting; the lemmas follow the
operations' own composition, as those of the pool's promise do. -/

/-! ## The bounds -/

/-- The values of a configuration lie in the ranges of 08's table. -/
def settingsInRange (c : Config.Settings) : Prop :=
  ({ State.reset with config := c } : State).configInRange

/-- No rate is out of range, so the configuration decides it. -/
theorem State.configInRange_congr {s t : State} (e : t.config = s.config) (h : s.configInRange) :
    t.configInRange := by
  intro p
  have range := h p
  cases p
  case maxRate b => exact ⟨Nat.zero_le _, Nat.le_of_lt_succ (Fin.isLt _)⟩
  all_goals simpa only [State.setting, State.settingRange, e] using range

theorem State.configInRange_iff (s : State) : s.configInRange ↔ settingsInRange s.config :=
  ⟨State.configInRange_congr rfl, State.configInRange_congr rfl⟩

/-- The second state keeps what the first one keeps of the queues' bounds and the values' ranges. -/
def State.keepsBounds (s t : State) : Prop :=
  (s.queuesBounded → t.queuesBounded) ∧ (settingsInRange s.config → settingsInRange t.config)

section Bounds
variable {s₀ s : State} {b : BayId} {st : StreamId} {sl : SlotId} {p : Place} {c : ChannelId}

theorem State.keepsBounds.refl (s : State) : s.keepsBounds s := ⟨id, id⟩

theorem State.keepsBounds.of_same {t : State} (h : s₀.keepsBounds s) (config : t.config = s.config)
    (uplink : t.uplink = s.uplink) (mgmt : t.mgmt = s.mgmt) (notices : t.notices = s.notices) :
    s₀.keepsBounds t := by
  unfold State.keepsBounds State.queuesBounded at h ⊢
  rwa [config, uplink, mgmt, notices]

/-- A builder run touches none of the four. -/
theorem State.keepsBounds.of_builderFrame {t : State} (h : s₀.keepsBounds s)
    (e : t.builderFrame = s.builderFrame) : s₀.keepsBounds t := by
  have keep {α : Type} (g : State → α) : g t.builderFrame = g s.builderFrame := congrArg g e
  exact h.of_same (keep State.config) (keep State.uplink) (keep State.mgmt) (keep State.notices)

theorem State.keepsBounds.ite {C : Prop} [Decidable C] {t u : State} (ht : s₀.keepsBounds t)
    (hu : s₀.keepsBounds u) : s₀.keepsBounds (if C then t else u) := by
  split
  · exact ht
  · exact hu

/-- No update of a bay touches them. -/
theorem State.keepsBounds.modBay {f : Bay → Bay} (h : s₀.keepsBounds s) :
    s₀.keepsBounds (s.modBay b f) := h

theorem State.keepsBounds.foldl {α : Type} {f : State → α → State} {l : List α}
    (h : s₀.keepsBounds s) (hf : ∀ (t : State) (a : α), s₀.keepsBounds t → s₀.keepsBounds (f t a)) :
    s₀.keepsBounds (l.foldl f s) :=
  foldl_inv _ f hf l s h

/-- A notice is queued only where there is room for it (08 R156). -/
theorem State.keepsBounds.post {n : Notice} (h : s₀.keepsBounds s) : s₀.keepsBounds (s.post n) := by
  unfold State.post
  refine .ite ?_ h
  split
  · next room =>
    refine ⟨fun bounded => ?_, h.2⟩
    obtain ⟨responses, passUps, requests, -⟩ := h.1 bounded
    exact ⟨responses, passUps, requests, by simpa using room⟩
  · exact h

/-! ## Streams and slots (02) -/

theorem State.keepsBounds.makeDue (h : s₀.keepsBounds s) : s₀.keepsBounds (s.makeDue st) :=
  .ite h h

theorem State.keepsBounds.bumpIf {q : Bool} {k : BayCounter} (h : s₀.keepsBounds s) :
    s₀.keepsBounds (s.bumpIf q b k) :=
  .ite h h

theorem State.keepsBounds.bumpBy {k : BayCounter} {n : Nat} (h : s₀.keepsBounds s) :
    s₀.keepsBounds (s.bumpBy b k n) := by
  unfold State.bumpBy
  induction n with
  | zero => exact h
  | succ n ih => exact ih

theorem State.keepsBounds.arbitrate (h : s₀.keepsBounds s) : s₀.keepsBounds s.arbitrate :=
  State.arbitrate_inv s₀.keepsBounds h fun _ _ ht _ => .makeDue ht

theorem State.keepsBounds.satisfy (h : s₀.keepsBounds s) : s₀.keepsBounds (s.satisfy st) :=
  .arbitrate (.post (.makeDue h))

theorem State.keepsBounds.unsatisfy (h : s₀.keepsBounds s) : s₀.keepsBounds (s.unsatisfy st) :=
  .arbitrate (.makeDue h)

theorem State.keepsBounds.judge (h : s₀.keepsBounds s) : s₀.keepsBounds (s.judge st) := by
  rcases s.judge_cases st with e | e | e | e <;> rw [e]
  exacts [h, h, h.satisfy, h.unsatisfy]

theorem State.keepsBounds.judgeMoved {before : State} {l : List BayId} (h : s₀.keepsBounds s) :
    s₀.keepsBounds (s.judgeMoved before l st) :=
  .ite h h.judge

theorem State.keepsBounds.judgeAll {l : List StreamId} (h : s₀.keepsBounds s) :
    s₀.keepsBounds (s.judgeAll l) :=
  .foldl h fun _ _ h => h.judge

theorem State.keepsBounds.leaveSlot (h : s₀.keepsBounds s) : s₀.keepsBounds (s.leaveSlot b sl) := by
  unfold State.leaveSlot
  split
  · exact h
  · exact .ite (.arbitrate h) h

theorem State.keepsBounds.makeNeeded {d : Nat} (h : s₀.keepsBounds s) :
    s₀.keepsBounds (s.makeNeeded b p d) :=
  h.of_same (by simp) (by simp) (by simp) (by simp)

theorem State.keepsBounds.dropEntry {e : TxEntry} (h : s₀.keepsBounds s) :
    s₀.keepsBounds (s.dropEntry b e) :=
  .leaveSlot (.makeNeeded h)

theorem State.keepsBounds.dropEntries {q : TxEntry → Bool} (h : s₀.keepsBounds s) :
    s₀.keepsBounds (s.dropEntries b q) :=
  .foldl h fun _ _ h => h.dropEntry

theorem State.keepsBounds.detachBay (h : s₀.keepsBounds s) : s₀.keepsBounds (s.detachBay sl b) :=
  h.of_same (by simp) (by simp) (by simp) (by simp)

theorem State.keepsBounds.detachSlot {counted : Bool} (h : s₀.keepsBounds s) :
    s₀.keepsBounds (s.detachSlot sl counted) := by
  unfold State.detachSlot
  split
  · exact h
  · exact .arbitrate (.judgeMoved (.foldl h fun _ _ h => .detachBay (.bumpIf h)))

theorem State.keepsBounds.expireSlots (h : s₀.keepsBounds s) : s₀.keepsBounds s.expireSlots := by
  refine .foldl h fun t sl ht => ?_
  split
  · exact ht
  · exact .ite ht.detachSlot ht

end Bounds

end Sys2Proof.Machine

namespace Sys2Proof.Machine

/-! SUPPORT. The bounds of queues and values through jobs, the builder and activation
(01, 03, 05). -/

section Bounds
variable {s₀ s : State} {b : BayId} {st : StreamId} {sl : SlotId} {p : Place} {c : ChannelId}

/-! ## Jobs and channels (03) -/

theorem State.keepsBounds.forBays {f : BayId → State → State} (h : s₀.keepsBounds s)
    (hf : ∀ (b : BayId) (t : State), s₀.keepsBounds t → s₀.keepsBounds (f b t)) :
    s₀.keepsBounds (s.forBays f) :=
  s.forBays_inv _ f hf h

theorem State.keepsBounds.requestInventory {q : Bool} (h : s₀.keepsBounds s) :
    s₀.keepsBounds (s.requestInventory b q) :=
  .ite h h

theorem State.keepsBounds.abandonProbe (h :
    s₀.keepsBounds s) : s₀.keepsBounds (s.abandonProbe b c) := by
  unfold State.abandonProbe
  split
  · exact h
  · exact .ite h h

theorem State.keepsBounds.freeChannel (h :
    s₀.keepsBounds s) : s₀.keepsBounds (s.freeChannel b c p) := by
  unfold State.freeChannel
  split
  · exact .modBay (.modBay (.modBay (.modBay (.foldl (.abandonProbe (.modBay h)) fun _ _ h =>
      h.makeNeeded))))
  · exact h

theorem State.keepsBounds.freeJobChannel (h : s₀.keepsBounds s) :
    s₀.keepsBounds (s.freeJobChannel b p) := by
  unfold State.freeJobChannel
  split
  · exact h
  · split
    · exact h
    · exact h.freeChannel

theorem State.keepsBounds.assign (h : s₀.keepsBounds s) : s₀.keepsBounds (s.assign b) :=
  h.of_builderFrame (State.assign_builderFrame ..)

theorem State.keepsBounds.look (h : s₀.keepsBounds s) : s₀.keepsBounds (s.look b) :=
  h.of_builderFrame (State.look_builderFrame ..)

theorem State.keepsBounds.lookAll (h : s₀.keepsBounds s) : s₀.keepsBounds s.lookAll :=
  h.of_builderFrame (State.lookAll_builderFrame ..)

theorem State.keepsBounds.checkCompletion (h : s₀.keepsBounds s) :
    s₀.keepsBounds (s.checkCompletion b p) := by
  unfold State.checkCompletion
  split
  · exact h
  · split
    · exact h
    · exact .ite h h

theorem State.keepsBounds.endJob (h : s₀.keepsBounds s) : s₀.keepsBounds (s.endJob b p) := by
  unfold State.endJob
  split
  · exact h
  · exact .post (.judgeMoved (.modBay (.modBay (.modBay h.dropEntries.freeJobChannel))))

theorem State.keepsBounds.leaveTransfer {j : Job} (h : s₀.keepsBounds s) :
    s₀.keepsBounds (s.leaveTransfer b p j) :=
  .judgeMoved (.modBay h.dropEntries.freeJobChannel)

theorem State.keepsBounds.closeOut (h : s₀.keepsBounds s) : s₀.keepsBounds (s.closeOut b p) := by
  unfold State.closeOut
  split
  · exact h
  · exact .ite (.ite h.endJob (.ite h.leaveTransfer h)) h

theorem State.keepsBounds.closeOutAll (h : s₀.keepsBounds s) : s₀.keepsBounds (s.closeOutAll b) :=
  .foldl h fun _ _ h => h.closeOut

theorem State.keepsBounds.setMember {u : UnitAddr} {v : UnitState} (h : s₀.keepsBounds s) :
    s₀.keepsBounds (s.setMember b p u v) :=
  .ite h h

/-! ## The builder and activation (01, 05) -/

theorem State.keepsBounds.build (h : s₀.keepsBounds s) : s₀.keepsBounds (s.build b) :=
  h.of_builderFrame (State.build_builderFrame ..)

theorem State.keepsBounds.buildAll (h : s₀.keepsBounds s) : s₀.keepsBounds s.buildAll :=
  h.of_builderFrame (State.buildAll_builderFrame ..)

theorem State.keepsBounds.applyReplacements (h : s₀.keepsBounds s) :
    s₀.keepsBounds s.applyReplacements := by
  obtain ⟨m, -, e | e⟩ := s.applyReplacements_cases <;> rw [e]
  · exact h
  · exact .buildAll h

theorem State.keepsBounds.afterEnd (h : s₀.keepsBounds s) : s₀.keepsBounds (s.afterEnd b) :=
  h.assign.applyReplacements.build

theorem State.keepsBounds.outcome {t : ActTarget} {previous : Version} {o : UnitState}
    {cause : ResultCause} {report : Option UnitReportFrame} (h : s₀.keepsBounds s) :
    s₀.keepsBounds (s.outcome b t previous o cause report) := by
  unfold State.outcome
  extract_lets link s1 s2 s3 s4 s5 ended s6 s7
  have h3 : s₀.keepsBounds s3 := by
    unfold s3
    split
    · exact h
    · exact .modBay h
  have h6 : s₀.keepsBounds s6 := by
    have h5 : s₀.keepsBounds s5 := .closeOut (.modBay (.post h3))
    exact .ite h5.afterEnd h5
  exact .look (.ite (.requestInventory (.modBay h6)) (.modBay h6))

theorem State.keepsBounds.abandonActivation (h : s₀.keepsBounds s) :
    s₀.keepsBounds (s.abandonActivation b) := by
  unfold State.abandonActivation
  split <;> exact h

theorem State.keepsBounds.sendActivate {t : ActTarget} {gone : Bool} (h : s₀.keepsBounds s) :
    s₀.keepsBounds (s.sendActivate b t gone).1 := by
  unfold State.sendActivate
  split
  · exact h
  · exact .look (.modBay (.modBay h))

theorem State.keepsBounds.firstExpiry (h :
    s₀.keepsBounds s) : s₀.keepsBounds (s.firstExpiry b) := by
  unfold State.firstExpiry
  split <;> exact h

theorem State.keepsBounds.secondExpiry (h :
    s₀.keepsBounds s) : s₀.keepsBounds (s.secondExpiry b) := by
  unfold State.secondExpiry
  split
  · exact .outcome (.modBay h)
  all_goals exact h

theorem State.keepsBounds.reportOutside {u : UnitAddr} {f : UnitReportFrame} (h :
    s₀.keepsBounds s) :
    s₀.keepsBounds (s.reportOutside b u f) :=
  .look (.modBay (.modBay h))

theorem State.keepsBounds.judgeReport {f : UnitReportFrame} (h : s₀.keepsBounds s) :
    s₀.keepsBounds (s.judgeReport b f) := by
  unfold State.judgeReport
  refine .ite ?_ (.modBay h)
  split
  · exact .modBay h
  · split
    · exact .ite (.outcome h) h.reportOutside
    · exact .ite (.outcome (.modBay h)) h.reportOutside
    all_goals exact h.reportOutside

end Bounds

end Sys2Proof.Machine

namespace Sys2Proof.Machine

/-! SUPPORT. The bounds of queues and values through the bay controller, the version table and the
port (01, 06, 07). -/

section Bounds
variable {s₀ s : State} {b : BayId} {st : StreamId} {sl : SlotId} {p : Place} {c : ChannelId}

/-! ## The bay controller (06, 07) -/

theorem State.keepsBounds.enter {st : BayState} {cause : BayCause} (h : s₀.keepsBounds s) :
    s₀.keepsBounds (s.enter b st cause) :=
  .post (.modBay h)

theorem State.keepsBounds.writeResume {v : Word} {j : Job} (h : s₀.keepsBounds s) :
    s₀.keepsBounds (s.writeResume v j) := by
  unfold State.writeResume
  split
  · exact h
  · split
    · exact h
    · split <;> exact h

theorem State.keepsBounds.writeResumes {counted : Bool} (h : s₀.keepsBounds s) :
    s₀.keepsBounds (s.writeResumes b counted) := by
  unfold State.writeResumes
  split
  · exact h
  · exact .foldl h fun _ _ h => .bumpIf h.writeResume

theorem State.keepsBounds.giveUpBlocks (h :
    s₀.keepsBounds s) : s₀.keepsBounds (s.giveUpBlocks b) := by
  refine .modBay (.foldl h.dropEntries fun t ch ht => ?_)
  split
  · exact ht
  · split
    · exact ht
    · exact .foldl ht fun _ _ h => h.makeNeeded

theorem State.keepsBounds.teardown {cause : DropCause} (h : s₀.keepsBounds s) :
    s₀.keepsBounds (s.teardown b cause) :=
  .modBay (.post (.modBay (.judgeAll (.applyReplacements (.modBay (.modBay (.abandonActivation
    (.writeResumes (.giveUpBlocks (.ite (.judgeAll (.modBay h)) (.modBay h)))))))))))

theorem State.keepsBounds.dropLink {cause : DropCause} (h : s₀.keepsBounds s) :
    s₀.keepsBounds (s.dropLink b cause) := by
  unfold State.dropLink
  extract_lets x timer s1 s2
  have h1 : s₀.keepsBounds s1 := .bumpBy (.modBay h)
  have h2 : s₀.keepsBounds s2 := .ite h1 h1.teardown
  split
  · exact h
  · exact .ite (.modBay h) h
  all_goals exact .modBay h2

theorem State.keepsBounds.withhold {left : BayState} (h : s₀.keepsBounds s) :
    s₀.keepsBounds (s.withhold b left) :=
  .dropEntries (.ite h.judgeAll h)

theorem State.keepsBounds.resumeServing {cause : BayCause} (h : s₀.keepsBounds s) :
    s₀.keepsBounds (s.resumeServing b cause) :=
  .build (.assign (.modBay (.judgeAll h.enter)))

theorem State.keepsBounds.enterDeparting {cause : BayCause} (h : s₀.keepsBounds s) :
    s₀.keepsBounds (s.enterDeparting b cause) :=
  .withhold (.modBay h.enter)

theorem State.keepsBounds.enterHolding (h : s₀.keepsBounds s) : s₀.keepsBounds (s.enterHolding b) :=
  .withhold (.modBay (.modBay h.enter))

theorem State.keepsBounds.leaveHolding (h : s₀.keepsBounds s) : s₀.keepsBounds (s.leaveHolding b) :=
  .ite (.enterDeparting (.modBay h)) (.resumeServing (.modBay h))

theorem State.keepsBounds.processHello {f : HelloFrame} (h : s₀.keepsBounds s) :
    s₀.keepsBounds (s.processHello b f) := by
  have others : s₀.keepsBounds (s.dropDuplicates b f.vehicle) :=
    .foldl h fun _ _ h => .dropLink (.modBay h)
  have flushed : s₀.keepsBounds ((s.dropDuplicates b f.vehicle).flushForeign b f.vehicle) := by
    unfold State.flushForeign
    split
    · exact others
    · exact .ite others (.bumpBy (.modBay others))
  exact .modBay (.requestInventory (.modBay flushed))

theorem State.keepsBounds.enterIntake (h :
    s₀.keepsBounds s) : s₀.keepsBounds (s.enterIntake b) := by
  unfold State.enterIntake
  extract_lets s1 s2
  have h1 : s₀.keepsBounds s1 := .modBay h.enter
  have h2 : s₀.keepsBounds s2 := by
    unfold s2
    split
    · exact h1
    · exact .processHello (.modBay h1)
  exact .ite h2.requestInventory h2

theorem State.keepsBounds.takeQualified (h :
    s₀.keepsBounds s) : s₀.keepsBounds (s.takeQualified b) := by
  unfold State.takeQualified
  split
  · exact h.enterIntake
  · exact h.leaveHolding
  all_goals exact h

theorem State.keepsBounds.takeQualificationLost (h : s₀.keepsBounds s) :
    s₀.keepsBounds (s.takeQualificationLost b) := by
  unfold State.takeQualificationLost
  split
  · exact h.enter
  · exact h.enterHolding
  · exact h.enterHolding
  all_goals exact h

theorem State.keepsBounds.takeTrainingBegun (h : s₀.keepsBounds s) :
    s₀.keepsBounds (s.takeTrainingBegun b) := by
  unfold State.takeTrainingBegun
  split
  · exact h.enter
  all_goals exact h

theorem State.keepsBounds.takeTrainingDone {r : RateCode} (h : s₀.keepsBounds s) :
    s₀.keepsBounds (s.takeTrainingDone b r) := by
  unfold State.takeTrainingDone
  split
  · exact h.enter
  all_goals exact h

theorem State.keepsBounds.reportVehicle {v : VehicleState} (h : s₀.keepsBounds s) :
    s₀.keepsBounds (s.reportVehicle b v) := by
  unfold State.reportVehicle
  extract_lets s1 s2
  have h1 : s₀.keepsBounds s1 := .modBay h
  have h2 : s₀.keepsBounds s2 := by
    unfold s2
    split
    · exact .ite h1.enterDeparting h1
    · exact .ite h1 h1.resumeServing
    all_goals exact h1
  exact .ite h2.look h2

theorem State.keepsBounds.takeHeartbeat {code : Byte} (h : s₀.keepsBounds s) :
    s₀.keepsBounds (s.takeHeartbeat b code) := by
  unfold State.takeHeartbeat
  dsimp only
  split
  · exact .modBay h
  · exact .ite h.reportVehicle (.modBay h)

theorem State.keepsBounds.takeHello {f : HelloFrame} (h : s₀.keepsBounds s) :
    s₀.keepsBounds (s.takeHello b f) := by
  unfold State.takeHello
  dsimp only
  split
  · exact .modBay h
  · refine .ite (.modBay h) ?_
    split
    · exact .modBay h
    · exact h.processHello
    iterate 3 exact .ite (.reportVehicle (.modBay (.modBay h))) (.modBay h)
    all_goals exact h

/-! ## The version table (01) -/

theorem State.keepsBounds.cancelVanished {r : UnitRecord} (h : s₀.keepsBounds s) :
    s₀.keepsBounds (s.cancelVanished b r) := by
  unfold State.cancelVanished
  split
  · exact h
  · exact .setMember (.ite h.abandonActivation h)

theorem State.keepsBounds.setServiceTime (h : s₀.keepsBounds s) :
    s₀.keepsBounds (s.setServiceTime b) := by
  unfold State.setServiceTime
  split <;> exact h

theorem State.keepsBounds.completeIntake {items : List InventoryItem} (h : s₀.keepsBounds s) :
    s₀.keepsBounds (s.completeIntake b items) := by
  unfold State.completeIntake
  extract_lets a s1 s2 s3
  have h3 : s₀.keepsBounds s3 :=
    .post (.build (.modBay (.modBay (.setServiceTime (.enter (.bumpBy (.modBay h)))))))
  exact .ite h3.enterDeparting h3

theorem State.keepsBounds.refresh {items : List InventoryItem} (h : s₀.keepsBounds s) :
    s₀.keepsBounds (s.refresh b items) :=
  .post (.afterEnd (.modBay (.closeOutAll (.bumpBy (.modBay (.foldl h fun _ _ h =>
    h.cancelVanished))))))

theorem State.keepsBounds.takeInventory {items : List InventoryItem} (h : s₀.keepsBounds s) :
    s₀.keepsBounds (s.takeInventory b items) := by
  unfold State.takeInventory
  dsimp only
  split
  · exact .ite h.completeIntake (.modBay h)
  · exact h.refresh
  all_goals exact .modBay h

/-! ## The bay port (06) -/

theorem State.keepsBounds.qualify (h : s₀.keepsBounds s) : s₀.keepsBounds (s.qualify b) :=
  .takeQualified (.modBay (.modBay h))

theorem State.keepsBounds.losePort {why : BayCounter} (h : s₀.keepsBounds s) :
    s₀.keepsBounds (s.losePort b why) :=
  .ite (.takeQualificationLost (.modBay (.modBay (.modBay (.modBay h))))) (.modBay h)

theorem State.keepsBounds.receive {take : State → State} (h : s₀.keepsBounds s)
    (ht : ∀ t : State, s₀.keepsBounds t → s₀.keepsBounds (take t)) :
    s₀.keepsBounds (s.receive b take) := by
  unfold State.receive
  split
  · have heard : ∀ t : State, s₀.keepsBounds t → s₀.keepsBounds (t.judgeQualifier b) :=
      fun t h => .ite (.qualify (.modBay h)) (.modBay h)
    exact ht _ (.modBay (heard _ (.modBay h)))
  all_goals exact h

theorem State.keepsBounds.frameError {sort : BayCounter} (h : s₀.keepsBounds s) :
    s₀.keepsBounds (s.frameError b sort) := by
  unfold State.frameError
  split
  · split
    · exact .modBay h
    · exact .losePort (.modBay h)
  all_goals exact h

theorem State.keepsBounds.receiveIf {fits : Bool} {take : State → State} (h : s₀.keepsBounds s)
    (ht : ∀ t : State, s₀.keepsBounds t → s₀.keepsBounds (take t)) :
    s₀.keepsBounds (s.receiveIf b fits take) :=
  .ite (h.receive ht) h.frameError

theorem State.keepsBounds.badFrame {bytes : List Byte} (h : s₀.keepsBounds s) :
    s₀.keepsBounds (s.badFrame b bytes) := by
  unfold State.badFrame
  split
  iterate 3 exact h.frameError
  exact h

theorem State.keepsBounds.startProbing (h : s₀.keepsBounds s) : s₀.keepsBounds (s.startProbing b) :=
  .takeTrainingBegun (.modBay h)

theorem State.keepsBounds.signalDetected (h : s₀.keepsBounds s) :
    s₀.keepsBounds (s.signalDetected b) := by
  unfold State.signalDetected
  dsimp only
  split
  · exact .startProbing (.modBay h)
  all_goals exact .modBay h

theorem State.keepsBounds.forcedOver (h : s₀.keepsBounds s) : s₀.keepsBounds (s.forcedOver b) :=
  .ite (.ite h.startProbing (.modBay h)) h

theorem State.keepsBounds.trained {r : RateCode} (h : s₀.keepsBounds s) :
    s₀.keepsBounds (s.trained b r) := by
  unfold State.trained
  extract_lets s1 s2
  have h2 : s₀.keepsBounds s2 := .takeTrainingDone (.modBay (.modBay h))
  exact .ite h2.qualify h2

theorem State.keepsBounds.takeCaps {code : Byte} (h : s₀.keepsBounds s) :
    s₀.keepsBounds (s.takeCaps b code) := by
  unfold State.takeCaps
  split
  · exact .ite (.trained (.modBay h)) (.modBay (.modBay h))
  · split
    · exact h
    · exact .trained (.modBay h)
  · exact .receive h fun _ h => .modBay h
  all_goals exact h

theorem State.keepsBounds.fallbackFailed (h : s₀.keepsBounds s) :
    s₀.keepsBounds (s.fallbackFailed b) :=
  .ite (.dropLink (.modBay h)) h

theorem State.keepsBounds.signalGone (h : s₀.keepsBounds s) : s₀.keepsBounds (s.signalGone b) := by
  unfold State.signalGone
  dsimp only
  split
  iterate 2 exact .dropLink (.modBay h)
  all_goals exact .modBay h

theorem State.keepsBounds.watchdogTwo (h :
    s₀.keepsBounds s) : s₀.keepsBounds (s.watchdogTwo b) := by
  unfold State.watchdogTwo
  split
  · exact h.losePort
  all_goals exact h

theorem State.keepsBounds.watchdogEight (h :
    s₀.keepsBounds s) : s₀.keepsBounds (s.watchdogEight b) := by
  unfold State.watchdogEight
  split
  iterate 2 exact h.dropLink
  all_goals exact h

theorem State.keepsBounds.intakeExpired (h :
    s₀.keepsBounds s) : s₀.keepsBounds (s.intakeExpired b) :=
  .ite (.dropLink (.modBay h)) h

theorem State.keepsBounds.holdingExpired (h :
    s₀.keepsBounds s) : s₀.keepsBounds (s.holdingExpired b) :=
  .ite (.dropLink (.modBay h)) h

end Bounds

end Sys2Proof.Machine

namespace Sys2Proof.Machine

/-! SUPPORT. The bounds of queues and values through the transfer of blocks and the course of time
(02, 03, 04). -/

section Bounds
variable {s₀ s : State} {b : BayId} {st : StreamId} {sl : SlotId} {p : Place} {c : ChannelId}

/-! ## The transfer of blocks (02, 03) -/

theorem State.keepsBounds.spendDropped (h :
    s₀.keepsBounds s) : s₀.keepsBounds (s.spendDropped st) :=
  .ite (.arbitrate h) h

theorem State.keepsBounds.takeBlock {d : Nat} (h : s₀.keepsBounds s) :
    s₀.keepsBounds (s.takeBlock b sl p c d) := by
  unfold State.takeBlock
  split
  · exact h
  · exact .modBay (.bumpIf (.modBay h))

theorem State.keepsBounds.afterOffer (h : s₀.keepsBounds s) : s₀.keepsBounds (s.afterOffer st) :=
  .ite h.arbitrate.judge.makeDue h.arbitrate.judge

theorem State.keepsBounds.offerBlock {f : BlockFrame} {t : State} (h : s₀.keepsBounds s)
    (e : s.offerBlock st f = .next t) : s₀.keepsBounds t := by
  unfold State.offerBlock at e
  dsimp only at e
  split at e
  · cases e
    exact .afterOffer h
  · split at e
    · cases e
    · cases e
      refine .afterOffer (.foldl ?_ fun _ _ h => h.takeBlock)
      exact h

theorem State.keepsBounds.judgeBlock {f : BlockFrame} {t : State} (h : s₀.keepsBounds s)
    (e : s.judgeBlock st f = .next t) : s₀.keepsBounds t := by
  unfold State.judgeBlock at e
  dsimp only at e
  split at e
  · cases e; exact h
  split at e
  · cases e; exact .spendDropped h
  split at e
  · cases e; exact .spendDropped h
  split at e
  · cases e; exact h
  · exact State.keepsBounds.offerBlock (s := s.acceptBlock st f.sequence.toNat) h e

theorem State.keepsBounds.takeBlockFrame {f : BlockFrame} {t : State} (h : s₀.keepsBounds s)
    (e : s.takeBlockFrame f = .next t) : s₀.keepsBounds t := by
  unfold State.takeBlockFrame State.arriveBlock at e
  split at e
  · split at e
    · split at e
      · cases e; exact h
      · exact State.keepsBounds.judgeBlock (s := s.count .validUplinkFrames) h e
    · cases e; exact h
  · cases e; exact h

theorem State.keepsBounds.probeReceived {n : Nat} (h : s₀.keepsBounds s) :
    s₀.keepsBounds (s.probeReceived b c n) := by
  unfold State.probeReceived
  split <;> exact h

theorem State.keepsBounds.probeTimedOut {n : Nat} (h : s₀.keepsBounds s) :
    s₀.keepsBounds (s.probeTimedOut b c n) := by
  unfold State.probeTimedOut
  split <;> exact h

theorem State.keepsBounds.startProbe {n : Nat} (h : s₀.keepsBounds s) :
    s₀.keepsBounds (s.startProbe b c n) := by
  unfold State.startProbe
  split <;> exact h

theorem State.keepsBounds.removeOffset {d : Nat} (h : s₀.keepsBounds s) :
    s₀.keepsBounds (s.removeOffset b p d) := by
  unfold State.removeOffset
  split
  · exact h
  · exact .bumpIf (.modBay h)

theorem State.keepsBounds.applyReceipt {n : Nat} (h : s₀.keepsBounds s) :
    s₀.keepsBounds (s.applyReceipt b c p n) := by
  unfold State.applyReceipt
  split
  · exact .ite (.modBay (.removeOffset (.probeReceived (.modBay h))))
      (.ite (.modBay h.removeOffset) (.modBay h))
  · exact h

theorem State.keepsBounds.takeReceipt {f : ReceiptFrame} (h : s₀.keepsBounds s) :
    s₀.keepsBounds (s.takeReceipt b f) := by
  unfold State.takeReceipt
  split
  · exact .modBay h
  · exact .judgeMoved (.checkCompletion (.foldl h fun _ _ h => h.applyReceipt))

theorem State.keepsBounds.flightTimedOut (h : s₀.keepsBounds s) :
    s₀.keepsBounds (s.flightTimedOut b c) := by
  unfold State.flightTimedOut
  split
  · exact h
  · split
    · exact h
    · exact .judgeMoved (.modBay (.makeNeeded (.probeTimedOut (.modBay h))))

theorem State.keepsBounds.receiptTimeouts (h :
    s₀.keepsBounds s) : s₀.keepsBounds s.receiptTimeouts := by
  have due : ∀ (n : Nat) (t : State) (b : BayId) (c : ChannelId), s₀.keepsBounds t →
      s₀.keepsBounds (State.flightsDue n t b c) := by
    intro n
    induction n with
    | zero => exact fun _ _ _ ht => ht
    | succ n ih => exact fun t b c ht => .ite (ih _ _ _ ht.flightTimedOut) ht
  exact .forBays h fun b _ ht => .foldl ht fun _ c hu => due 16 _ b c hu

theorem State.keepsBounds.openGivenUp (h :
    s₀.keepsBounds s) : s₀.keepsBounds (s.openGivenUp b c p) :=
  .assign (.modBay h.freeChannel)

theorem State.keepsBounds.takeOpenAck {f : OpenAckFrame} (h : s₀.keepsBounds s) :
    s₀.keepsBounds (s.takeOpenAck b f) := by
  unfold State.takeOpenAck
  split
  · exact .modBay h
  · exact .ite (.ite (.openGivenUp (.modBay h)) (.judge (.checkCompletion (.modBay (.modBay
      (.modBay h)))))) (.modBay h)

theorem State.keepsBounds.openExpiry (h :
    s₀.keepsBounds s) : s₀.keepsBounds (s.openExpiry b c) := by
  unfold State.openExpiry
  split
  · exact h
  · split
    · exact h
    · exact .ite h (.ite (.openGivenUp (.modBay h)) (.ite (.modBay h) (.modBay (.modBay h))))

theorem State.keepsBounds.afterClose (h : s₀.keepsBounds s) : s₀.keepsBounds (s.afterClose b p) :=
  .look (.ite h.closeOut.afterEnd h.closeOut.assign)

theorem State.keepsBounds.failMember {u : UnitAddr} (h : s₀.keepsBounds s) :
    s₀.keepsBounds (s.failMember b p u) :=
  .modBay h.setMember

theorem State.keepsBounds.stageMember {u : UnitAddr} {v : Version} (h : s₀.keepsBounds s) :
    s₀.keepsBounds (s.stageMember b p u v) :=
  .modBay h.setMember

theorem State.keepsBounds.closeGood {j : Job} {f : CloseResultFrame} (h : s₀.keepsBounds s) :
    s₀.keepsBounds (s.closeGood b c p j f) := by
  unfold State.closeGood
  refine .afterClose (.modBay (.freeChannel ?_))
  refine .foldl h fun t u h => ?_
  exact .ite h.stageMember h.failMember

theorem State.keepsBounds.closeFailed {j : Job} (h : s₀.keepsBounds s) :
    s₀.keepsBounds (s.closeFailed b c p j) :=
  .ite (.afterClose (.modBay h.freeChannel))
    (.afterClose (.modBay (.freeChannel (.foldl (.modBay h) fun _ _ h => h.failMember))))

theorem State.keepsBounds.takeCloseResult {f : CloseResultFrame} (h : s₀.keepsBounds s) :
    s₀.keepsBounds (s.takeCloseResult b f) := by
  unfold State.takeCloseResult
  split
  · exact .modBay h
  · exact .ite (.ite h.closeGood (.closeFailed (.modBay h))) (.modBay h)

theorem State.keepsBounds.closeExpiry (h :
    s₀.keepsBounds s) : s₀.keepsBounds (s.closeExpiry b c) := by
  unfold State.closeExpiry
  split
  · exact h
  · split
    · exact h
    · exact .ite (.closeFailed (.modBay h)) h

/-! ## Time (04) -/

theorem State.keepsBounds.recompute (h : s₀.keepsBounds s) : s₀.keepsBounds (s.recompute b) := by
  have late : ∀ (t : State) (n : Nat) (w : Word), s₀.keepsBounds t →
      s₀.keepsBounds (t.enterLate b n w) := by
    intro t n w ht
    unfold State.enterLate
    dsimp only
    split
    · exact ht
    · exact .ite (.modBay ht.post) ht
  unfold State.recompute
  refine .ite (.modBay h) ?_
  split
  · exact .modBay h
  · exact .ite (.modBay h) (late _ _ _ (.modBay h))

theorem State.keepsBounds.expireRecords (h :
    s₀.keepsBounds s) : s₀.keepsBounds s.expireRecords := by
  refine .foldl h fun t p ht => ?_
  split
  · exact ht
  · exact .ite ht ht

theorem State.keepsBounds.secondEvent (h : s₀.keepsBounds s) : s₀.keepsBounds s.secondEvent :=
  .ite h (.lookAll (.expireRecords (.forBays h fun _ _ h => h.recompute)))

theorem State.keepsBounds.advanceSub (h : s₀.keepsBounds s) : s₀.keepsBounds s.advanceSub :=
  .ite (.secondEvent h) h

theorem State.keepsBounds.takeIf {due : State → Bool} {take : State → State} (h : s₀.keepsBounds s)
    (ht : ∀ t : State, s₀.keepsBounds t → s₀.keepsBounds (take t)) :
    s₀.keepsBounds (s.takeIf due take) :=
  .ite (ht s h) h

theorem State.keepsBounds.activationExpiry (h : s₀.keepsBounds s) :
    s₀.keepsBounds (s.activationExpiry b) := by
  unfold State.activationExpiry
  split
  · exact h.firstExpiry
  · exact h.secondExpiry
  all_goals exact h

theorem State.keepsBounds.switchFailed (h : s₀.keepsBounds s) : s₀.keepsBounds (s.switchFailed b) :=
  .ite (.modBay (.modBay h)) h

theorem State.keepsBounds.resendCaps (h : s₀.keepsBounds s) : s₀.keepsBounds (s.resendCaps b) :=
  .ite (.modBay h) h

theorem State.keepsBounds.channelTimers (h : s₀.keepsBounds s) :
    s₀.keepsBounds (s.channelTimers b c) :=
  .takeIf (.takeIf h fun _ h => h.openExpiry) fun _ h => h.closeExpiry

theorem State.keepsBounds.portTimers (h : s₀.keepsBounds s) : s₀.keepsBounds (s.portTimers b) := by
  unfold State.portTimers
  refine .takeIf ?_ fun _ h => h.watchdogEight
  refine .takeIf ?_ fun _ h => h.watchdogTwo
  refine .takeIf ?_ fun _ h => h.resendCaps
  refine .takeIf ?_ fun _ h => h.forcedOver
  refine .takeIf ?_ fun _ h => h.fallbackFailed
  exact .takeIf h fun _ h => h.switchFailed

theorem State.keepsBounds.bayTimers (h : s₀.keepsBounds s) : s₀.keepsBounds (s.bayTimers b) := by
  unfold State.bayTimers
  refine .takeIf ?_ fun _ h => h.holdingExpired
  refine .takeIf ?_ fun _ h => h.intakeExpired
  refine .portTimers (.takeIf ?_ fun _ h => h.activationExpiry)
  exact .foldl h fun _ _ h => h.channelTimers

theorem State.keepsBounds.millisecond (h : s₀.keepsBounds s) : s₀.keepsBounds s.millisecond :=
  .ite (.advanceSub h) (.receiptTimeouts (.forBays (.expireSlots (.advanceSub h))
    fun _ _ h => h.bayTimers))

theorem State.keepsBounds.idle (h : s₀.keepsBounds s) : s₀.keepsBounds s.idle :=
  .ite (.millisecond h) h

end Bounds

end Sys2Proof.Machine


namespace Sys2Proof.Machine

/-! SUPPORT and PROOFS. The bounds of queues and values through resets, the uplink, requests and the
bay transmitter, and with them through every command (06, 08). -/

section Bounds
variable {s₀ s : State} {b : BayId} {st : StreamId} {sl : SlotId} {p : Place} {c : ChannelId}

/-! ## Reset and the uplink (08) -/

/-- A state with the power-on configuration and no more queued than one notice is within the
bounds, whatever came before it. -/
theorem State.keepsBounds.of_reset {t : State} (config : t.config = State.reset.config)
    (responses : t.uplink.responses = []) (passUps : t.uplink.passUps = [])
    (requests : t.mgmt.queue = []) (notices : t.notices = State.reset.notices) :
    s₀.keepsBounds t := by
  obtain ⟨-, -, range⟩ := invariantsAtReset
  unfold State.keepsBounds State.queuesBounded
  rw [config, responses, passUps, requests, notices]
  exact ⟨fun _ => by decide, fun _ => range⟩

/-- A state with the same configuration and no queue longer keeps them. -/
theorem State.keepsBounds.of_fewer {t : State} (h : s₀.keepsBounds s) (config : t.config = s.config)
    (responses : t.uplink.responses.length ≤ s.uplink.responses.length)
    (passUps : t.uplink.passUps.length ≤ s.uplink.passUps.length)
    (requests : t.mgmt.queue.length ≤ s.mgmt.queue.length)
    (notices : t.notices.queue.length ≤ s.notices.queue.length) : s₀.keepsBounds t := by
  refine ⟨fun bounded => ?_, by rw [config]; exact h.2⟩
  obtain ⟨h1, h2, h3, h4⟩ := h.1 bounded
  exact ⟨responses.trans h1, passUps.trans h2, requests.trans h3, notices.trans h4⟩

theorem State.keepsBounds.completeReset {cause : ResetCause} {straps : BitVec 4}
    (h : s₀.keepsBounds s) : s₀.keepsBounds (s.completeReset cause straps) :=
  .post h

/-- A reset begun has every queue empty and the power-on configuration (08 R164). -/
theorem State.keepsBounds.beginReset : s₀.keepsBounds s.beginReset :=
  .of_reset rfl rfl rfl rfl rfl

theorem State.keepsBounds.resetByRequest : s₀.keepsBounds s.resetByRequest :=
  State.keepsBounds.beginReset.completeReset

theorem State.keepsBounds.pinAsserted (h : s₀.keepsBounds s) : s₀.keepsBounds s.pinAsserted :=
  .ite h (.of_reset rfl rfl rfl rfl rfl)

theorem State.keepsBounds.poweredOn {straps : BitVec 4} : s₀.keepsBounds (s.poweredOn straps) :=
  .post (.of_reset rfl rfl rfl rfl rfl)

theorem State.keepsBounds.linkUp (h : s₀.keepsBounds s) : s₀.keepsBounds s.linkUp := by
  unfold State.linkUp
  refine .ite h (.ite ?_ h)
  refine .foldl ?_ fun t a h => ?_
  · exact .post h
  · exact h.makeDue

theorem State.keepsBounds.linkDown (h : s₀.keepsBounds s) : s₀.keepsBounds s.linkDown := by
  unfold State.linkDown
  refine .ite h (.ite .resetByRequest ?_)
  refine State.keepsBounds.foldl (f := fun t _ => t.discardResponse) ?_ fun _ _ h => h
  have emptied : s₀.keepsBounds { s with uplink := { s.uplink with
      physical := false, up := false, line := none, responses := [] } } :=
    h.of_fewer rfl (Nat.zero_le _) (Nat.le_refl _) (Nat.le_refl _) (Nat.le_refl _)
  split <;> exact emptied

/-- A response is queued only while fewer than eight wait (08 R148). -/
theorem State.keepsBounds.respond {dest : Address} {kind : Byte} {tag : Half} {code : Code}
    {body : List Byte} (h : s₀.keepsBounds s) :
    s₀.keepsBounds (s.respond dest kind tag code body) := by
  unfold State.respond
  split
  · next room =>
    refine ⟨fun bounded => ?_, h.2⟩
    obtain ⟨-, passUps, requests, notices⟩ := h.1 bounded
    exact ⟨by simpa using room.2, passUps, requests, notices⟩
  · exact h

theorem State.keepsBounds.rejectFrame {f : EthFrame} (h : s₀.keepsBounds s) :
    s₀.keepsBounds (s.rejectFrame f) := by
  refine .ite ?_ h
  split <;> exact h

/-- A request is queued only while fewer than four wait (08 R148). -/
theorem State.keepsBounds.judgeRequest {f : RequestFrame} (h : s₀.keepsBounds s) :
    s₀.keepsBounds (s.judgeRequest f) := by
  have answered : ∀ (kind : Byte) (tag : Half) (code : Code) (k : BridgeCounter),
      s₀.keepsBounds (s.answerAtArrival f.src kind tag code k) := fun _ _ _ _ => h.respond
  unfold State.judgeRequest
  dsimp only
  refine .ite (answered ..) (.ite (answered ..) ?_)
  split
  · exact answered ..
  · next room =>
    split
    · exact answered ..
    · refine ⟨fun bounded => ?_, h.2⟩
      obtain ⟨responses, passUps, -, notices⟩ := h.1 bounded
      exact ⟨responses, passUps, by simpa using Nat.lt_of_not_le room, notices⟩

theorem State.keepsBounds.takeRequest {f : RequestFrame} (h : s₀.keepsBounds s) :
    s₀.keepsBounds (s.takeRequest f) :=
  .ite (.judgeRequest h) h

/-- A PASS-UP is queued only while fewer than sixteen wait (08 R161). -/
theorem State.keepsBounds.takePassUp {body : List Byte} (h : s₀.keepsBounds s) :
    s₀.keepsBounds (s.takePassUp b body) := by
  unfold State.takePassUp
  split
  · next room =>
    refine ⟨fun bounded => ?_, h.2⟩
    obtain ⟨responses, -, requests, notices⟩ := h.1 bounded
    exact ⟨responses, by simpa using room, requests, notices⟩
  · exact .modBay h

theorem State.keepsBounds.queuePassDown {body : List Byte} (h : s₀.keepsBounds s) :
    s₀.keepsBounds (s.queuePassDown b body) :=
  .ite (.modBay h) (.modBay h)

theorem State.keepsBounds.takePassDown {f : PassDownFrame} (h : s₀.keepsBounds s) :
    s₀.keepsBounds (s.takePassDown f) := by
  refine .ite (.ite ?_ h) h
  split
  · exact h
  · exact .queuePassDown h

/-- The frame that the uplink port takes next is the oldest of its queue (08 R159). -/
def UplinkChoice.heads (c : UplinkChoice) (s : State) : Prop :=
  match c with
  | .response r rest => s.uplink.responses = r :: rest
  | .notice _ n rest => s.notices.queue = n :: rest
  | .status _ st rest => s.due = st :: rest
  | .passUp _ f rest => s.uplink.passUps = f :: rest

theorem State.uplinkChoice_heads {c : UplinkChoice} (h : s.uplinkChoice = some c) : c.heads s := by
  unfold State.uplinkChoice at h
  split at h
  · split at h
    · next e => cases h; exact e
    · cases h
    · split at h
      · next e => cases h; exact e
      · next e => cases h; exact e
      · next e => cases h; exact e
      · cases h
  · cases h

theorem State.keepsBounds.sendResponse (h : s₀.keepsBounds s) : s₀.keepsBounds s.sendResponse := by
  unfold State.sendResponse
  split
  · next r rest e =>
    have waiting : s.uplink.responses = r :: rest := State.uplinkChoice_heads e
    have shorter : rest.length ≤ s.uplink.responses.length := by simp [waiting]
    exact .ite .resetByRequest
      (h.of_fewer rfl shorter (Nat.le_refl _) (Nat.le_refl _) (Nat.le_refl _))
  · exact h

theorem State.keepsBounds.sendNotice (h : s₀.keepsBounds s) : s₀.keepsBounds s.sendNotice := by
  unfold State.sendNotice
  split
  · next n rest e =>
    have waiting : s.notices.queue = n :: rest := State.uplinkChoice_heads e
    have shorter : rest.length ≤ s.notices.queue.length := by simp [waiting]
    exact h.of_fewer rfl (Nat.le_refl _) (Nat.le_refl _) (Nat.le_refl _) shorter
  · exact h

theorem State.keepsBounds.sendStreamStatus (h : s₀.keepsBounds s) :
    s₀.keepsBounds s.sendStreamStatus := by
  unfold State.sendStreamStatus
  split <;> exact h

theorem State.keepsBounds.sendPassUp (h : s₀.keepsBounds s) : s₀.keepsBounds s.sendPassUp := by
  unfold State.sendPassUp
  split
  · next f rest e =>
    have waiting : s.uplink.passUps = f :: rest := State.uplinkChoice_heads e
    have shorter : rest.length ≤ s.uplink.passUps.length := by simp [waiting]
    exact .modBay (h.of_fewer rfl (Nat.le_refl _) shorter (Nat.le_refl _) (Nat.le_refl _))
  · exact h

/-! ## Requests (08) -/

/-- A value stored in its range: the work behind it keeps the queues' bounds. -/
theorem State.keepsBounds.store {q : Parameter} {v : Nat} (h : s₀.keepsBounds s)
    (low : (s.settingRange q).1 ≤ v) (high : v ≤ (s.settingRange q).2) :
    s₀.keepsBounds (s.store q v) := by
  have queues : (s.put q v).queuesBounded → (s.store q v).queuesBounded := by
    have start := State.keepsBounds.refl (s.put q v)
    cases q
    case holdLimit => exact start.expireSlots.1
    case streamWindow =>
      have window : (s.put .streamWindow v).keepsBounds (s.setWindow v) := by
        unfold State.setWindow
        exact .ite (.arbitrate start) start
      exact window.1
    case receiptTimeout => exact start.receiptTimeouts.1
    case windowStart => exact start.lookAll.1
    case windowEnd => exact start.lookAll.1
    all_goals exact start.1
  refine ⟨fun bounded => queues ?_, fun range => ?_⟩
  · cases q <;> exact h.1 bounded
  · exact (State.configInRange_iff _).mp
      (State.store_configInRange ((State.configInRange_iff s).mpr (h.2 range)) low high)

theorem State.keepsBounds.done {body : List Byte} (h : s₀.keepsBounds s) :
    s₀.keepsBounds (s.done body).state := h

theorem State.keepsBounds.refuse {code : Code} (h : s₀.keepsBounds s) :
    s₀.keepsBounds (s.refuse code).state := h

theorem State.keepsBounds.modEntry {i : EntryId} {f : Entry → Entry} (h : s₀.keepsBounds s) :
    s₀.keepsBounds (s.modEntry i f) := h

theorem State.keepsBounds.openStream {x y : Byte} {l m : Half} (h : s₀.keepsBounds s) :
    s₀.keepsBounds (s.openStream x y l m).state := by
  unfold State.openStream
  split
  · exact .refuse h
  · split
    · exact .refuse h
    · exact .done (.makeDue h)

theorem State.keepsBounds.modStream {f : Stream → Stream} (h : s₀.keepsBounds s) :
    s₀.keepsBounds (s.modStream st f) := h

theorem State.keepsBounds.closeStream {x : Byte} (h : s₀.keepsBounds s) :
    s₀.keepsBounds (s.closeStream x).state := by
  unfold State.closeStream
  split
  · exact .refuse h
  · next st _ =>
    split
    · exact .refuse h
    · have freed : s₀.keepsBounds (s.freeSlotsOf st) := by
        refine .foldl h fun t sl ht => ?_
        split
        · exact ht
        · exact .ite ht.detachSlot ht
      have closed : ∀ (t : State) (l : List StreamId), s₀.keepsBounds t →
          s₀.keepsBounds ({ t with due := l } : State) := fun _ _ ht => ht
      exact .done (.arbitrate (closed _ _ (.modStream freed)))

theorem State.keepsBounds.setLevel {x y : Byte} (h : s₀.keepsBounds s) :
    s₀.keepsBounds (s.setLevel x y).state := by
  unfold State.setLevel
  split
  · exact .refuse h
  · split
    · exact .done h
    · exact .refuse h

theorem State.keepsBounds.writeConfig {x y : Byte} {v : Word} (h : s₀.keepsBounds s) :
    s₀.keepsBounds (s.writeConfig x y v).state := by
  unfold State.writeConfig
  split
  · exact .refuse h
  · exact .refuse h
  · obtain ⟨low, high⟩ := s.clampSetting_mem _ v.toNat
    exact .done (h.store low high)

theorem State.keepsBounds.applyWrite {i : EntryId} {f : EntryFields} (h : s₀.keepsBounds s) :
    s₀.keepsBounds (s.applyWrite i f).state := by
  unfold State.applyWrite
  split
  · exact .done (.modEntry h)
  · exact .done (.buildAll (.modEntry h))

theorem State.keepsBounds.writeEntry {x y z : Byte} {k m t v : Word} (h : s₀.keepsBounds s) :
    s₀.keepsBounds (s.writeEntry x y z k m t v).state := by
  unfold State.writeEntry
  split
  · dsimp only
    split
    · exact .refuse h
    · split
      · exact .refuse h
      · exact h.applyWrite
  · exact .refuse h

theorem State.keepsBounds.withdraw {i : EntryId} (h : s₀.keepsBounds s) :
    s₀.keepsBounds (s.withdraw i) := by
  unfold State.withdraw
  refine .buildAll (.applyReplacements (.modEntry (.forBays (.forBays (.forBays (.modEntry h) ?_)
    fun _ _ h => h.closeOutAll) fun _ _ h => h.assign)))
  intro b t ht
  rw [State.withdrawFrom_eq]
  exact .modBay (f := fun _ => (t.bay b).withdraw i) ht

theorem State.keepsBounds.withdrawEntry {x : Byte} (h : s₀.keepsBounds s) :
    s₀.keepsBounds (s.withdrawEntry x).state := by
  unfold State.withdrawEntry
  split
  · exact .refuse h
  · split
    · exact .done h.withdraw
    · exact .refuse h

theorem State.keepsBounds.releaseEntry {x : Byte} (h : s₀.keepsBounds s) :
    s₀.keepsBounds (s.releaseEntry x).state := by
  unfold State.releaseEntry
  split
  · exact .refuse h
  · split
    · exact .done (.lookAll (.modEntry h))
    · exact .refuse h

theorem State.keepsBounds.loadInto {v w : Word} (h : s₀.keepsBounds s) :
    s₀.keepsBounds (s.loadInto v w).1 := by
  unfold State.loadInto
  split
  · exact h
  · split
    · split <;> exact h
    · split
      · exact h
      · split <;> exact h

theorem State.keepsBounds.loadDeparture {x : Byte} {v w : Word} (h : s₀.keepsBounds s) :
    s₀.keepsBounds (s.loadDeparture x v w).state := by
  unfold State.loadDeparture
  split
  · exact .refuse h
  · exact h.loadInto

theorem State.keepsBounds.clearBlock {x y : Byte} (h : s₀.keepsBounds s) :
    s₀.keepsBounds (s.clearBlock x y).state := by
  unfold State.clearBlock
  split
  · split
    · exact .refuse h
    · exact .done (.build (.modBay h))
  · exact .refuse h

theorem State.keepsBounds.readCounters {x y z : Byte} (h : s₀.keepsBounds s) :
    s₀.keepsBounds (s.readCounters x y z).state := by
  unfold State.readCounters
  dsimp only
  split
  · split
    · exact .refuse h
    · exact .done (.ite (.modBay h) h)
  · split
    · exact .refuse h
    · exact .done (.ite h h)
  · exact .done (.ite h h)
  · exact .refuse h

theorem State.keepsBounds.resetBay {x : Byte} (h : s₀.keepsBounds s) :
    s₀.keepsBounds (s.resetBay x).state := by
  unfold State.resetBay
  split
  · exact .refuse h
  · exact .done h.dropLink

theorem State.keepsBounds.answer {q : QueuedRequest} {a : Answer} (h : s₀.keepsBounds a.state) :
    s₀.keepsBounds (State.answer q a) :=
  .respond (.ite h h)

/-- A request executed keeps the promise when its handler's answer does. -/
theorem State.keepsBounds.execute {handle : State → Request → Option Answer} (h : s₀.keepsBounds s)
    (ha : ∀ (t : State) (r : Request) (a : Answer), s₀.keepsBounds t → handle t r = some a →
      s₀.keepsBounds a.state) : s₀.keepsBounds (s.execute handle) := by
  refine .ite ?_ h
  split
  · exact h
  · split
    · exact h
    · next q rest waiting _ a e =>
      have shorter : rest.length ≤ s.mgmt.queue.length := by simp [waiting]
      refine .answer (ha _ _ _ ?_ e)
      exact h.of_fewer rfl (Nat.le_refl _) (Nat.le_refl _) shorter (Nat.le_refl _)

/-! ## The bay transmitter (06) -/

theorem State.keepsBounds.sendCaps (h : s₀.keepsBounds s) : s₀.keepsBounds (s.sendCaps b) := by
  unfold State.sendCaps
  split <;> exact h

theorem State.keepsBounds.sendRetrain (h :
    s₀.keepsBounds s) : s₀.keepsBounds (s.sendRetrain b) := by
  unfold State.sendRetrain
  split <;> exact h

theorem State.keepsBounds.sendChannelOpen (h : s₀.keepsBounds s) :
    s₀.keepsBounds (s.sendChannelOpen b) := by
  unfold State.sendChannelOpen
  split <;> exact h

theorem State.keepsBounds.sendChannelClose (h : s₀.keepsBounds s) :
    s₀.keepsBounds (s.sendChannelClose b) := by
  unfold State.sendChannelClose
  split <;> exact h

theorem State.keepsBounds.sendActivateFrame (h : s₀.keepsBounds s) :
    s₀.keepsBounds (s.sendActivateFrame b) := by
  unfold State.sendActivateFrame
  split
  · split
    · exact .ite (.modBay (.modBay (.sendActivate (.modBay h)))) (.sendActivate (.modBay h))
    all_goals exact h
  · exact h

theorem State.keepsBounds.sendRevert (h : s₀.keepsBounds s) : s₀.keepsBounds (s.sendRevert b) := by
  unfold State.sendRevert
  split
  · next u previous _ =>
    have sent : s₀.keepsBounds ((s.controlSent b (.revert u previous)).bump b .revertsSent) :=
      .modBay (.modBay (.modBay (.modBay h)))
    dsimp only
    split
    · exact .modBay sent
    all_goals exact sent
  · exact h

theorem State.keepsBounds.sendInventoryRequest (h : s₀.keepsBounds s) :
    s₀.keepsBounds (s.sendInventoryRequest b) := by
  unfold State.sendInventoryRequest
  split <;> exact h

theorem State.keepsBounds.sendEntry {e : TxEntry} {x : Slot} (h : s₀.keepsBounds s) :
    s₀.keepsBounds (s.sendEntry b e x) := by
  unfold State.sendEntry
  refine .leaveSlot (.modBay (.modBay (.startProbe ?_)))
  exact .modBay (.modBay h)

theorem State.keepsBounds.sendBlock (h : s₀.keepsBounds s) : s₀.keepsBounds (s.sendBlock b) := by
  unfold State.sendBlock
  split
  · split
    · exact h
    · exact h.sendEntry
  · exact h

theorem State.keepsBounds.sendPassDown (h :
    s₀.keepsBounds s) : s₀.keepsBounds (s.sendPassDown b) := by
  unfold State.sendPassDown
  split <;> exact h

/-! ## Every command -/

/-- Every command keeps the bounds that hold before it. -/
theorem State.keepsBounds.exec {i : Instr} {t : State} (h :
    s₀.keepsBounds s) (e : exec i s = .next t) :
    s₀.keepsBounds t := by
  cases i
  case block => exact h.takeBlockFrame e
  case resetBridge =>
    have halted : s₀.keepsBounds (s.execute handleResetBridge) :=
      h.execute fun t r a ht e => by cases r <;> cases e; exact ht
    change (if _ then Host.Outcome.next _ else Host.Outcome.next _ : Result) = .next t at e
    split at e
    · cases e; exact .resetByRequest
    · cases e; exact halted
  all_goals cases e
  -- power, reset and the uplink
  case powerOnComplete => exact .poweredOn
  case resetPinAsserted => exact h.pinAsserted
  case resetPinReleased => exact .ite h.completeReset h
  case uplinkLinkUp => exact h.linkUp
  case uplinkLinkDown => exact h.linkDown
  case uplinkFrameRejected => exact h.rejectFrame
  case requestArrival => exact h.takeRequest
  case passDown => exact h.takePassDown
  case sendResponse => exact h.sendResponse
  case sendNotice => exact h.sendNotice
  case sendStreamStatus => exact h.sendStreamStatus
  case sendPassUp => exact h.sendPassUp
  -- requests
  case setClock =>
    exact h.execute fun t r a ht e => by cases r <;> cases e; exact .done (.secondEvent ht)
  case readStatus =>
    exact h.execute fun t r a ht e => by cases r <;> cases e; exact .done ht
  case writeConfig =>
    exact h.execute fun t r a ht e => by cases r <;> cases e; exact ht.writeConfig
  case readConfig =>
    exact h.execute fun t r a ht e => by cases r <;> cases e; rwa [State.readConfig_state]
  case openStream =>
    exact h.execute fun t r a ht e => by cases r <;> cases e; exact ht.openStream
  case closeStream =>
    exact h.execute fun t r a ht e => by cases r <;> cases e; exact ht.closeStream
  case setLevel =>
    exact h.execute fun t r a ht e => by cases r <;> cases e; exact ht.setLevel
  case writeEntry =>
    exact h.execute fun t r a ht e => by cases r <;> cases e; exact ht.writeEntry
  case readEntry =>
    exact h.execute fun t r a ht e => by cases r <;> cases e; rwa [State.readEntry_state]
  case withdrawEntry =>
    exact h.execute fun t r a ht e => by cases r <;> cases e; exact ht.withdrawEntry
  case releaseEntry =>
    exact h.execute fun t r a ht e => by cases r <;> cases e; exact ht.releaseEntry
  case loadDeparture =>
    exact h.execute fun t r a ht e => by cases r <;> cases e; exact ht.loadDeparture
  case readBay =>
    exact h.execute fun t r a ht e => by cases r <;> cases e; rwa [State.readBay_state]
  case readJob =>
    exact h.execute fun t r a ht e => by cases r <;> cases e; rwa [State.readJob_state]
  case readInventory =>
    exact h.execute fun t r a ht e => by cases r <;> cases e; rwa [State.readInventory_state]
  case clearBlock =>
    exact h.execute fun t r a ht e => by cases r <;> cases e; exact ht.clearBlock
  case readResume =>
    exact h.execute fun t r a ht e => by cases r <;> cases e; rwa [State.readResume_state]
  case readCounters =>
    exact h.execute fun t r a ht e => by cases r <;> cases e; exact ht.readCounters
  case setNoticeMask =>
    exact h.execute fun t r a ht e => by cases r <;> cases e; exact ht
  case resetBay =>
    exact h.execute fun t r a ht e => by cases r <;> cases e; exact ht.resetBay
  -- time and expiries
  case secondEvent => exact .secondEvent h
  case holdLimitExpiry => exact h.detachSlot
  case openTimerExpiry => exact h.openExpiry
  case receiptTimeout => exact h.flightTimedOut
  case closeTimerExpiry => exact h.closeExpiry
  case activationFirstExpiry => exact h.firstExpiry
  case activationSecondExpiry => exact h.secondExpiry
  case switchTimerExpiry => exact h.switchFailed
  case switchFallbackExpiry => exact h.fallbackFailed
  case forcedPeriodEnd => exact h.forcedOver
  case capsResend => exact h.resendCaps
  case watchdogTwoPeriods => exact h.watchdogTwo
  case watchdogEightPeriods => exact h.watchdogEight
  case intakeTimerExpiry => exact h.intakeExpired
  case holdingTimerExpiry => exact h.holdingExpired
  -- bay links and the agent's frames
  case signalDetect => exact h.signalDetected
  case signalAtNewRate => exact .ite (.modBay h) h
  case signalAtFallbackRate => exact .ite (.modBay h) h
  case signalLost => exact h.signalGone
  case bayFrameError => exact h.badFrame
  case frameCutShort => exact .modBay h
  case agentCaps => exact h.takeCaps
  case hello => exact h.receive fun _ h => h.takeHello
  case heartbeat => exact h.receive fun _ h => h.takeHeartbeat
  case inventory => exact h.receiveIf fun _ h => h.takeInventory
  case openAck => exact h.receive fun _ h => h.takeOpenAck
  case receipt => exact h.receiveIf fun _ h => h.takeReceipt
  case closeResult => exact h.receiveIf fun _ h => h.takeCloseResult
  case unitReport => exact h.receive fun _ h => h.judgeReport
  case passUp => exact h.receiveIf fun _ h => h.takePassUp
  -- the bay transmitter
  case sendCaps => exact h.sendCaps
  case sendRetrain => exact h.sendRetrain
  case sendChannelOpen => exact h.sendChannelOpen
  case sendChannelClose => exact h.sendChannelClose
  case sendActivate => exact h.sendActivateFrame
  case sendRevert => exact h.sendRevert
  case sendInventoryRequest => exact h.sendInventoryRequest
  case sendBlock => exact h.sendBlock
  case sendPassDown => exact h.sendPassDown

end Bounds

/-- A step is an idle microsecond or a command, and either keeps the bounds. -/
theorem State.keepsBounds_of_step {s t : State} (e : step s = .next t) : s.keepsBounds t := by
  have start := State.keepsBounds.refl s
  unfold step at e
  split at e
  · cases e
    exact start.idle
  · next rest _ => exact State.keepsBounds.exec (s := { s with pending := rest }) start e

/-- Settles O5: the configuration alone decides the values' ranges, and no step takes it or a queue
out of bounds. -/
theorem boundsKept : Obligations.BoundsKept :=
  ⟨fun _ _ bounded e => (State.keepsBounds_of_step e).1 bounded,
    fun s t range e => t.configInRange_iff.mpr
      ((State.keepsBounds_of_step e).2 (s.configInRange_iff.mp range))⟩

end Sys2Proof.Machine

namespace Sys2Proof.Machine

/-! SUPPORT. The uplink port: what it receives, its link, and what it sends (08 R145 to R148,
R157 to R162, R164). -/

section Step
open Sys2Proof

/-- The reset state's notice queue is empty and its mask enables every kind. -/
theorem State.post_of_reset_notices {s : State} (n : Notice)
    (h : s.notices = State.reset.notices) :
    s.post n = { s with notices := { State.reset.notices with
      queue := [⟨s.clock.seconds, s.clock.valid, n⟩] } } := by
  have every : ∀ k : Fin 7, State.reset.notices.mask.getLsbD k.val = true := by decide
  have enabled : State.reset.notices.enabled n = true := every n.kind
  unfold State.post
  rw [h, if_pos enabled, if_pos (by decide)]
  rfl

/-- Settles O1: `step` runs the head of a queue that is not empty. -/
theorem stepTakesFront : Obligations.StepTakesFront := by
  unfold Obligations.StepTakesFront
  intro c rest s
  rfl

/-- Settles O6: the resume table is empty at reset, and the full mask lets BRIDGE START into the
empty notice queue. -/
theorem powerOnCompletes : Obligations.PowerOnCompletes := by
  unfold Obligations.PowerOnCompletes
  intro s straps
  have none_saved : State.reset.resumeOccupied = 0 := by decide
  have started : exec (.powerOnComplete straps) s = .next (({ State.reset with
      pending := s.pending, straps := straps, strapReads := s.strapReads,
      uplink := { State.reset.uplink with bridgeNumber := straps } } : State).post
        (.bridgeStart .powerOn straps false State.reset.resumeOccupied)) := rfl
  rw [started, none_saved]
  exact congrArg _ (State.post_of_reset_notices _ rfl)

end Step

/-! ## Receiving (08 R146 to R148, R160) -/

/-- The port receives with its link up and the reset pin not held. -/
theorem State.receiving_iff {s : State} :
    s.receiving = true ↔ s.uplink.up = true ∧ s.resetHeld = false := by
  simp [State.receiving]

/-- What becomes of a frame that passes the tests of check sequence, destination and type. -/
theorem judgeUplinkFrame_addressed {station : Address} {protocolType : Half} {f : EthFrame}
    (good : f.checkGood = true) (here : f.dest = station ∨ f.dest = BitVec.allOnes 48)
    (type : f.type = protocolType) :
    judgeUplinkFrame station protocolType f = match (byteAt f.body 0).toNat with
      | 0x01 => if blockFits f.body then .valid else .lengthError
      | 0x02 => .valid
      | 0x03 => if passDownFits f.body then .valid else .lengthError
      | _ => .unknownKind := by
  have passed : ¬ (f.dest ≠ station ∧ f.dest ≠ Config.broadcast) := fun h => here.elim h.1 h.2
  exact (if_neg (by simp [good])).trans ((if_neg passed).trans (if_neg (not_not_intro type)))

/-- Settles O9: the tests one by one, each with the earlier ones passed. -/
theorem uplinkRejectionsCounted : Obligations.UplinkRejectionsCounted := by
  unfold Obligations.UplinkRejectionsCounted
  intro s f up free
  have rejected : exec (.uplinkFrameRejected f) s = .next (s.rejectFrame f) := rfl
  rw [rejected]
  simp only [State.rejectFrame, State.receiving_iff.mpr ⟨up, free⟩, if_true]
  refine ⟨fun bad => ?_, fun good other notAll => ?_,
    fun good here => ⟨fun type => ?_, fun type => ?_⟩⟩
  · simp [judgeUplinkFrame, bad]
  · have notHere : f.dest ≠ s.station ∧ f.dest ≠ Config.broadcast := ⟨other, notAll⟩
    simp only [judgeUplinkFrame, good, if_pos notHere]
    rfl
  · have passed : ¬ (f.dest ≠ s.station ∧ f.dest ≠ Config.broadcast) := fun h => here.elim h.1 h.2
    simp only [judgeUplinkFrame, good, if_neg passed, if_pos type]
    rfl
  · rw [judgeUplinkFrame_addressed good here type]
    refine ⟨fun ⟨notBlock, notRequest, notDown⟩ => ?_, fun unfit => ?_⟩
    · have number {n : Nat} (small : n < 256) (h : byteAt f.body 0 ≠ BitVec.ofNat 8 n) :
          (byteAt f.body 0).toNat ≠ n := fun e =>
        h (BitVec.eq_of_toNat_eq (by rw [e, BitVec.toNat_ofNat, Nat.mod_eq_of_lt small]))
      have := number (by decide) notBlock
      have := number (by decide) notRequest
      have := number (by decide) notDown
      simp [*]
    · rcases unfit with ⟨kind, unfit⟩ | ⟨kind, unfit⟩ <;> simp [kind, unfit]

/-- The kind that a byte lists is the kind of the request read under it (10, request kinds). -/
theorem readRequest_of_argumentBytes {kind : Byte} {n : Nat} (h : argumentBytes kind = some n)
    (a : List Byte) : ∃ r : Request, r.kind = kind ∧ readRequest kind a = some r := by
  have byte {n : Nat} (h : kind.toNat = n) : kind = BitVec.ofNat 8 n := by
    rw [← h, BitVec.ofNat_toNat, BitVec.setWidth_eq]
  unfold argumentBytes at h
  split at h
  case h_22 => cases h
  all_goals
    next e =>
    cases byte e
    exact ⟨_, rfl, rfl⟩

/-- A PASS-DOWN whose body is within bounds reaches its bay's port. -/
theorem State.takePassDown_fits {s : State} {f : PassDownFrame} (receiving : s.receiving = true)
    (fits : bodyFits f.body = true) :
    s.takePassDown f = match idx 16 f.bay.toNat with
      | none => (s.count .validUplinkFrames).count .passDownNoBay
      | some b => (s.count .validUplinkFrames).queuePassDown b f.body :=
  (if_pos receiving).trans (if_pos fits)

/-- The bay states in which PASS-DOWN frames are queued (06 R126). -/
theorem BayState.takesPassDown_iff {x : BayState} :
    x.takesPassDown = true ↔ x = .intake ∨ x = .serving ∨ x = .holding ∨ x = .departing := by
  cases x <;> simp [BayState.takesPassDown]

/-- A PASS-DOWN given to a bay's port with room for it. -/
theorem State.queuePassDown_room {s : State} {b : BayId} (body : List Byte)
    (takes : (s.bay b).ctl.state.takesPassDown = true) (room : (s.bay b).port.passDown.length < 8) :
    s.queuePassDown b body = s.setBay b { s.bay b with port := { (s.bay b).port with
      passDown := (s.bay b).port.passDown ++ [body] } } :=
  (if_pos ⟨takes, room⟩).trans (State.modPort_eq ..)

/-- A PASS-DOWN that a bay's port does not take. -/
theorem State.queuePassDown_dropped {s : State} {b : BayId} (body : List Byte)
    (refuses : (s.bay b).ctl.state.takesPassDown = false ∨ 8 ≤ (s.bay b).port.passDown.length) :
    s.queuePassDown b body = s.setBay b ((s.bay b).counted .passDownDropped) := by
  have dropped : ¬ ((s.bay b).ctl.state.takesPassDown = true ∧
      (s.bay b).port.passDown.length < Config.passDownFrames) := fun ⟨takes, room⟩ =>
    refuses.elim (fun no => by simp [no] at takes) (Nat.not_le.mpr room)
  exact (if_neg dropped).trans (State.bump_eq ..)

/-- A PASS-UP handed over with room for it. -/
theorem State.takePassUp_room {s : State} (b : BayId) (body : List Byte)
    (room : s.uplink.passUps.length < 16) :
    s.takePassUp b body = { s with uplink := { s.uplink with
      passUps := s.uplink.passUps ++ [⟨b, (s.bay b).ctl.vehicle, body⟩] } } :=
  if_pos room

/-- A PASS-UP handed over with sixteen waiting. -/
theorem State.takePassUp_full {s : State} (b : BayId) (body : List Byte)
    (full : 16 ≤ s.uplink.passUps.length) :
    s.takePassUp b body = s.setBay b ((s.bay b).counted .passUpDropped) :=
  (if_neg (Nat.not_lt.mpr full)).trans (State.bump_eq ..)

/-- Settles O13: the two queues, each with room and without. -/
theorem passThroughQueued : Obligations.PassThroughQueued := by
  unfold Obligations.PassThroughQueued
  refine ⟨fun s f up free least most => ?_, fun s b body hears least most => ?_⟩
  · have taken : exec (.passDown f) s = .next (s.takePassDown f) := rfl
    have fits : bodyFits f.body = true := decide_eq_true ⟨least, most⟩
    rw [taken, State.takePassDown_fits (State.receiving_iff.mpr ⟨up, free⟩) fits]
    refine ⟨fun noBay => ?_, fun b here => ?_⟩
    · rw [idx_eq_none noBay]
    · rw [idx_eq_some here]
      refine ⟨fun takes room => ?_, fun refuses => ?_⟩
      · exact congrArg _ (State.queuePassDown_room _ (BayState.takesPassDown_iff.mpr takes) room)
      · refine congrArg _ (State.queuePassDown_dropped _ ?_)
        rw [State.count_bay]
        rcases refuses with e | e | e | full
        · exact .inl (by rw [e]; rfl)
        · exact .inl (by rw [e]; rfl)
        · exact .inl (by rw [e]; rfl)
        · exact .inr full
  · have fits : bodyFits body = true := decide_eq_true ⟨least, most⟩
    have taken : exec (.passUp b body) s =
        .next ((s.setBay b ((s.bay b).heard s.config.threshold)).takePassUp b body) :=
      congrArg Host.Outcome.next (State.receiveIf_hears (fun t => t.takePassUp b body) fits hears)
    rw [taken]
    refine ⟨fun room => ?_, fun full => ?_⟩
    · rw [State.takePassUp_room (s := s.setBay b ((s.bay b).heard s.config.threshold)) b body room,
        State.setBay_bay]
      rfl
    · rw [State.takePassUp_full (s := s.setBay b ((s.bay b).heard s.config.threshold)) b body full,
        State.setBay_bay, State.setBay_setBay]

/-! ## Requests on arrival (08 R147, R148) -/

/-- A response placed with room in the queue of a link that is UP. -/
theorem State.respond_room {s : State} (up : s.uplink.up = true)
    (room : s.uplink.responses.length < 8) (dest : Address) (kind : Byte) (tag : Half) (code : Code)
    (body : List Byte) :
    s.respond dest kind tag code body = { s with uplink := { s.uplink with
      responses := s.uplink.responses ++
        [⟨dest, s.config.protocolType, kind, tag, code, body⟩] } } :=
  if_pos ⟨up, room⟩

/-- The kind of a frame too short for one is 0. -/
theorem byteAt_zero (l : List Byte) :
    byteAt l 0 = match l with | [] => 0 | k :: _ => k := by
  cases l <;> rfl

/-- A request answered at arrival with room for the response. -/
theorem State.answerAtArrival_room {s : State} (up : s.uplink.up = true)
    (room : s.uplink.responses.length < 8) (src : Address) (kind : Byte) (tag : Half) (code : Code)
    (c : BridgeCounter) :
    s.answerAtArrival src kind tag code c = { s with
      uplink := { s.uplink with
        responses := s.uplink.responses ++ [⟨src, s.config.protocolType, kind, tag, code, []⟩] },
      counters := s.counters.modify c.index satInc } := by
  rw [State.answerAtArrival, State.respond_room up room]
  rfl

section Judged
variable {s : State} {f : RequestFrame}

theorem State.judgeRequest_short (short : f.length.toNat < 4 ∨ f.bytes.length < f.length.toNat) :
    s.judgeRequest f =
      s.answerAtArrival f.src (RequestFrame.kindOf f) 0 .malformed .answeredMalformed :=
  if_pos short

variable (whole : 4 ≤ f.length.toNat ∧ f.length.toNat ≤ f.bytes.length)
include whole

theorem State.judgeRequest_unknown
    (unknown : argumentBytes (byteAt f.bytes 0) ≠ some (f.length.toNat - 4)) :
    s.judgeRequest f =
      s.answerAtArrival f.src (byteAt f.bytes 0) (halfAt f.bytes 2) .malformed
        .answeredMalformed := by
  obtain ⟨least, whole⟩ := whole
  refine (if_neg (by omega)).trans (if_pos ?_)
  rwa [List.length_drop, List.length_take, min_eq_left whole]

variable (known : argumentBytes (byteAt f.bytes 0) = some (f.length.toNat - 4))
include known

/-- A request that passes the two length tests waits, or is refused for want of a place. -/
theorem State.judgeRequest_known :
    s.judgeRequest f =
      if Config.requests ≤ s.mgmt.queue.length then
        s.answerAtArrival f.src (byteAt f.bytes 0) (halfAt f.bytes 2) .busy .answeredBusy
      else match readRequest (byteAt f.bytes 0) ((f.bytes.take f.length.toNat).drop 4) with
        | none =>
          s.answerAtArrival f.src (byteAt f.bytes 0) (halfAt f.bytes 2) .malformed
            .answeredMalformed
        | some r => ({ s with mgmt := { s.mgmt with
            queue := s.mgmt.queue ++ [⟨f.src, halfAt f.bytes 2, r⟩] } } : State).count
              .requestsReceived := by
  obtain ⟨least, whole⟩ := whole
  refine (if_neg (by omega)).trans (if_neg ?_)
  rw [List.length_drop, List.length_take, min_eq_left whole]
  exact not_not_intro known

end Judged

/-- Settles O12: the judgements of 08 R148 in their order. -/
theorem requestJudged : Obligations.RequestJudged := by
  unfold Obligations.RequestJudged
  intro s f up free
  generalize hu : ({ s.count .validUplinkFrames with
    uplink := { s.uplink with server := some f.src } } : State) = u
  have taken : exec (.requestArrival f) s = .next (u.judgeRequest f) :=
    congrArg Host.Outcome.next
      ((if_pos (State.receiving_iff.mpr ⟨up, free⟩)).trans (by rw [← hu]; rfl))
  have answered (place : s.uplink.responses.length < 8) :=
    State.answerAtArrival_room (s := u) (by rw [← hu]; exact up) (by rw [← hu]; exact place) f.src
  rw [taken]
  refine ⟨fun whole known => ⟨fun room => ?_, fun full place => ?_⟩,
    fun whole unknown place => ?_, fun short place => ?_⟩
  · obtain ⟨r, kind, read⟩ :=
      readRequest_of_argumentBytes known ((f.bytes.take f.length.toNat).drop 4)
    refine ⟨r, kind, read, ?_⟩
    have waits : ¬ Config.requests ≤ u.mgmt.queue.length := by
      rw [← hu]
      exact Nat.not_le.mpr room
    rw [State.judgeRequest_known whole known, if_neg waits, read, ← hu]
    rfl
  · have busy : Config.requests ≤ u.mgmt.queue.length := by
      rw [← hu]
      exact full
    rw [State.judgeRequest_known whole known, if_pos busy, answered place, ← hu]
    rfl
  · rw [State.judgeRequest_unknown whole unknown, answered place, ← hu]
    rfl
  · rw [State.judgeRequest_short short, answered place, RequestFrame.kindOf, byteAt_zero, ← hu]
    rfl

/-! ## Sending (08 R147, R157, R159) -/

section Sending
variable {s : State} (receiving : s.receiving = true)
include receiving

/-- With responses waiting the oldest goes first. -/
theorem State.uplinkChoice_response {r : Response} {rest : List Response}
    (waits : s.uplink.responses = r :: rest) : s.uplinkChoice = some (.response r rest) := by
  simp [State.uplinkChoice, receiving, waits]

variable {a : Address} (quiet : s.uplink.responses = []) (known : s.uplink.server = some a)
include quiet known

theorem State.uplinkChoice_notice {n : PostedNotice} {rest : List PostedNotice}
    (waits : s.notices.queue = n :: rest) : s.uplinkChoice = some (.notice a n rest) := by
  simp [State.uplinkChoice, receiving, quiet, known, waits]

variable (noNotice : s.notices.queue = [])
include noNotice

theorem State.uplinkChoice_status {st : StreamId} {rest : List StreamId}
    (waits : s.due = st :: rest) : s.uplinkChoice = some (.status a st rest) := by
  simp [State.uplinkChoice, receiving, quiet, known, noNotice, waits]

theorem State.uplinkChoice_passUp {f : PassUp} {rest : List PassUp} (noStatus : s.due = [])
    (waits : s.uplink.passUps = f :: rest) : s.uplinkChoice = some (.passUp a f rest) := by
  simp [State.uplinkChoice, receiving, quiet, known, noNotice, noStatus, waits]

end Sending

/-- Settles O14: each sending follows from the port's choice. -/
theorem uplinkFramesSent : Obligations.UplinkFramesSent := by
  unfold Obligations.UplinkFramesSent
  intro s up free
  have receiving := State.receiving_iff.mpr ⟨up, free⟩
  refine ⟨fun r rest waits running => ?_, fun a quiet known => ?_⟩
  · have sent : exec .sendResponse s = .next s.sendResponse := rfl
    rw [sent, State.sendResponse, State.uplinkChoice_response receiving waits]
    simp only [running, Bool.false_and]
    rfl
  · refine ⟨fun n rest waits => ?_, fun noNotice =>
      ⟨fun st rest waits => ?_, fun f rest noStatus waits => ?_⟩⟩
    · have sent : exec .sendNotice s = .next s.sendNotice := rfl
      rw [sent, State.sendNotice, State.uplinkChoice_notice receiving quiet known waits]
      rfl
    · have sent : exec .sendStreamStatus s = .next s.sendStreamStatus := rfl
      rw [sent, State.sendStreamStatus,
        State.uplinkChoice_status receiving quiet known noNotice waits]
      rfl
    · have sent : exec .sendPassUp s = .next s.sendPassUp := rfl
      rw [sent, State.sendPassUp,
        State.uplinkChoice_passUp receiving quiet known noNotice noStatus waits]
      simp only [State.bump_eq]
      rfl

/-! ## The link (08 R162) -/

/-- Discarding responses counts each. -/
theorem State.discardResponses (s : State) (l : List Response) :
    l.foldl (fun t _ => t.discardResponse) s = { s with
      counters := s.counters.modify BridgeCounter.responsesDiscarded.index
        (Nat.repeat satInc l.length) } := by
  induction l generalizing s with
  | nil => simp only [List.foldl_nil, List.length_nil, Table.modify, Nat.repeat, Table.set_get_self]
  | cons r l ih =>
    rw [List.foldl_cons, ih, State.discardResponse]
    simp only [State.count, Table.modify_modify, repeat_satInc]
    rfl

/-- The bridge-wide counters after a link loss (08 R162). -/
def State.countersAtLoss (s : State) : Table 22 Word :=
  ((match s.uplink.line with
    | none => s.counters
    | some _ => s.counters.modify BridgeCounter.framesCutAtLoss.index satInc).modify
      BridgeCounter.responsesDiscarded.index (Nat.repeat satInc s.uplink.responses.length)).modify
        BridgeCounter.linkLosses.index satInc

/-- A state whose uplink link has just been lost, before a reset that the loss may begin
(08 R162). -/
def State.linkLost (s : State) : State :=
  { s with
    uplink := { s.uplink with physical := false, up := false, line := none, responses := [] },
    counters := s.countersAtLoss }

/-- The loss of the link begins the reset of a halted management unit (08 R162, R163). -/
theorem State.linkDown_lost {s : State} (free : s.resetHeld = false) (up : s.uplink.up = true) :
    s.linkDown = if s.mgmt.halted then s.linkLost.resetByRequest else s.linkLost := by
  have judged : ¬ (s.resetHeld || !s.uplink.up) = true := by simp [free, up]
  unfold State.linkDown
  simp only [if_neg judged, State.discardResponses]
  unfold State.linkLost State.countersAtLoss
  cases s.uplink.line <;> rfl

theorem State.linkLost_counters (s : State) :
    s.linkLost.bridgeCounter .linkLosses = satInc (s.bridgeCounter .linkLosses) ∧
      s.linkLost.bridgeCounter .responsesDiscarded =
        Nat.repeat satInc s.uplink.responses.length (s.bridgeCounter .responsesDiscarded) ∧
      s.linkLost.bridgeCounter .framesCutAtLoss =
        if s.uplink.line.isSome then satInc (s.bridgeCounter .framesCutAtLoss)
          else s.bridgeCounter .framesCutAtLoss := by
  have losses : BridgeCounter.linkLosses.index ≠ BridgeCounter.responsesDiscarded.index ∧
      BridgeCounter.linkLosses.index ≠ BridgeCounter.framesCutAtLoss.index ∧
      BridgeCounter.responsesDiscarded.index ≠ BridgeCounter.framesCutAtLoss.index := by decide
  obtain ⟨h, h', h''⟩ := losses
  unfold State.linkLost State.countersAtLoss State.bridgeCounter
  cases s.uplink.line <;>
    simp [h, h', h'', h.symm, h'.symm, h''.symm]

theorem State.mem_makeDueAll {s : State} {l : List StreamId} {st : StreamId} :
    st ∈ (l.foldl State.makeDue s).due ↔ st ∈ s.due ∨ st ∈ l := by
  induction l generalizing s with
  | nil => simp
  | cons x l ih => rw [List.foldl_cons, ih, State.mem_makeDue, List.mem_cons, or_assoc]

/-- Settles O8: the link up, up again, and down. -/
theorem uplinkLink : Obligations.UplinkLink := by
  unfold Obligations.UplinkLink
  intro s free
  have brought : exec .uplinkLinkUp s = .next s.linkUp := rfl
  refine ⟨fun down first => ?_, fun down before => ?_, fun up running => ?_⟩
  · rw [brought]
    simp [State.linkUp, free, down, first]
  · generalize hu : ({ s with uplink := { s.uplink with
      physical := true, up := true } } : State) = u
    have recovered : s.linkUp =
        (allStreams.filter fun st => (s.stream st).isOpen).foldl State.makeDue
          (u.postStart true) := by
      simp only [State.linkUp, free, down, before, ← hu]
      rfl
    have keeps {β : Type} (g : State → β) (h : ∀ t st, g (t.makeDue st) = g t) :
        g s.linkUp = g (u.postStart true) := by
      rw [recovered]
      exact foldl_keeps g _ h _ _
    have posted (n : Notice) : (u.post n).notices = (s.post n).notices :=
      State.posts_notices (by rw [← hu]) (by rw [← hu]) [n]
    refine ⟨s.linkUp, brought, ?_, ?_, fun st => ?_, ?_⟩
    · rw [keeps (·.uplink) State.makeDue_uplink, State.postStart, State.post_uplink, ← hu]
    · rw [keeps (·.notices) State.makeDue_notices, State.postStart, posted, ← hu]
      rfl
    · rw [recovered, State.mem_makeDueAll, State.postStart, State.post_due, ← hu]
      simp [allStreams]
    · have frame := keeps (fun t => { t with
        uplink := s.uplink, notices := s.notices, due := s.due, counters := s.counters })
        fun t st => by
          unfold State.makeDue
          split <;> rfl
      refine frame.trans ?_
      rw [← hu]
      unfold State.postStart State.post
      split
      · split <;> rfl
      · rfl
  · obtain ⟨losses, discarded, cut⟩ := s.linkLost_counters
    refine ⟨s.linkLost, ?_, rfl, losses, discarded, cut, rfl⟩
    exact congrArg Host.Outcome.next
      ((State.linkDown_lost free up).trans (if_neg (by simp [running])))

end Sys2Proof.Machine

namespace Sys2Proof.Machine

/-! SUPPORT. CLEAR BLOCK, READ COUNTERS and SET NOTICE MASK (01 R23, 08 R154, R155). -/

/-- The faces of a bay's records once a unit is no longer blocked. -/
theorem State.clearBlock_faces (s : State) (b : BayId) (u : UnitAddr) :
    (((s.modUnit b u fun r => { r with blocked := false }).build b).bay b).inventory.map
        UnitRecord.face =
      (s.bay b).inventory.map fun k => (k.unit, k.cls, k.revision, k.running, k.standby,
        if k.unit = u then false else k.blocked) := by
  have faces := congrArg Ledger.faces
    ((s.modUnit b u fun r => { r with blocked := false }).build_ledger b b)
  simp only [Bay.ledger] at faces
  rw [faces, State.modUnit_eq, State.modBay_eq, State.setBay_bay, List.map_map]
  refine List.map_congr_left fun k _ => ?_
  simp only [Function.comp_apply]
  split <;> rfl

section Served
variable {s : State} {q : QueuedRequest} {rest : List QueuedRequest} (h : s.serves q rest)
include h

/-- CLEAR BLOCK of a unit that the bay holds. -/
theorem exec_clearBlock {x y : Byte} {b : BayId} {u : UnitAddr} {r : UnitRecord}
    (hq : q.request = .clearBlock x y) (hx : x.toNat = b.val) (hy : y.toNat = u.val)
    (held : (s.bay b).unit? u = some r) :
    exec .clearBlock s = .next ((((s.taken rest).modUnit b u fun r =>
      { r with blocked := false }).build b).replied q .done []) := by
  have handled : handleClearBlock (s.taken rest) q.request = some
      ((((s.taken rest).modUnit b u fun r => { r with blocked := false }).build b).done []) := by
    have held' : ((s.taken rest).bay b).unit? u = some r := held
    simp only [hq, handleClearBlock, State.clearBlock, idx_eq_some hx, idx_eq_some hy, held']
  refine congrArg Host.Outcome.next (State.execute_done h handled ?_)
  obtain ⟨-, -, -, -, uplink, -⟩ := State.fields_of_jobFrame (State.jobFrame_of_builderFrame
    (((s.taken rest).modUnit b u fun r => { r with blocked := false }).build_builderFrame b))
  exact uplink

/-- READ COUNTERS of a group and number that exist. -/
theorem exec_readCounters {group number clear : Byte} {t : State} {body : List Byte}
    (hq : q.request = .readCounters group number clear)
    (read : (s.taken rest).readCounters group number clear = t.done body)
    (uplink : t.uplink = s.uplink) :
    exec .readCounters s = .next (t.replied q .done body) := by
  refine congrArg Host.Outcome.next (State.execute_done h ?_ uplink)
  rw [hq]
  exact congrArg some read

end Served

/-- Settles O21: the cleared unit keeps its face through the builder run, and the groups of counters
one by one. -/
theorem blockCountersAndMask : Obligations.BlockCountersAndMask := by
  unfold Obligations.BlockCountersAndMask
  intro s q rest h
  refine ⟨fun x y b u r hq hx hy held => ?clear, fun group number clear hq =>
    ⟨fun b hg hn => ?bay, fun st hg hn => ?stream, fun hg => ?bridge, fun hg hn => ?noSuch,
      fun hg => ?noGroup⟩, fun mask hq => ?mask⟩
  case clear =>
    refine ⟨_, exec_clearBlock h hq hx hy held, (s.taken rest).clearBlock_faces b u,
      fun a ha => ?_, ?_⟩
    · rw [State.build_bay_ne _ ha, State.modUnit_eq, State.modBay_eq,
        State.setBay_bay_ne _ _ (Ne.symm ha)]
      rfl
    · have frame {α : Type} (g : State → α) := congrArg g
        (((s.taken rest).modUnit b u fun r => { r with blocked := false }).build_builderFrame b)
      exact ⟨frame State.streams, frame State.pool, frame State.uplink, frame State.mgmt,
        ⟨frame State.config, frame State.manifest, frame State.departures, frame State.straps,
          frame State.strapReads, frame State.resetCause, frame State.resetHeld⟩,
        frame State.clock⟩
  case bay =>
    refine exec_readCounters h hq ?_ (by split <;> rfl)
    subst hg
    simp only [State.readCounters, idx_eq_some hn, State.modBay_eq]
    rfl
  case stream =>
    refine exec_readCounters h hq ?_ (by split <;> rfl)
    subst hg
    simp only [State.readCounters, idx_eq_some hn]
    rfl
  case bridge =>
    refine exec_readCounters h hq ?_ (by split <;> rfl)
    subst hg
    rfl
  case noSuch =>
    refine congrArg _ (State.execute_refused h ?_ (by decide))
    rcases hg with hg | hg
    · simp only [hq, hg, handleReadCounters, State.readCounters, idx_eq_none hn]
      rfl
    · simp only [hq, hg, handleReadCounters, State.readCounters, idx_eq_none hn]
      rfl
  case noGroup =>
    refine congrArg _ (State.execute_malformed h ?_)
    rw [hq]
    refine congrArg some ?_
    unfold State.readCounters
    dsimp only
    split
    · omega
    · omega
    · omega
    · rfl
  case mask =>
    refine congrArg Host.Outcome.next (State.execute_done h ?_ rfl)
    rw [hq]
    rfl

end Sys2Proof.Machine

namespace Sys2Proof.Machine

/-! SUPPORT. The bridge reset, by the pin and by RESET BRIDGE (08 R163, R164, 07 R140, R141). -/

/-! ## The records that a reset writes (07 R140, R141) -/

/-- A bay that holds a vehicle gives up its blocks, and its resume records are written (07 R140). -/
def State.saveBay (s : State) (b : BayId) : State :=
  if (s.bay b).ctl.vehicle.isSome then (s.giveUpBlocks b).writeResumes b false else s

theorem State.saveJobs_eq (s : State) : s.saveJobs = allBays.foldl State.saveBay s := rfl

/-- A reset's records are not counted in the bay: writing them changes no bay. -/
theorem State.writeResumes_uncounted (s : State) (b : BayId) :
    (s.writeResumes b false).bays = s.bays ∧
      (s.writeResumes b false).teardownFrame = s.teardownFrame := by
  unfold State.writeResumes
  split
  · exact ⟨rfl, rfl⟩
  · exact ⟨foldl_keeps State.bays _ (fun t pj => by simp [State.bumpIf]) _ s,
      foldl_keeps State.teardownFrame _ (fun t pj =>
        State.teardownFrame_of_builderFrame (by simp [State.bumpIf])) _ s⟩

section
variable (s : State) (b : BayId)

theorem State.saveBay_resume :
    (s.saveBay b).resume = (s.savedRecords b).foldl ResumeTable.written s.resume := by
  unfold State.saveBay
  split
  · obtain ⟨-, -, -, frame⟩ := s.giveUpBlocks_spec b
    obtain ⟨-, -, -, resume, -⟩ := State.fields_of_blockFrame frame
    rw [State.writeResumes_records, State.giveUpBlocks_records, resume]
  · next none =>
    rw [Option.not_isSome_iff_eq_none] at none
    rw [State.savedRecords, none]
    rfl

theorem State.saveBay_teardownFrame : (s.saveBay b).teardownFrame = s.teardownFrame := by
  unfold State.saveBay
  split
  · obtain ⟨-, -, -, frame⟩ := s.giveUpBlocks_spec b
    obtain ⟨-, written⟩ := (s.giveUpBlocks b).writeResumes_uncounted b
    exact written.trans (State.teardownFrame_of_blockFrame frame)
  · rfl

theorem State.saveBay_bay_ne {a : BayId} (h : a ≠ b) : (s.saveBay b).bay a = s.bay a := by
  unfold State.saveBay
  split
  · obtain ⟨bays, -⟩ := (s.giveUpBlocks b).writeResumes_uncounted b
    rw [State.bay, bays]
    exact s.giveUpBlocks_bay_ne h
  · rfl

theorem State.saveBay_port (a : BayId) : ((s.saveBay b).bay a).port = (s.bay a).port := by
  by_cases h : a = b
  · subst h
    unfold State.saveBay
    split
    · obtain ⟨bays, -⟩ := (s.giveUpBlocks a).writeResumes_uncounted a
      obtain ⟨shed, -⟩ := s.giveUpBlocks_spec a
      obtain ⟨port, -⟩ := shed.fields
      rw [State.bay, bays]
      exact port
    · rfl
  · rw [s.saveBay_bay_ne b h]

end

/-- The bays save their records one after another, none touching what another will save. -/
theorem State.saveBays_resume {l : List BayId} (distinct : l.Nodup) (s : State) :
    (l.foldl State.saveBay s).resume =
      (l.flatMap s.savedRecords).foldl ResumeTable.written s.resume := by
  induction l generalizing s with
  | nil => rfl
  | cons b l ih =>
    obtain ⟨fresh, distinct⟩ := List.nodup_cons.mp distinct
    obtain ⟨-, -, -, -, clock⟩ := State.fields_of_teardownFrame (s.saveBay_teardownFrame b)
    have others (a : BayId) (ha : a ∈ l) : (s.saveBay b).savedRecords a = s.savedRecords a := by
      have same := s.saveBay_bay_ne b (ne_of_mem_of_not_mem ha fresh)
      exact State.savedRecords_congr clock (by rw [same]) (by rw [same]) (by rw [same])
        (by rw [same])
    rw [List.foldl_cons, ih distinct, List.flatMap_congr others, s.saveBay_resume,
      List.flatMap_cons, List.foldl_append]

/-- What saving the jobs of every bay leaves: the records in the table, the ports, and all that a
teardown leaves. -/
theorem State.saveJobs_spec (s : State) :
    s.saveJobs.resume = (allBays.flatMap s.savedRecords).foldl ResumeTable.written s.resume ∧
      (∀ b, (s.saveJobs.bay b).port = (s.bay b).port) ∧
      s.saveJobs.teardownFrame = s.teardownFrame :=
  ⟨State.saveBays_resume (List.nodup_finRange 16) s,
    fun b => foldl_keeps (fun t : State => (t.bay b).port) _ (fun t a => t.saveBay_port a b) _ s,
    foldl_keeps State.teardownFrame _ State.saveBay_teardownFrame _ s⟩

/-! ## The reset pin (08 R164) -/

theorem State.clear_bay (s : State) (b : BayId) : s.clear.bay b = (s.bay b).resetTo none :=
  Table.get_map ..

/-- Settles O7: the jobs are saved, and then the power-on values are set. -/
theorem resetPin : Obligations.ResetPin := by
  unfold Obligations.ResetPin
  refine fun s => ⟨fun free => ?_, fun straps held => ?_⟩
  · obtain ⟨resume, port, frame⟩ := s.saveJobs_spec
    obtain ⟨-, -, uplink, -, clock⟩ := State.fields_of_teardownFrame frame
    have asserted : exec .resetPinAsserted s = .next { s.saveJobs.clear with
        resetHeld := true, uplink := { s.saveJobs.clear.uplink with line := none } } :=
      congrArg Host.Outcome.next (if_neg (by simp [free]))
    rw [asserted]
    generalize s.saveJobs = u at *
    refine ⟨_, rfl, fun b => ?_, rfl, ?_, rfl, rfl, rfl, rfl, rfl, rfl, rfl, rfl, rfl, rfl, rfl,
      rfl, rfl, ?_, ?_, resume⟩
    · refine (u.clear_bay b).trans ?_
      rw [Bay.resetTo, port]
      rfl
    · exact congrArg (fun c : Clock => { c with usec := 0 }) clock
    · have kept : u.uplink.up = s.uplink.up := by rw [uplink]
      exact kept
    · have kept : u.uplink.physical = s.uplink.physical := by rw [uplink]
      exact kept
  · exact congrArg Host.Outcome.next (if_pos held)

/-! ## RESET BRIDGE (08 R163) -/

/-- What a reset by RESET BRIDGE reads of the state in which it begins. -/
structure State.resetsAs (s v : State) (up : Bool) (line : Option UplinkFrame) : Prop where
  pending : v.pending = s.pending
  clock : v.clock = s.clock
  strapReads : v.strapReads = s.strapReads
  resume : v.resume = s.resume
  bays : v.bays = s.bays
  physical : v.uplink.physical = up
  line : v.uplink.line = line

theorem State.resetsAs.savedRecords {s v : State} {up : Bool} {line : Option UplinkFrame}
    (h : s.resetsAs v up line) : v.savedRecords = s.savedRecords := by
  funext b
  have same : v.bay b = s.bay b := by rw [State.bay, h.bays, State.bay]
  exact State.savedRecords_congr h.clock (by rw [same]) (by rw [same]) (by rw [same]) (by rw [same])

/-- A reset by RESET BRIDGE, written out: the jobs saved, the power-on values, and what its
completion sets (08 R163, R164). -/
theorem State.resetByRequest_eq (v : State) :
    v.resetByRequest = { v.saveJobs.clear with
      resetHeld := false, resetCause := .request, straps := Config.strapPins v.strapReads,
      strapReads := v.strapReads + 1,
      uplink := { v.saveJobs.clear.uplink with
        up := v.saveJobs.uplink.physical, beenUp := v.saveJobs.uplink.physical,
        bridgeNumber := Config.strapPins v.strapReads },
      bays := v.saveJobs.clear.bays.map fun x =>
        x.resetTo (some ⟨v.saveJobs.clock.ticks, 100⟩),
      notices := { State.reset.notices with
        queue := [⟨v.saveJobs.clock.seconds, v.saveJobs.clock.valid,
          .bridgeStart .request (Config.strapPins v.strapReads) false
            v.saveJobs.resumeOccupied⟩] } } := by
  rw [State.resetByRequest, State.beginReset]
  generalize v.saveJobs = u
  unfold State.completeReset State.postStart
  rw [State.post_of_reset_notices]
  · rfl
  · rfl

/-- RESET BRIDGE of a served request only halts the management unit. -/
theorem State.execute_resetBridge {s : State} {q : QueuedRequest} {rest : List QueuedRequest}
    (h : s.serves q rest) (hq : q.request = .resetBridge) :
    s.execute handleResetBridge = ({ s.taken rest with
      mgmt := { queue := rest, halted := true } } : State).replied q .done [] :=
  State.execute_done h (by rw [hq]; rfl) rfl

/-- The reset begins at the request's execution when its response finds the link DOWN. -/
theorem exec_resetBridge_eq (s : State) :
    exec .resetBridge s = (let t := s.execute handleResetBridge
      if t.mgmt.halted && !s.mgmt.halted && !s.uplink.up then .next t.resetByRequest
      else .next t) :=
  rfl

/-- With the link DOWN the response is discarded and the reset begins at once. -/
theorem exec_resetBridge_down {s : State} {q : QueuedRequest} {rest : List QueuedRequest}
    (h : s.serves q rest) (hq : q.request = .resetBridge) (down : s.uplink.up = false) :
    exec .resetBridge s = .next (State.resetByRequest { s with
      mgmt := { queue := rest, halted := true },
      counters := s.counters.modify BridgeCounter.responsesDiscarded.index satInc }) := by
  have placed : s.execute handleResetBridge = { s with
      mgmt := { queue := rest, halted := true },
      counters := s.counters.modify BridgeCounter.responsesDiscarded.index satInc } :=
    (State.execute_resetBridge h hq).trans (if_neg (Bool.eq_false_iff.mp down))
  obtain ⟨-, running, -⟩ := h
  rw [exec_resetBridge_eq, placed]
  simp [running, down]

/-- The response that halted the management unit, once it is built, begins the reset. -/
theorem exec_sendResponse_reset {s : State} {r : Response} {rest : List Response}
    (receiving : s.receiving = true) (waits : s.uplink.responses = r :: rest)
    (halted : s.mgmt.halted = true) (kind : r.kind = 0x15) (code : r.code = .done) :
    exec .sendResponse s = .next (State.resetByRequest { s with
      uplink := { s.uplink with
        responses := rest,
        line := some ⟨r.dest, s.station, r.protocolType, .response r.kind r.tag r.code r.body⟩ },
      counters := s.counters.modify BridgeCounter.responsesSent.index satInc }) := by
  have starts : r.startsReset = true := by simp [Response.startsReset, kind, code, Request.kind]
  have sent : exec .sendResponse s = .next s.sendResponse := rfl
  rw [sent, State.sendResponse, State.uplinkChoice_response receiving waits]
  simp only [halted, starts, Bool.and_self, if_true]
  rfl

theorem State.pending_of_teardownFrame {s t : State} (h : t.teardownFrame = s.teardownFrame) :
    t.pending = s.pending := by
  have keep {α : Type} (g : State → α) : g t.teardownFrame = g s.teardownFrame := congrArg g h
  exact keep State.pending

/-- The three beginnings of a reset by RESET BRIDGE (08 R163). -/
theorem State.reset_begins {s : State} {i : Instr} {up : Bool} {line : Option UplinkFrame}
    (begins : (i = .resetBridge ∧ up = false ∧ s.uplink.up = false ∧ s.uplink.physical = false ∧
        line = s.uplink.line ∧
        ∃ (q : QueuedRequest) (rest : List QueuedRequest), s.serves q rest ∧
          q.request = .resetBridge) ∨
      (i = .sendResponse ∧ up = true ∧ s.uplink.up = true ∧ s.uplink.physical = true ∧
        s.resetHeld = false ∧
        s.mgmt.halted = true ∧
        ∃ (r : Response) (rest : List Response), s.uplink.responses = r :: rest ∧ r.kind = 0x15 ∧
          r.code = .done ∧
          line = some ⟨r.dest, s.station, r.protocolType, .response r.kind r.tag r.code r.body⟩) ∨
      (i = .uplinkLinkDown ∧ up = false ∧ s.uplink.up = true ∧ s.resetHeld = false ∧
        s.mgmt.halted = true ∧
        line = none)) :
    ∃ v, exec i s = .next v.resetByRequest ∧ s.resetsAs v up line := by
  rcases begins with ⟨rfl, rfl, down, unplugged, rfl, q, rest, h, hq⟩ |
    ⟨rfl, rfl, isUp, plugged, free, halted, r, rest, waits, kind, code, rfl⟩ |
    ⟨rfl, rfl, isUp, free, halted, rfl⟩
  · exact ⟨_, exec_resetBridge_down h hq down, rfl, rfl, rfl, rfl, rfl, unplugged, rfl⟩
  · exact ⟨_, exec_sendResponse_reset (State.receiving_iff.mpr ⟨isUp, free⟩) waits halted kind code,
      rfl, rfl, rfl, rfl, rfl, plugged, rfl⟩
  · have lost : exec .uplinkLinkDown s = .next s.linkLost.resetByRequest :=
      congrArg Host.Outcome.next ((State.linkDown_lost free isUp).trans (if_pos halted))
    exact ⟨_, lost, rfl, rfl, rfl, rfl, rfl, rfl, rfl⟩

/-- Settles O23: wherever the reset begins, what it reads of the state is as it was. -/
theorem bridgeResetByRequest : Obligations.BridgeResetByRequest := by
  unfold Obligations.BridgeResetByRequest
  refine ⟨fun s q rest h hq up => ?_, fun s i up line begins => ?_⟩
  · rw [exec_resetBridge_eq, State.execute_resetBridge h hq]
    simp [up]
  · obtain ⟨v, ran, same⟩ := State.reset_begins begins
    obtain ⟨resume, port, frame⟩ := v.saveJobs_spec
    obtain ⟨-, -, uplink, -, clock⟩ := State.fields_of_teardownFrame frame
    have pending := State.pending_of_teardownFrame frame
    rw [same.resume, same.savedRecords] at resume
    rw [same.clock] at clock
    rw [same.pending] at pending
    rw [ran, State.resetByRequest_eq, same.strapReads]
    generalize v.saveJobs = u at *
    refine ⟨_, rfl, ?_, ?_, pending, rfl, rfl, rfl, rfl, rfl, ?_, rfl, rfl, rfl, rfl, rfl, rfl, rfl,
      rfl, rfl, rfl, resume, ?_, fun b => ?_⟩
    · exact (congrArg Uplink.line uplink).trans same.line
    · exact (congrArg Uplink.physical uplink).trans same.physical
    · exact congrArg (fun c : Clock => { c with usec := 0 }) clock
    · rw [clock]
      rfl
    · refine (Table.get_map _ u.clear.bays b).trans ?_
      have cleared : u.clear.bays.get b = (u.bay b).resetTo none := u.clear_bay b
      have level : (s.bay b).port.signal = (u.bay b).port.signal := by
        rw [port, State.bay, ← same.bays, State.bay]
      rw [cleared, clock, level]
      rfl

end Sys2Proof.Machine

namespace Sys2Proof.Machine

/-! SUPPORT. The grants of the arbiter (02 R39, R40): which stream it picks, what the grants
together leave of each stream, and when they end; and WRITE CONFIG (08 R151). -/

/-! ## The stream picked -/

/-- A stream comes before another in the arbiter's order: its effective priority number is lower, or
equal with a lower stream number (02 R40). -/
def State.before (s : State) (x y : StreamId) : Prop :=
  s.priority x < s.priority y ∨ (s.priority x = s.priority y ∧ x < y)

/-- A walk over ascending streams that keeps the first of the least finds one unless there is
none. -/
theorem foldl_first (key : StreamId → Nat) (pick : Option StreamId → StreamId → Option StreamId)
    (first : ∀ c, pick none c = some c)
    (next : ∀ a c, pick (some a) c = if key c < key a then some c else some a)
    (l : List StreamId) (acc : Option StreamId) (sorted : (acc.toList ++ l).Pairwise (· < ·)) :
    (l.foldl pick acc = none → acc.toList ++ l = []) ∧
      ∀ a, l.foldl pick acc = some a → ∀ c ∈ acc.toList ++ l,
        c = a ∨ key a < key c ∨ (key a = key c ∧ a < c) := by
  induction l generalizing acc with
  | nil => cases acc <;> simp
  | cons c l ih =>
    rw [List.foldl_cons]
    cases acc with
    | none => simpa [first] using ih (some c) sorted
    | some d =>
      simp only [Option.toList_some, List.singleton_append, List.pairwise_cons] at sorted
      obtain ⟨below, later, sorted⟩ := sorted
      have lower := below c List.mem_cons_self
      rw [next]
      split
      · next less =>
        obtain ⟨-, found⟩ := ih (some c) (by simpa using ⟨later, sorted⟩)
        refine ⟨fun h => by simpa using (ih (some c) (by simpa using ⟨later, sorted⟩)).1 h,
          fun a ha x hx => ?_⟩
        have least := found a ha
        simp only [Option.toList_some, List.singleton_append, List.mem_cons] at least hx
        have here := least c (.inl rfl)
        rcases hx with rfl | hx
        · rcases here with rfl | here | here <;> omega
        · exact least x hx
      · next kept =>
        have tail : (d :: l).Pairwise (· < ·) :=
          List.pairwise_cons.mpr ⟨fun x hx => below x (List.mem_cons_of_mem _ hx), sorted⟩
        obtain ⟨-, found⟩ := ih (some d) tail
        refine ⟨fun h => by simpa using (ih (some d) tail).1 h, fun a ha x hx => ?_⟩
        have least := found a ha
        simp only [Option.toList_some, List.singleton_append, List.mem_cons] at least hx
        have here := least d (.inl rfl)
        rcases hx with rfl | rfl | hx
        · exact here
        · refine .inr ?_
          rcases here with rfl | here | ⟨here, earlier⟩
          · exact (Nat.lt_or_eq_of_le (Nat.le_of_not_lt kept)).imp_right fun e => ⟨e, lower⟩
          · exact .inl (by omega)
          · exact (Nat.lt_or_eq_of_le (here.trans_le (Nat.le_of_not_lt kept))).imp_right
              fun e => ⟨e, earlier.trans lower⟩
        · exact least x (.inr hx)

/-- The arbiter picks the first wanting stream of its order, and none only when none is wanting. -/
theorem State.arbiterPick_first (s : State) :
    (s.arbiterPick = none → ∀ x, (s.stream x).wanting s.config.streamWindow = false) ∧
      ∀ z, s.arbiterPick = some z → ∀ x, (s.stream x).wanting s.config.streamWindow = true →
        x = z ∨ s.before z x := by
  generalize hl : (allStreams.filter fun st =>
    (s.stream st).wanting s.config.streamWindow) = l
  have listed (x : StreamId) : x ∈ l ↔ (s.stream x).wanting s.config.streamWindow = true := by
    simp only [← hl, List.mem_filter, allStreams, List.mem_finRange, true_and]
  have sorted : l.Pairwise (· < ·) := hl ▸ (List.pairwise_lt_finRange 16).filter _
  obtain ⟨none, first⟩ := foldl_first s.priority
    (fun acc st => match acc with
      | none => some st
      | some a => if s.priority st < s.priority a then some st else some a)
    (fun _ => rfl) (fun _ _ => rfl) l none sorted
  unfold State.arbiterPick
  rw [hl]
  refine ⟨fun e x => ?_, fun z e x wants => first z e x ((listed x).mpr wants)⟩
  have empty : l = [] := none e
  rw [Bool.eq_false_iff, ne_eq, ← listed, empty]
  exact List.not_mem_nil

/-! ## One grant -/

/-- A stream that has been granted n credits: with any its age is 0 (02 R40). -/
def Stream.granted (x : Stream) (n : Nat) : Stream :=
  { x with limit := x.limit + BitVec.ofNat 16 n, age := if n = 0 then x.age else 0 }

theorem Stream.granted_zero (x : Stream) : x.granted 0 = x := by
  simp [Stream.granted]

theorem Stream.granted_held {x : Stream} {n : Nat} (h : x.held + n < 65536) :
    (x.granted n).held = x.held + n := by
  simp only [Stream.held, Stream.granted] at h ⊢
  bv_omega

theorem Stream.wanting_iff {x : Stream} {w : Nat} :
    x.wanting w = true ↔ x.isOpen = true ∧ x.satisfied = false ∧ x.held < w := by
  simp [Stream.wanting, and_assoc]

/-- A wanting stream that has been granted credits wants more until its window is full. -/
theorem Stream.granted_wanting {x : Stream} {n w : Nat} (wants : x.wanting w = true) :
    (x.granted n).wanting w = true ↔ (x.granted n).held < w := by
  obtain ⟨isOpen, unsatisfied, -⟩ := Stream.wanting_iff.mp wants
  simp [Stream.wanting, Stream.granted, isOpen, unsatisfied]

section Grant
variable {t : State} {z : StreamId}

/-- The credits of one grant (02 R40). -/
def State.grantSize (t : State) (z : StreamId) : Nat :=
  min t.spare (t.config.streamWindow - (t.stream z).held)

theorem State.grantTo_stream_ne {x : StreamId} (h : x ≠ z) :
    (t.grantTo z).stream x = t.stream x := by
  rw [State.grantTo, State.makeDue_stream, State.modStream_stream_ne _ _ (Ne.symm h)]

theorem State.mem_grantTo_due {x : StreamId} : x ∈ (t.grantTo z).due ↔ x ∈ t.due ∨ x = z :=
  State.mem_makeDue

variable (spare : t.spare ≠ 0) (wants : (t.stream z).wanting t.config.streamWindow = true)
include spare wants

theorem State.grantSize_pos : t.grantSize z ≠ 0 := by
  obtain ⟨-, -, short⟩ := Stream.wanting_iff.mp wants
  unfold State.grantSize
  omega

theorem State.grantTo_stream : (t.grantTo z).stream z = (t.stream z).granted (t.grantSize z) := by
  rw [State.grantTo, State.makeDue_stream, State.modStream_stream, Stream.granted,
    if_neg (State.grantSize_pos spare wants)]
  rfl

/-- The grant fills the stream's window or uses up the spare capacity. -/
theorem State.grantTo_fills (small : t.config.streamWindow < 65536) :
    ((t.grantTo z).stream z).held = t.config.streamWindow ∨ (t.grantTo z).spare = 0 := by
  obtain ⟨-, -, short⟩ := Stream.wanting_iff.mp wants
  have size : t.grantSize z = min t.spare (t.config.streamWindow - (t.stream z).held) := rfl
  have held := Stream.granted_held (x := t.stream z) (n := t.grantSize z) (by omega)
  have credits : (t.grantTo z).totalHeld + (t.stream z).held =
      t.totalHeld + ((t.stream z).granted (t.grantSize z)).held := by
    have moved := t.modStream_totalHeld z fun x =>
      { x with limit := x.limit + BitVec.ofNat 16 (t.grantSize z), age := 0 }
    have same : (t.grantTo z).totalHeld = (t.modStream z fun x =>
        { x with limit := x.limit + BitVec.ofNat 16 (t.grantSize z), age := 0 }).totalHeld := by
      unfold State.totalHeld State.grantTo
      rw [State.makeDue_streams]
      rfl
    rw [same, moved]
    rfl
  have slots : (t.grantTo z).freeSlots = t.freeSlots := by
    simp only [State.freeSlots, State.occupied, State.grantTo_pool]
  rw [State.grantTo_stream spare wants]
  simp only [State.spare, slots] at size spare ⊢
  omega

end Grant

/-! ## The grants together -/

/-- What the arbiter does keeps what each of its grants keeps, and each goes to the first of the
wanting streams while capacity is spare (02 R40). -/
theorem State.grants_inv (P : State → Prop)
    (grant : ∀ (t : State) (z : StreamId), P t → t.spare ≠ 0 → t.arbiterPick = some z →
      P (t.grantTo z)) (n : Nat) (t : State) (h : P t) : P (State.grants n t) := by
  induction n generalizing t with
  | zero => exact h
  | succ n ih =>
    unfold State.grants
    split
    · exact h
    · next spare =>
      split
      · exact h
      · next z picked => exact ih _ (grant t z h spare picked)

/-- The streams that want credits. -/
def State.wanters (t : State) : Finset StreamId :=
  Finset.univ.filter fun x => (t.stream x).wanting t.config.streamWindow = true

/-- A grant that leaves capacity spare leaves fewer wanting streams. -/
theorem State.grantTo_wanters {t : State} {z : StreamId} (small : t.config.streamWindow < 65536)
    (spare : t.spare ≠ 0) (wants : (t.stream z).wanting t.config.streamWindow = true)
    (left : (t.grantTo z).spare ≠ 0) : (t.grantTo z).wanters.card < t.wanters.card := by
  have full := (State.grantTo_fills spare wants small).resolve_right left
  have fewer : (t.grantTo z).wanters ⊆ t.wanters.erase z := fun x hx => by
    have still := (Finset.mem_filter.mp hx).2
    rw [State.grantTo_config] at still
    have ne : x ≠ z := by
      rintro rfl
      obtain ⟨-, -, short⟩ := Stream.wanting_iff.mp still
      exact Nat.ne_of_lt short full
    rw [State.grantTo_stream_ne ne] at still
    exact Finset.mem_erase.mpr ⟨ne, Finset.mem_filter.mpr ⟨Finset.mem_univ x, still⟩⟩
  exact (Finset.card_le_card fewer).trans_lt
    (Finset.card_erase_lt_of_mem (Finset.mem_filter.mpr ⟨Finset.mem_univ z, wants⟩))

/-- Grants for each wanting stream leave no spare capacity or no stream wanting. -/
theorem State.grants_end (n : Nat) (t : State) (small : t.config.streamWindow < 65536)
    (enough : t.wanters.card ≤ n) :
    (State.grants n t).spare = 0 ∨
      ∀ x, ((State.grants n t).stream x).wanting t.config.streamWindow = false := by
  induction n generalizing t with
  | zero =>
    have none : t.wanters = ∅ := Finset.card_eq_zero.mp (Nat.le_zero.mp enough)
    refine .inr fun x => Bool.eq_false_iff.mpr fun wants => ?_
    have mem : x ∈ t.wanters := Finset.mem_filter.mpr ⟨Finset.mem_univ x, wants⟩
    simp [none] at mem
  | succ n ih =>
    unfold State.grants
    split
    · next none => exact .inl none
    · next spare =>
      obtain ⟨nobody, -⟩ := t.arbiterPick_first
      split
      · next none => exact .inr (nobody none)
      · next z picked =>
        have wants := State.arbiterPick_wanting picked
        have same : (t.grantTo z).config = t.config := State.grantTo_config t z
        by_cases left : (t.grantTo z).spare = 0
        · exact .inl (by cases n <;> simp [State.grants, left])
        · have fewer := State.grantTo_wanters small spare wants left
          have rest := ih (t.grantTo z) (by rwa [same]) (by omega)
          rwa [same] at rest

theorem State.arbitrate_end {t : State} (small : t.config.streamWindow < 65536) :
    t.arbitrate.spare = 0 ∨
      ∀ x, (t.arbitrate.stream x).wanting t.config.streamWindow = false :=
  State.grants_end 16 t small ((Finset.card_le_univ _).trans_eq (Fintype.card_fin 16))

/-! ## What the grants together leave of each stream -/

/-- What the arbiter has made of s, whose streams it grants up to w credits, when it has come
to t. -/
structure State.granting (s t : State) (w : Nat) : Prop where
  bays : t.bays = s.bays
  window : t.config.streamWindow = w
  quantum : t.config.ageQuantum = s.config.ageQuantum
  unwanted : ∀ x, (s.stream x).wanting w = false → t.stream x = { s.stream x with age := 0 }
  wanted : ∀ x, (s.stream x).wanting w = true → ∃ n, (s.stream x).held + n ≤ w ∧
    t.stream x = (s.stream x).granted n ∧ (n ≠ 0 → x ∈ t.due)
  settled : ∀ x, (s.stream x).wanting w = true →
    t.stream x = s.stream x ∨ (t.stream x).held = w ∨ t.spare = 0
  order : ∀ x y, (s.stream x).wanting w = true → (s.stream y).wanting w = true → s.before x y →
    (t.stream y).limit ≠ (s.stream y).limit → (t.stream x).held = w

section Granting
variable {s t : State} {w : Nat} (h : s.granting t w)
include h

/-- A stream that still wants while capacity is spare has been granted nothing. -/
theorem State.granting.untouched (spare : t.spare ≠ 0) {x : StreamId}
    (wants : (t.stream x).wanting w = true) :
    (s.stream x).wanting w = true ∧ t.stream x = s.stream x := by
  have before : (s.stream x).wanting w = true := by
    by_contra no
    rw [Bool.not_eq_true] at no
    rw [h.unwanted x no] at wants
    exact Bool.noConfusion (no.symm.trans wants)
  obtain ⟨-, -, short⟩ := Stream.wanting_iff.mp wants
  refine ⟨before, (h.settled x before).resolve_right fun settled => ?_⟩
  exact settled.elim (Nat.ne_of_lt short) spare

/-- A stream wanted before and wanting no more has its window full. -/
theorem State.granting.full (small : w < 65536) {x : StreamId}
    (wanted : (s.stream x).wanting w = true) (sated : (t.stream x).wanting w = false) :
    (t.stream x).held = w := by
  obtain ⟨n, most, granted, -⟩ := h.wanted x wanted
  rw [granted] at sated ⊢
  have held := Stream.granted_held (x := s.stream x) (n := n) (by omega)
  have enough : ¬ ((s.stream x).granted n).held < w := fun short => by
    rw [(Stream.granted_wanting wanted).mpr short] at sated
    exact Bool.noConfusion sated
  omega

theorem State.granting.priority {x : StreamId} (same : t.stream x = s.stream x) :
    t.priority x = s.priority x := by
  have urgency : t.streamUrgency x = s.streamUrgency x := by
    simp only [State.streamUrgency, State.receivingBays, State.bay, h.bays]
  simp only [State.priority, same, urgency, h.quantum]

/-- A grant to the first of the wanting streams. -/
theorem State.granting.grantTo (small : w < 65536) (spare : t.spare ≠ 0) {z : StreamId}
    (picked : t.arbiterPick = some z) : s.granting (t.grantTo z) w := by
  have wants : (t.stream z).wanting w = true := h.window ▸ State.arbiterPick_wanting picked
  obtain ⟨wanted, same⟩ := h.untouched spare wants
  have wants' : (t.stream z).wanting t.config.streamWindow = true := h.window.symm ▸ wants
  have granted := State.grantTo_stream spare wants'
  have fills := State.grantTo_fills spare wants' (h.window.symm ▸ small)
  rw [h.window] at fills
  rw [same] at granted
  obtain ⟨-, -, short⟩ := Stream.wanting_iff.mp wanted
  have size : t.grantSize z ≤ w - (s.stream z).held := by
    rw [State.grantSize, h.window, same]
    exact Nat.min_le_right ..
  refine ⟨(State.grantTo_bays t z).trans h.bays, ?_, ?_, fun x hx => ?_, fun x hx => ?_,
    fun x hx => ?_, fun x y hx hy first changed => ?_⟩
  · rw [State.grantTo_config, h.window]
  · rw [State.grantTo_config, h.quantum]
  · have ne : x ≠ z := fun e => by rw [e, wanted] at hx; exact Bool.noConfusion hx
    rw [State.grantTo_stream_ne ne, h.unwanted x hx]
  · by_cases e : x = z
    · subst e
      exact ⟨t.grantSize x, by omega, granted, fun _ => State.mem_grantTo_due.mpr (.inr rfl)⟩
    · obtain ⟨n, most, was, due⟩ := h.wanted x hx
      exact ⟨n, most, (State.grantTo_stream_ne e).trans was,
        fun hn => State.mem_grantTo_due.mpr (.inl (due hn))⟩
  · by_cases e : x = z
    · exact .inr (e ▸ fills)
    · rw [State.grantTo_stream_ne e]
      exact (h.settled x hx).imp_right fun settled => .inl (settled.resolve_right spare)
  · have sated : x ≠ z ∧ (t.stream x).held = w := by
      by_cases e : y = z
      · subst e
        have ne : x ≠ y := by
          rintro rfl
          simp [State.before] at first
        refine ⟨ne, h.full small hx (Bool.eq_false_iff.mpr fun still => ?_)⟩
        obtain ⟨-, least⟩ := t.arbiterPick_first
        obtain ⟨-, kept⟩ := h.untouched spare still
        have order := (least y picked x (h.window.symm ▸ still)).resolve_left ne
        simp only [State.before, h.priority kept, h.priority same, Fin.lt_def] at order first
        omega
      · rw [State.grantTo_stream_ne e] at changed
        have full := h.order x y hx hy first changed
        refine ⟨?_, full⟩
        rintro rfl
        rw [same] at full
        omega
    obtain ⟨ne, full⟩ := sated
    rw [State.grantTo_stream_ne ne, full]

end Granting

/-! ## A risen window (02 R39, R40) -/

/-- A state whose stream window has been set, the streams that it leaves unwanted being of age 0. -/
def State.windowed (s : State) (w : Nat) : State :=
  (s.modConfig fun c => { c with streamWindow := w }).zeroAges

theorem State.windowed_stream (s : State) (w : Nat) (x : StreamId) :
    (s.windowed w).stream x =
      if (s.stream x).wanting w then s.stream x else { s.stream x with age := 0 } :=
  Table.get_map ..

/-- Before its first grant the arbiter has the streams as the new window leaves them. -/
theorem State.granting_windowed (s : State) (w : Nat) : s.granting (s.windowed w) w where
  bays := rfl
  window := rfl
  quantum := rfl
  unwanted x hx := by rw [State.windowed_stream, if_neg (by simp [hx])]
  wanted x hx := by
    obtain ⟨-, -, short⟩ := Stream.wanting_iff.mp hx
    refine ⟨0, Nat.le_of_lt short, ?_, fun no => absurd rfl no⟩
    rw [State.windowed_stream, if_pos hx, Stream.granted_zero]
  settled x hx := .inl (by rw [State.windowed_stream, if_pos hx])
  order x y _ hy _ changed := absurd (by rw [State.windowed_stream, if_pos hy]) changed

theorem State.granting_arbitrate {s : State} {w : Nat} (small : w < 65536) :
    s.granting (s.windowed w).arbitrate w :=
  State.grants_inv (s.granting · w) (fun _ _ h spare picked => h.grantTo small spare picked) 16 _
    (s.granting_windowed w)

/-- A window stored that is larger than the one before. -/
theorem State.store_window {s : State} {w : Nat} (rises : s.config.streamWindow < w) :
    s.store .streamWindow w = (s.windowed w).arbitrate :=
  if_pos rises

/-! ## WRITE CONFIG (08 R151) -/

/-- The body of an answered WRITE CONFIG. -/
def State.writtenBody (s : State) (code bay : Byte) (p : Parameter) (value : Word) : List Byte :=
  settingBody code bay (s.clampSetting p value.toNat) ++
    if p = .th1 then u32 (s.store p (s.clampSetting p value.toNat)).config.th2 else []

section Served
variable {s : State} {q : QueuedRequest} {rest : List QueuedRequest} (h : s.serves q rest)
include h

theorem exec_writeConfig {code bay : Byte} {value : Word} {p : Parameter}
    (hq : q.request = .writeConfig code bay value) (hp : namedParameter code bay = .parameter p) :
    exec .writeConfig s = .next
      (((s.taken rest).store p ((s.taken rest).clampSetting p value.toNat)).replied q .done
        ((s.taken rest).writtenBody code bay p value)) := by
  refine congrArg Host.Outcome.next (State.execute_done h ?_ ?_)
  · rw [hq]
    simp only [handleWriteConfig, State.writeConfig, hp]
    rfl
  · obtain ⟨-, -, -, -, -, uplink⟩ :=
      (s.taken rest).store_frame p ((s.taken rest).clampSetting p value.toNat)
    exact uplink

end Served

/-- Settles O16: the value is clamped and stored, and a risen window is the arbiter's grants. -/
theorem configWritten : Obligations.ConfigWritten := by
  unfold Obligations.ConfigWritten
  intro s q rest code bay value h hq
  refine ⟨fun p hp => ?_, fun hp => ?_, fun hp => ?_⟩
  · have value_eq := (s.taken rest).clampSetting_eq p value.toNat
    obtain ⟨low, high⟩ := (s.taken rest).clampSetting_mem p value.toNat
    have ran := exec_writeConfig h hq hp
    unfold State.writtenBody at ran
    generalize (s.taken rest).clampSetting p value.toNat = v at *
    obtain ⟨manifest, departures, clock, resume, mgmt, uplink⟩ := (s.taken rest).store_frame p v
    have stored := State.store_setting high
    refine ⟨_, _, ran, stored.trans value_eq, fun other => ?_, fun th1 => ?_, fun r hr th => ?_,
      manifest, departures, clock, resume, congrArg Mgmt.queue mgmt, uplink, fun window rises => ?_⟩
    · rw [if_neg other, List.append_nil, stored]
      rfl
    · subst th1
      refine ⟨?_, ?_⟩
      · rw [if_pos rfl, stored]
        rfl
      · rw [stored]
        exact State.store_th2
    · exact State.store_setting_ne hr th
    · subst window
      rw [stored] at rises ⊢
      have most : v ≤ 32 := high
      rw [State.store_window (s := s.taken rest) rises]
      have granting := State.granting_arbitrate (s := s.taken rest) (w := v) (by omega)
      refine ⟨State.arbitrate_pool _, granting.bays, ?_, ?_, ?_, ?_⟩
      · exact State.arbitrate_end (t := (s.taken rest).windowed v)
          (Nat.lt_of_le_of_lt most (by decide))
      · exact granting.unwanted
      · exact granting.wanted
      · exact granting.order
  · exact congrArg _ (State.execute_malformed h (by
      rw [hq]; simp only [handleWriteConfig, State.writeConfig, hp]))
  · exact congrArg _ (State.execute_refused h (by
      rw [hq]; simp only [handleWriteConfig, State.writeConfig, hp]) (by decide))

end Sys2Proof.Machine
